-- ==== Sys2Proof/Word.lean ====
section
/-!
DEFINITION. The words of the part (spec/00_scope.md section 5.1): memory words, word addresses,
conveyor positions and values of the counts M and T.
-/
namespace Sys2Proof

/-- A memory word, 32 bits (section 5.1). -/
abbrev Word := BitVec 32

/-- A word address, 24 bits (section 5.1). -/
abbrev Addr := BitVec 24

/-- A conveyor position in encoder counts, 24 bits (R115). -/
abbrev Pos := BitVec 24

/-- A value of the monotonic count M or of machine time T, 48 bits (R48, R49). -/
abbrev Micros := BitVec 48

end Sys2Proof
end

