-- ==== Sys2Proof/Config.lean ====
section
/-!
DEFINITION. The free values: what spec/ leaves open and the model does not choose. Each is a
constant without a body, so that nothing can be proved about its value.
-/
namespace Sys2Proof

/-- Which of several events that are due together is taken first. The spec says that either order
may occur (R39, R50, R58 and the like). Applied to the count of the choices made so far, taken
modulo the number of due events. Log 2. -/
opaque Config.tieBreak : Nat → Nat

/-- What a START report shows as the accept code of group g where the group is not applied and its
stored code cannot be shown: a group coded 01 but not applied, or a store that is bad. R167 says
only that 01 is not shown. Log 7. -/
opaque Config.unappliedCode : Nat → BitVec 2

/-- What TIME_QUERY shows as the time left to lapse while no set is pending, applied to M and taken
modulo 2,000,001: R64 gives the field the range 0 to 2,000,000 and no value for this case. Log 13. -/
opaque Config.lapseLeftWithoutSet : Nat → Nat

/-- The parameters A, B, Q and K (numbered 0 to 3) that a setting UNPACED given by PACE_SET holds, applied
to M and taken within their ranges: R41 does not examine the values given with mode UNPACED and states
none for what its result then shows. Log 21. -/
opaque Config.unpacedParam : Nat → Nat → Nat

end Sys2Proof
end

