-- ==== Sys2Proof/Syntax.lean ====
section
/-!
DEFINITION. The commands of the block: one constructor of `Instr` for every row of
spec/opcode_table.json, and the types of their operands.
-/
namespace Sys2Proof

/-- The five bus masters, by the ports M0 to M4 (spec/00_scope.md section 2.1). -/
inductive Master where
  | line | switch | camera | robotlink | service
  deriving DecidableEq, Repr

/-- The six filler robots (R81). -/
inductive Robot where
  | r1 | r2 | r3 | r4 | r5 | r6
  deriving DecidableEq, Repr

/-- The eight ports of the cabinet switch (R67). -/
inductive SwPort where
  | p1 | p2 | p3 | p4 | p5 | p6 | p7 | p8
  deriving DecidableEq, Repr

/-- The four inspection cameras (R117); `c1` is the lead camera. -/
inductive Cam where
  | c1 | c2 | c3 | c4
  deriving DecidableEq, Repr

/-- The four command slots of the command page (R158). -/
inductive Slot where
  | s0 | s1 | s2 | s3
  deriving DecidableEq, Repr

/-- The direction of a request (spec/01_transit_path.md section 1.1). -/
inductive Dir where
  | read | write
  deriving DecidableEq, Repr

/-- The four lengths a request lane can express (section 1.1). -/
inductive BurstLen where
  | one | two | four | eight
  deriving DecidableEq, Repr

/-- One word of a write with its byte enables: bit i of `enables` is byte i (section 1.1, R2). -/
structure WriteWord where
  data : Word
  enables : BitVec 4
  deriving DecidableEq, Repr

/-- A request as a master presents it (section 1.1). `words` is empty for a read. -/
structure Request where
  dir : Dir
  addr : Addr
  len : BurstLen
  words : List WriteWord
  deriving DecidableEq, Repr

/-- Which request a memory completion answers: the one at the memory controller, or one that was
sent before the last power-on (R16). -/
inductive AnswerOrigin where
  | current | beforePowerOn
  deriving DecidableEq, Repr

/-- The direction of a pulse on ENC_STEP, the level of ENC_DIR (R115). -/
inductive Travel where
  | forward | reverse
  deriving DecidableEq, Repr

/-- The commands of the block, one for each row of spec/opcode_table.json. A command of the control
page carries its slot and `rest`, bits 8 to 31 of the opcode word (R159); its parameters stand in
the slot's parameter copy. A row that takes a notice or the expiry of a one-off timer has no
operand: the notice stands in the block's channel, the timer in its state. -/
inductive Instr where
  /-- REQUEST_ARRIVAL (R4): `m` presents `r` on its lane, and the port takes what its lane holds. -/
  | requestArrival (m : Master) (r : Request)
  /-- MEMORY_COMPLETION (R14): the memory controller answers a master port's transaction. -/
  | memoryCompletion (origin : AnswerOrigin) (ok : Bool) (data : List Word)
  /-- INTERNAL_WRITE_COMPLETION (R13): the memory controller answers an internal write. -/
  | internalWriteCompletion (origin : AnswerOrigin) (ok : Bool)
  /-- SERVICE_REFUSAL (R7): the Pacing Unit takes the Service Window's refusal. -/
  | serviceRefusal
  /-- REFILL_EXPIRY (R40): the refill timer of `m` expires. -/
  | refillExpiry (m : Master)
  /-- PACE_SET (R41), opcode 0x31. -/
  | paceSet (slot : Slot) (rest : BitVec 24)
  /-- LIMITER_WINDOW_END (R32): the window of the limiter of `m` ends. -/
  | limiterWindowEnd (m : Master)
  /-- HALL_PULSE (R52): a rising edge on HALL_PPS. -/
  | hallPulse
  /-- CORRECTION_ADJUSTMENT (R50): an adjustment point of the correction period. -/
  | correctionAdjustment
  /-- CORRECTION_PERIOD (R50): a correction period of HOLDOVER or DRIFTING ends. -/
  | correctionPeriod
  /-- PULSE_WATCH_EXPIRY (R58). -/
  | pulseWatchExpiry
  /-- HOLDOVER_LIMIT (R60). -/
  | holdoverLimit
  /-- CLOCK_SOURCE_NOTICE (R59): the Hall Clock takes its next notice of the Switch Watch. -/
  | clockSourceNotice
  /-- TIME_SET (R61), opcode 0x20. -/
  | timeSet (slot : Slot) (rest : BitVec 24)
  /-- TIME_SET_LAPSED (R63). -/
  | timeSetLapsed
  /-- TIME_QUERY (R64), opcode 0x21. -/
  | timeQuery (slot : Slot) (rest : BitVec 24)
  /-- SWITCH_TIMEOUT (R77). -/
  | switchTimeout
  /-- SWITCH_QUERY (R79), opcode 0x50. -/
  | switchQuery (slot : Slot) (rest : BitVec 24)
  /-- HEARTBEAT_TIMEOUT (R90). -/
  | heartbeatTimeout (r : Robot)
  /-- PICKUP_TIMEOUT (R91). -/
  | pickupTimeout (r : Robot)
  /-- FILL_TIMEOUT (R92). -/
  | fillTimeout (r : Robot)
  /-- ROBOT_LINK_NOTICE (R93): the Robot Guard takes its next link notice. -/
  | robotLinkNotice
  /-- FILLER_CREDIT (R94): the Robot Guard takes its next credit of the Tracker. -/
  | fillerCredit
  /-- KEEPALIVE_NOTICE (R96): the Robot Guard takes its next keepalive notice. -/
  | keepaliveNotice
  /-- TRANSFER_REQUEST (R102): the Robot Guard takes a transfer request. -/
  | transferRequest
  /-- ROBOT_RETURN (R103): the Robot Guard takes a return. -/
  | robotReturn
  /-- ROBOT_ARM (R97), opcode 0x01. -/
  | robotArm (slot : Slot) (rest : BitVec 24)
  /-- ROBOT_CLEAR (R98), opcode 0x02. -/
  | robotClear (slot : Slot) (rest : BitVec 24)
  /-- ROBOT_HOLD (R99), opcode 0x03. -/
  | robotHold (slot : Slot) (rest : BitVec 24)
  /-- ROBOT_RELEASE (R100), opcode 0x04. -/
  | robotRelease (slot : Slot) (rest : BitVec 24)
  /-- ROBOT_QUERY (R101), opcode 0x06. -/
  | robotQuery (slot : Slot) (rest : BitVec 24)
  /-- QUARANTINE_SET (R95), opcode 0x07. -/
  | quarantineSet (slot : Slot) (rest : BitVec 24)
  /-- ROBOT_ENVELOPE (R111), opcode 0x05. -/
  | robotEnvelope (slot : Slot) (rest : BitVec 24)
  /-- ENCODER_PULSE (R115): a pulse on ENC_STEP. -/
  | encoderPulse (d : Travel)
  /-- CAMERA_TRIGGER (R121): a rising edge on CAM_TRIGk. -/
  | cameraTrigger (k : Cam)
  /-- CAMERA_OFFLINE (R126): the Tracker takes a camera-offline notice. -/
  | cameraOffline
  /-- CAMERA_ONLINE (R127): the Tracker takes a camera-online notice. -/
  | cameraOnline
  /-- TRACK_START (R118), opcode 0x10. -/
  | trackStart (slot : Slot) (rest : BitVec 24)
  /-- TRACK_STOP (R129), opcode 0x11. -/
  | trackStop (slot : Slot) (rest : BitVec 24)
  /-- TRACK_QUERY (R130), opcode 0x12. -/
  | trackQuery (slot : Slot) (rest : BitVec 24)
  /-- SERVICE_KEY (R145): SVC_KEY takes the level `level` (true is on). -/
  | serviceKey (level : Bool)
  /-- SERVICE_GRANT (R146), opcode 0x40. -/
  | serviceGrant (slot : Slot) (rest : BitVec 24)
  /-- SERVICE_EXTEND (R149), opcode 0x41. -/
  | serviceExtend (slot : Slot) (rest : BitVec 24)
  /-- SERVICE_REVOKE (R150), opcode 0x42. -/
  | serviceRevoke (slot : Slot) (rest : BitVec 24)
  /-- WINDOW_TIMER_EXPIRY (R149). -/
  | windowTimerExpiry
  /-- SERVICE_LINK_LOSS (R150): the Service Window takes a link-loss notice. -/
  | serviceLinkLoss
  /-- TRANSFER_ANSWER (R147): the Service Window takes its next answer of the Robot Guard. -/
  | transferAnswer
  /-- KEEPALIVE_SET (R161), opcode 0x30. -/
  | keepaliveSet (slot : Slot) (rest : BitVec 24)
  /-- KEEPALIVE_WRITE (R162): an admitted LINE write of `value`, all enables set, to page offset 64. -/
  | keepaliveWrite (value : Word)
  /-- KEEPALIVE_LAPSED (R162): the keepalive timer expires. -/
  | keepaliveLapsed
  /-- TAKE_INDEX_WRITE (R163): an admitted LINE write of `value`, all enables set, to page offset 65. -/
  | takeIndexWrite (value : Word)
  /-- UNKNOWN_OPCODE (R159): an opcode word whose opcode names no command and is not 0. -/
  | unknownOpcode (slot : Slot) (word : Word)
  /-- RELOAD (R169), opcode 0x60. -/
  | reload (slot : Slot) (rest : BitVec 24)
  /-- LOAD_END (R167): the load in progress ends with the self-check's result and the store as read,
  or `none` where the store did not answer; words beyond the list's end are 0. -/
  | loadEnd (selfCheckPass : Bool) (store : Option (List (BitVec 16)))
  /-- POWER_ON (R16): PORST, released with SVC_KEY at the level `key`. -/
  | powerOn (key : Bool)
  /-- CABINET_RESET (R168): CRST. -/
  | cabinetReset
  deriving DecidableEq, Repr

end Sys2Proof
end

