-- ==== Sys2Proof/Decode.lean ====
section
/-!
DEFINITION. What a word spells. The rows of spec/opcode_table.json give no bits, so no word spells a
command by the table (`decodeTableWord`). The opcode field of the command page's opcode word does
name a command (R159 and the command summary of spec/11 section 11.2): `commandOf`. Beside them stand
the numbers by which the spec names masters, robots, ports, cameras and slots.
-/
namespace Sys2Proof

/-- The command that the table's bits of a word spell: no row of the table gives bits. -/
def decodeTableWord (_nbits _w : Nat) : Option Instr := none

/-- The number of words of a burst (spec/01 section 1.1). -/
def BurstLen.words : BurstLen → Nat
  | .one => 1
  | .two => 2
  | .four => 4
  | .eight => 8

/-- The codes of the command summary (spec/11 section 11.2). -/
def commandCodes : List (BitVec 8) :=
  [0x01, 0x02, 0x03, 0x04, 0x05, 0x06, 0x07, 0x10, 0x11, 0x12, 0x20, 0x21, 0x30, 0x31,
   0x40, 0x41, 0x42, 0x50, 0x60]

/-- The opcode field of an opcode word, bits 0 to 7 (spec/11 section 11.9). -/
def opcodeField (w : Word) : BitVec 8 := w.setWidth 8

/-- The page field of an opcode word, bits 8 and 9 (spec/11 section 11.9). -/
def pageField (w : Word) : Nat := (w.extractLsb' 8 2).toNat

/-- The opcode word with the opcode field `code` and the bits `rest` above it. -/
def opcodeWord (code : BitVec 8) (rest : BitVec 24) : Word := rest ++ code

/-- The command of the control page that an opcode word written to a slot issues (R159): `none` for
an opcode field of 0, which issues nothing. -/
def commandOf (slot : Slot) (w : Word) : Option Instr :=
  let rest : BitVec 24 := w.extractLsb' 8 24
  if opcodeField w = 0 then none
  else if opcodeField w = 0x01 then some (.robotArm slot rest)
  else if opcodeField w = 0x02 then some (.robotClear slot rest)
  else if opcodeField w = 0x03 then some (.robotHold slot rest)
  else if opcodeField w = 0x04 then some (.robotRelease slot rest)
  else if opcodeField w = 0x05 then some (.robotEnvelope slot rest)
  else if opcodeField w = 0x06 then some (.robotQuery slot rest)
  else if opcodeField w = 0x07 then some (.quarantineSet slot rest)
  else if opcodeField w = 0x10 then some (.trackStart slot rest)
  else if opcodeField w = 0x11 then some (.trackStop slot rest)
  else if opcodeField w = 0x12 then some (.trackQuery slot rest)
  else if opcodeField w = 0x20 then some (.timeSet slot rest)
  else if opcodeField w = 0x21 then some (.timeQuery slot rest)
  else if opcodeField w = 0x30 then some (.keepaliveSet slot rest)
  else if opcodeField w = 0x31 then some (.paceSet slot rest)
  else if opcodeField w = 0x40 then some (.serviceGrant slot rest)
  else if opcodeField w = 0x41 then some (.serviceExtend slot rest)
  else if opcodeField w = 0x42 then some (.serviceRevoke slot rest)
  else if opcodeField w = 0x50 then some (.switchQuery slot rest)
  else if opcodeField w = 0x60 then some (.reload slot rest)
  else some (.unknownOpcode slot w)

/-! ### Numbers by which the spec names them -/

/-- The number of a `Master` (0 is the first; spec/00 section 5.3). -/
def Master.num : Master → Nat
  | .line => 0
  | .switch => 1
  | .camera => 2
  | .robotlink => 3
  | .service => 4

/-- The `Master` a number names, if it names one. -/
def Master.ofNum? : Nat → Option Master
  | 0 => some .line
  | 1 => some .switch
  | 2 => some .camera
  | 3 => some .robotlink
  | 4 => some .service
  | _ => none

/-- The number of a `Robot` (1 is the first; spec/00 section 5.3). -/
def Robot.num : Robot → Nat
  | .r1 => 1
  | .r2 => 2
  | .r3 => 3
  | .r4 => 4
  | .r5 => 5
  | .r6 => 6

/-- The `Robot` a number names, if it names one. -/
def Robot.ofNum? : Nat → Option Robot
  | 1 => some .r1
  | 2 => some .r2
  | 3 => some .r3
  | 4 => some .r4
  | 5 => some .r5
  | 6 => some .r6
  | _ => none

/-- The number of a `SwPort` (1 is the first; spec/00 section 5.3). -/
def SwPort.num : SwPort → Nat
  | .p1 => 1
  | .p2 => 2
  | .p3 => 3
  | .p4 => 4
  | .p5 => 5
  | .p6 => 6
  | .p7 => 7
  | .p8 => 8

/-- The `SwPort` a number names, if it names one. -/
def SwPort.ofNum? : Nat → Option SwPort
  | 1 => some .p1
  | 2 => some .p2
  | 3 => some .p3
  | 4 => some .p4
  | 5 => some .p5
  | 6 => some .p6
  | 7 => some .p7
  | 8 => some .p8
  | _ => none

/-- The number of a `Cam` (1 is the first; spec/00 section 5.3). -/
def Cam.num : Cam → Nat
  | .c1 => 1
  | .c2 => 2
  | .c3 => 3
  | .c4 => 4

/-- The `Cam` a number names, if it names one. -/
def Cam.ofNum? : Nat → Option Cam
  | 1 => some .c1
  | 2 => some .c2
  | 3 => some .c3
  | 4 => some .c4
  | _ => none

/-- The number of a `Slot` (0 is the first; spec/00 section 5.3). -/
def Slot.num : Slot → Nat
  | .s0 => 0
  | .s1 => 1
  | .s2 => 2
  | .s3 => 3

/-- The `Slot` a number names, if it names one. -/
def Slot.ofNum? : Nat → Option Slot
  | 0 => some .s0
  | 1 => some .s1
  | 2 => some .s2
  | 3 => some .s3
  | _ => none

/-- READ, WRITE, in the order of spec/01 section 1.1. -/
def Dir.code : Dir → Nat
  | .read => 0
  | .write => 1

end Sys2Proof
end

