-- ==== Sys2Proof/WellFormed.lean ====
section
/-!
DEFINITION. The operands that can reach the part. Each check names the sentence of spec/ it rests on;
a command that fails one is refused as malformed where its meaning meets it (log 8).
-/
namespace Sys2Proof

/-- A write carries as many words as its length, a read carries none (spec/01 section 1.1). -/
def Request.wf (r : Request) : Bool :=
  match r.dir with
  | .read => r.words.isEmpty
  | .write => r.words.length == r.len.words

/-- The memory controller's answer carries the data of a read of 1, 2, 4 or 8 words, or none. -/
def answerWf (data : List Word) : Bool :=
  data.length == 0 || data.length == 1 || data.length == 2 || data.length == 4 || data.length == 8

/-- An opcode field that names no command and is not 0 (R159). -/
def unknownWf (w : Word) : Bool :=
  opcodeField w != 0 && !(commandCodes.contains (opcodeField w))

/-- The store holds 2048 words (spec/11 section 11.6). -/
def storeWf (store : Option (List (BitVec 16))) : Bool :=
  match store with
  | none => true
  | some ws => decide (ws.length ≤ 2048)

/-- The operands of a command are such that a lane, the opcode field or the store can carry them. -/
def Instr.wf : Instr → Bool
  | .requestArrival _ r => r.wf
  | .memoryCompletion _ _ data => answerWf data
  | .unknownOpcode _ w => unknownWf w
  | .loadEnd _ store => storeWf store
  | .internalWriteCompletion _ _ => true
  | .serviceRefusal => true
  | .refillExpiry _ => true
  | .paceSet _ _ => true
  | .limiterWindowEnd _ => true
  | .hallPulse => true
  | .correctionAdjustment => true
  | .correctionPeriod => true
  | .pulseWatchExpiry => true
  | .holdoverLimit => true
  | .clockSourceNotice => true
  | .timeSet _ _ => true
  | .timeSetLapsed => true
  | .timeQuery _ _ => true
  | .switchTimeout => true
  | .switchQuery _ _ => true
  | .heartbeatTimeout _ => true
  | .pickupTimeout _ => true
  | .fillTimeout _ => true
  | .robotLinkNotice => true
  | .fillerCredit => true
  | .keepaliveNotice => true
  | .transferRequest => true
  | .robotReturn => true
  | .robotArm _ _ => true
  | .robotClear _ _ => true
  | .robotHold _ _ => true
  | .robotRelease _ _ => true
  | .robotQuery _ _ => true
  | .quarantineSet _ _ => true
  | .robotEnvelope _ _ => true
  | .encoderPulse _ => true
  | .cameraTrigger _ => true
  | .cameraOffline => true
  | .cameraOnline => true
  | .trackStart _ _ => true
  | .trackStop _ _ => true
  | .trackQuery _ _ => true
  | .serviceKey _ => true
  | .serviceGrant _ _ => true
  | .serviceExtend _ _ => true
  | .serviceRevoke _ _ => true
  | .windowTimerExpiry => true
  | .serviceLinkLoss => true
  | .transferAnswer => true
  | .keepaliveSet _ _ => true
  | .keepaliveWrite _ => true
  | .keepaliveLapsed => true
  | .takeIndexWrite _ => true
  | .reload _ _ => true
  | .powerOn _ => true
  | .cabinetReset => true

end Sys2Proof
end

