-- ==== Sys2Proof/Machine/State.lean ====
section
/-!
DEFINITION. The state of the block, all of it plain data: every register, table, queue, timer and
counter that spec/ gives the FH-6, the notices its blocks have sent and not yet taken, and the queue
of commands that wait. Then the machine right after power-on.
-/
namespace Sys2Proof.Machine

/-! ### Small tables, one value for each member of a fixed set -/

/-- A value for each of the five masters. -/
structure PerMaster (α : Type) where
  line : α
  switch : α
  camera : α
  robotlink : α
  service : α
  deriving DecidableEq, Repr

/-- A value for each of the six robots, or of the six fillers. -/
structure PerRobot (α : Type) where
  r1 : α
  r2 : α
  r3 : α
  r4 : α
  r5 : α
  r6 : α
  deriving DecidableEq, Repr

/-- A value for each of the eight switch ports. -/
structure PerPort (α : Type) where
  p1 : α
  p2 : α
  p3 : α
  p4 : α
  p5 : α
  p6 : α
  p7 : α
  p8 : α
  deriving DecidableEq, Repr

/-- A value for each of the four cameras. -/
structure PerCam (α : Type) where
  c1 : α
  c2 : α
  c3 : α
  c4 : α
  deriving DecidableEq, Repr

/-- A value for each of the four command slots. -/
structure PerSlot (α : Type) where
  s0 : α
  s1 : α
  s2 : α
  s3 : α
  deriving DecidableEq, Repr

/-! ### Hall Clock (spec/04) -/

/-- The discipline state (section 4.1). -/
inductive ClockState where
  | unset | locking | locked | holdover | drifting
  deriving DecidableEq, Repr

/-- The causes of a TIME_STATE report (R65). -/
inductive TimeCause where
  | setApplied | lockRun | outliers | pulseResumed | pulseMissing | sourceLost | holdoverLimit
  deriving DecidableEq, Repr

/-- The causes of a TIME_STEPPED report (R65). -/
inductive StepCause where
  | setApplied | phaseStep
  deriving DecidableEq, Repr

/-- A stamp: T, quality and the STEPPED flag (spec/04 section 4.3). -/
structure Stamp where
  t : Micros
  quality : BitVec 2
  stepped : Bool
  deriving DecidableEq, Repr

/-- A moment on M that the part remembers: its value of M, and whether M has since come round to that
value, 2^48 µs later. -/
structure Moment where
  start : Micros
  past : Bool
  deriving DecidableEq, Repr

/-- The set waiting for an accepted pulse, and the start of its lapse timer (R61). -/
structure PendingSet where
  seconds : Nat
  start : Micros
  deriving DecidableEq, Repr

/-- The Hall Clock (spec/04 section 4.1). `f`, `c` are in µs per second. `periodStart` and
`adjustments` are the beginning of the correction period and the adjustment points taken in it
(R50); `holdoverStart` is the entry to HOLDOVER, kept in DRIFTING (R64). -/
structure Clock where
  m : Micros
  t : Micros
  state : ClockState
  f : Int
  c : Int
  lockRun : Nat
  outlierRun : Nat
  pendingSet : Option PendingSet
  holdoverLimit : Nat
  periodStart : Micros
  adjustments : Nat
  lastAccepted : Option Moment
  pulseWatch : Option Micros
  holdoverStart : Option Moment
  lastReplaced : Option Moment
  accepted : Nat
  glitches : Nat
  untrusted : Nat
  lastError : Int
  deriving DecidableEq, Repr

/-! ### Region Map and denials (spec/02) -/

/-- The kinds of a region (section 2.1). -/
inductive RegionKind where
  | plain | stamped | orders | status | verdicts | ports | control | reports
  deriving DecidableEq, Repr

/-- A region entry (section 2.1). The kind is held as the code the store gives it (section 11.9), so
that a disabled entry keeps its fields as stored (R28). Bit m of a rights set is master Mm. -/
structure RegionEntry where
  enabled : Bool
  base : Nat
  size : Nat
  kindCode : BitVec 4
  readRights : BitVec 5
  writeRights : BitVec 5
  weight : Nat
  deriving DecidableEq, Repr

/-- A read-rights set and a write-rights set, as open space has them (R18). -/
structure RightsPair where
  read : BitVec 5
  write : BitVec 5
  deriving DecidableEq, Repr

/-- The map in force: the region entries 0 to 15 and the open-space setting (R18). -/
structure RegionMap where
  entries : List RegionEntry
  openSpace : RightsPair
  deriving DecidableEq, Repr

/-- Where a request falls: a region entry by its index, or open space (R20). -/
inductive RegionRef where
  | entry (index : Nat) | openSpace
  deriving DecidableEq, Repr

/-- The causes of a denial (section 2.6). -/
inductive DenialCause where
  | alignment | crossing | rights | window | kind
  deriving DecidableEq, Repr

/-- The particulars of a denial (R30); `region` is `none` for a denial at step 1. -/
structure Particulars where
  cause : DenialCause
  dir : Dir
  addr : Addr
  len : BurstLen
  region : Option RegionRef
  deriving DecidableEq, Repr

/-- A report limiter (R31): QUIET, or MUTED with its window end on M, the suppressed count and the
particulars of the latest suppressed denial. -/
inductive LimiterMode where
  | quiet
  | muted (windowEnd : Micros) (suppressed : Nat) (latest : Option Particulars)
  deriving DecidableEq, Repr

/-- A master's denial total and report limiter (R30). -/
structure Limiter where
  total : Nat
  mode : LimiterMode
  deriving DecidableEq, Repr

/-! ### Pacing Unit (spec/03) -/

/-- A pacing setting (section 3.1). The parameters of an UNPACED setting are held and have no
effect. -/
structure PaceSetting where
  paced : Bool
  a : Nat
  b : Nat
  q : Nat
  k : Nat
  deriving DecidableEq, Repr

/-- The account of a paced master: the credit and the start of the running refill interval (R35,
R36). -/
structure Account where
  credit : Int
  timer : Micros
  deriving DecidableEq, Repr

/-- What the Pacing Unit keeps for one master (R35, section 3.6). -/
structure Pace where
  inForce : PaceSetting
  buffered : Option PaceSetting
  account : Option Account
  delivered : PaceSetting
  deriving DecidableEq, Repr

/-! ### Transit Path (spec/01) -/

/-- An admitted transaction: the request as it goes to memory, and the region, kind and offset of its
first word found at the admitting lookup (R4, R20). -/
structure Txn where
  dir : Dir
  addr : Addr
  len : BurstLen
  words : List WriteWord
  region : RegionRef
  kind : RegionKind
  offset : Nat
  deriving DecidableEq, Repr

/-- The state of a master port (R1). -/
inductive PortState where
  | empty
  | held (r : Request)
  | waiting (t : Txn)
  | inMemory (t : Txn)
  deriving DecidableEq, Repr

/-- The memory port (R9): free, or busy with the transaction of a master port or with a write of the
internal writer. -/
inductive MemPort where
  | free
  | master (m : Master)
  | internal
  deriving DecidableEq, Repr

/-- The status of a completion (section 1.1). -/
inductive Status where
  | okay | denied | fault
  deriving DecidableEq, Repr

/-- A completion as it is delivered (section 1.1). -/
structure Completion where
  status : Status
  data : List Word
  deriving DecidableEq, Repr

/-- The Transit Path: ports, the requests waiting on the lanes, the completion each lane carried
last (log 3), the memory port and the arbiter's pointer (R1, R9, R10). -/
structure Transit where
  ports : PerMaster PortState
  lanes : PerMaster (List Request)
  completions : PerMaster (Option Completion)
  memPort : MemPort
  pointer : Master
  deriving DecidableEq, Repr

/-! ### Switch Watch (spec/05) -/

/-- The roles of a switch port (section 5.1). -/
inductive Role where
  | unused | uplink | timeSource | robotLink | camera | service
  deriving DecidableEq, Repr

/-- A Port Table entry (section 5.1). `linkUp` is link_now UP. -/
structure PortEntry where
  role : Role
  linkUp : Bool
  downLatched : Bool
  stormLatched : Bool
  lastCount : BitVec 16
  baselinePending : Bool
  total : Nat
  threshold : Nat
  deriving DecidableEq, Repr

/-- The state of the switch (section 5.6). -/
inductive SwitchState where
  | unknown | alive | silent
  deriving DecidableEq, Repr

/-- The Switch Watch (section 5.1). `lastHeartbeat` is the moment of the last heartbeat, for
SWITCH_QUERY (R79). -/
structure SwitchWatch where
  table : PerPort PortEntry
  state : SwitchState
  lastSequence : Option (BitVec 16)
  timer : Option Micros
  timeout : Nat
  restarts : Nat
  partialWords : Nat
  lastHeartbeat : Option Moment
  deriving DecidableEq, Repr

/-! ### Robot Guard (spec/06, spec/07) -/

/-- The states of a robot (section 6.2). -/
inductive RobotState where
  | offline | starting | ready | ordered | filling | held | silent | faulted
  deriving DecidableEq, Repr

/-- The owner of a robot (section 6.1). -/
inductive Owner where
  | line | service
  deriving DecidableEq, Repr

/-- The hold causes other than none (section 6.1). -/
inductive HoldCause where
  | quarantine | lineSilent | command | serviceEnded
  deriving DecidableEq, Repr

/-- The fault causes other than none (section 6.1). -/
inductive FaultCause where
  | reported | noPickup | fillOvertime
  deriving DecidableEq, Repr

/-- The cause codes of a ROBOT_STATE report (R82). -/
inductive RobotCause where
  | arm | clear | heartbeat | order | pickup | fillEnd
  | faultReported | noPickup | fillOvertime | heartbeatLost | linkLost
  | holdCommand | quarantine | keepalive | release | transfer | serviceReturn
  deriving DecidableEq, Repr

/-- The modes of an order (spec/07 section 7.1). -/
inductive OrderMode where
  | fill | hold | park
  deriving DecidableEq, Repr

/-- The envelope of a robot (section 6.1). -/
structure Envelope where
  vmin : Nat
  vmax : Nat
  fmax : Nat
  fstep : Nat
  hmin : Nat
  hmax : Nat
  deriving DecidableEq, Repr

/-- The current order: tag, mode, and for FILL the guarded volume (section 6.1). -/
structure Order where
  tag : BitVec 16
  mode : OrderMode
  volume : Option Nat
  deriving DecidableEq, Repr

/-- The FILL order a robot picked up (section 6.1). -/
structure FillRecord where
  tag : BitVec 16
  volume : Nat
  deriving DecidableEq, Repr

/-- A Robot Table entry (section 6.1). `lastValid` is the moment of the last valid heartbeat, for
ROBOT_QUERY (R101). -/
structure RobotEntry where
  state : RobotState
  owner : Owner
  envelope : Envelope
  envelopeWritten : Bool
  fp : Nat
  fresh : Bool
  order : Option Order
  fillRecord : Option FillRecord
  lastHeartbeat : Option (BitVec 16)
  run : Nat
  hold : Option HoldCause
  fault : Option FaultCause
  faultCode : BitVec 16
  transferPending : Bool
  mismatches : Nat
  heartbeatTimer : Option Micros
  pickupTimer : Option Micros
  fillTimer : Option Micros
  lastValid : Option Moment
  deriving DecidableEq, Repr

/-- The settings of the robot setup group (R81). Timeouts in ms, ms and s; `limit` is the delivered
quarantine limit. -/
structure RobotSettings where
  linkPort : PerRobot (Option SwPort)
  heartbeatTimeout : Nat
  pickupTimeout : Nat
  fillTimeout : Nat
  limit : Nat
  tolerance : Nat
  serviceFlow : Nat
  deriving DecidableEq, Repr

/-- The Robot Guard: the Robot Table, the settings, the quarantine limit L in force (R95) and the
keepalive view (R96). -/
structure RobotGuard where
  table : PerRobot RobotEntry
  settings : RobotSettings
  limit : Nat
  lapsed : Bool
  deriving DecidableEq, Repr

/-! ### Inspection Tracker (spec/08, spec/09) -/

/-- A camera's configuration and online flag (section 8.2). -/
structure CameraEntry where
  fitted : Bool
  port : Option SwPort
  online : Bool
  deriving DecidableEq, Repr

/-- The no-verdict action (section 8.3). -/
inductive NoVerdictAction where
  | reject | pass
  deriving DecidableEq, Repr

/-- The parameters of TRACK_START as settled (section 8.3). -/
structure TrackParams where
  pitch : Nat
  window : Nat
  d2 : Nat
  d3 : Nat
  d4 : Nat
  rejectOffset : Nat
  gateLength : Nat
  action : NoVerdictAction
  deriving DecidableEq, Repr

/-- A camera slot of a bottle with what it holds (section 8.4): the shot number from SHOT on and in
a NO_VERDICT slot that had been SHOT or belongs to an offline lead camera, the defect code and the
filler number in PASS and REJECT. -/
inductive CamSlot where
  | awaited
  | shot (number : BitVec 16)
  | pass (number : BitVec 16) (defect : BitVec 16) (filler : Nat)
  | reject (number : BitVec 16) (defect : BitVec 16) (filler : Nat)
  | missed
  | noVerdict (number : Option (BitVec 16))
  | notFitted
  deriving DecidableEq, Repr

/-- An entry of the Bottle Queue (section 8.4). -/
structure Bottle where
  number : BitVec 16
  p0 : Pos
  t0 : Stamp
  overrun : Nat
  cams : PerCam CamSlot
  deriving DecidableEq, Repr

/-- The eight counters (section 8.8), wrapping at 32 bits (R128). -/
structure TrackCounters where
  accepted : BitVec 32
  passed : BitVec 32
  rejected : BitVec 32
  dropped : BitVec 32
  overruns : BitVec 32
  strays : BitVec 32
  bounces : BitVec 32
  reverseIgnored : BitVec 32
  deriving DecidableEq, Repr

/-- The Inspection Tracker (spec/08, spec/09). `passCredits` and `rejectCredits` are the counts of
the fillers (R140). -/
structure Tracker where
  pos : Pos
  lastDir : Travel
  cameras : PerCam CameraEntry
  shots : PerCam (BitVec 16)
  running : Bool
  params : Option TrackParams
  queue : List Bottle
  nextBottle : BitVec 16
  counters : TrackCounters
  passCredits : PerRobot (BitVec 32)
  rejectCredits : PerRobot (BitVec 32)
  gateActive : Bool
  offPos : Pos
  deriving DecidableEq, Repr

/-- The reason of a decision (R137). -/
inductive DecisionReason where
  | verdict | noVerdict | overrun | verified
  deriving DecidableEq, Repr

/-! ### Service Window (spec/10) -/

/-- The window state (section 10.1). -/
inductive WindowState where
  | closed | keyed | opened | draining
  deriving DecidableEq, Repr

/-- The outcome of a robot of the robot set (section 10.1). -/
inductive RobotOutcome where
  | requested | taken | pending | returnSent | returned | cancelled
  deriving DecidableEq, Repr

/-- The causes of a SERVICE_STATE report (R155). -/
inductive WindowCause where
  | keyOn | keyOff | grant | expired | revoke | linkLost | settled
  deriving DecidableEq, Repr

/-- A Grant Table entry: a region index, and RW or RO (section 10.1). -/
structure Grant where
  region : Nat
  rw : Bool
  deriving DecidableEq, Repr

/-- The Service Window (section 10.1). `robotSet` gives each robot of the set its outcome. -/
structure ServiceWindow where
  state : WindowState
  key : Bool
  grants : List Grant
  robotSet : PerRobot (Option RobotOutcome)
  deadline : Option Micros
  inFlight : Bool
  refusal : Bool
  session : BitVec 16
  maxDuration : Nat
  deriving DecidableEq, Repr

/-! ### Reports (spec/11 section 11.9 lists the kinds; the chapters say what each carries) -/

/-- The cause of a start (R167, R168). -/
inductive StartCause where
  | powerOn | cabinetReset | reload
  deriving DecidableEq, Repr

/-- The reasons of an ORDER_REFUSED report (R106). -/
inductive OrderReason where
  | notOwner | shape | badMode | state | busy
  deriving DecidableEq, Repr

/-- The reasons of a VERDICT_MALFORMED report (R133). -/
inductive MalformedReason where
  | shape | enables | camera | notFitted | verdictCode | filler
  deriving DecidableEq, Repr

/-- The flags of the guard (R109). -/
structure GuardFlags where
  volClamped : Bool
  flowCapped : Bool
  ramped : Bool
  heightClamped : Bool
  deriving DecidableEq, Repr

/-- What a verdict record says of a bottle (spec/09 section 9.1): PASS or REJECT. -/
inductive Verdict where
  | pass | reject
  deriving DecidableEq, Repr

/-- A report record, by kind, with the fields its chapter says it carries. -/
inductive Report where
  /-- START (R167, R168). -/
  | start (cause : StartCause) (selfCheck : Bool) (codes : List (BitVec 2))
      (adjusted safe : Bool) (lost : Nat)
  /-- ACCESS_DENIED (R33). -/
  | accessDenied (master : Master) (p : Particulars) (covers total : Nat)
  /-- SERVICE_DENIED (R33, R154). -/
  | serviceDenied (master : Master) (p : Particulars) (covers total : Nat)
      (window : WindowState) (session : BitVec 16)
  /-- MEMORY_FAULT (R15). -/
  | memoryFault (master : Master) (dir : Dir) (addr : Addr) (len : BurstLen) (region : RegionRef)
  /-- ROBOT_STATE (R82). -/
  | robotState (robot : Robot) (before after : RobotState) (cause : RobotCause) (owner : Owner)
      (hold : Option HoldCause) (fault : Option FaultCause) (faultCode : BitVec 16) (run : Nat)
      (tag : Option (BitVec 16))
  /-- ORDER_GUARDED (R110): the values as presented, saturated at 65,535, and as guarded. -/
  | orderGuarded (robot : Robot) (owner : Owner) (tag : BitVec 16) (v f h : Nat)
      (v' f' h' : Nat) (flags : GuardFlags)
  /-- ORDER_REFUSED (R106). -/
  | orderRefused (robot : Robot) (master : Master) (reason : OrderReason) (state : RobotState)
      (owner : Owner) (tag : Option (BitVec 16)) (mode : Option (BitVec 2))
  /-- FILL_DEVIATION (R89). -/
  | fillDeviation (robot : Robot) (tag : BitVec 16) (guarded delivered tolerance : Nat)
      (owner : Owner)
  /-- QUARANTINE (R94). -/
  | quarantine (robot : Robot) (run limit : Nat) (tag : Option (BitVec 16))
  /-- SHOT_STRAY (R123). -/
  | shotStray (cam : Cam) (shot : BitVec 16) (pos : Pos) (awaited : Nat)
  /-- VERDICT_MALFORMED (R133). -/
  | verdictMalformed (reason : MalformedReason) (addr : Addr) (len : BurstLen)
      (camera : Option (BitVec 3)) (verdict : Option (BitVec 2)) (filler : Option (BitVec 3))
      (shot : Option (BitVec 16))
  /-- VERDICT_DUPLICATE (R134). -/
  | verdictDuplicate (cam : Cam) (shot : BitVec 16) (bottle : BitVec 16) (slotVerdict : Verdict)
      (slotFiller : Nat) (newVerdict : Verdict) (newFiller : Nat) (agree : Bool)
  /-- VERDICT_LATE (R134, R135): with the bottle number where its slot was closed. -/
  | verdictLate (cam : Cam) (shot counter : BitVec 16) (distance : Int)
      (bottle : Option (BitVec 16)) (closed : Bool)
  /-- VERDICT_UNKNOWN (R135). -/
  | verdictUnknown (cam : Cam) (shot counter : BitVec 16) (distance : Int)
  /-- BOTTLE_REJECTED (R141). -/
  | bottleRejected (number : BitVec 16) (reason : DecisionReason) (overrun : Nat)
      (cams : PerCam CamSlot) (filler : Nat) (defect : BitVec 16) (p0 offPos : Pos)
  /-- BOTTLE_DROPPED (R129). -/
  | bottleDropped (n : Nat) (head tail : Option (BitVec 16)) (dropped : BitVec 32)
  /-- TIME_STATE (R65). -/
  | timeState (before after : ClockState) (cause : TimeCause) (f c : Int) (e : Option Int)
  /-- TIME_STEPPED (R65). -/
  | timeStepped (cause : StepCause) (tBefore : Micros) (e : Option Int)
  /-- TIME_SET_LAPSED (R63). -/
  | timeSetLapsed (seconds : Nat)
  /-- PORT_LINK (R70). -/
  | portLink (port : SwPort) (role : Role) (before after : Bool) (speed : BitVec 2)
      (count : BitVec 16) (total : Nat)
  /-- ERROR_BURST (R69). -/
  | errorBurst (port : SwPort) (role : Role) (delta threshold : Nat) (count : BitVec 16)
      (total : Nat)
  /-- SWITCH_STATE (R76, R77). -/
  | switchState (before after : SwitchState) (restart : Bool) (sequence : Option (BitVec 16))
      (restarts : Nat)
  /-- SERVICE_STATE (R155). -/
  | serviceState (before after : WindowState) (cause : WindowCause) (session : BitVec 16)
      (key : Bool) (grants : List Grant) (robotSet : PerRobot (Option RobotOutcome))
  /-- KEEPALIVE_LAPSED (R162). -/
  | keepaliveLapsed (timeout : Nat) (value : Word)
  /-- COMMAND_OVERRUN (R159). -/
  | commandOverrun (slot : Slot) (ignored awaiting : Word)
  /-- The OVERRUN marker (R164). -/
  | overrun
  /-- The RESUMED marker (R164). -/
  | resumed (lost : Nat)
  deriving DecidableEq, Repr

/-! ### Staging queue, Control Decoder, Report Writer, Configuration Loader (spec/01, spec/11) -/

/-- The result codes (section 11.2). -/
inductive ResultCode where
  | done | doneAdjusted | refusedState | refusedParam | refusedOnce | unknown
  deriving DecidableEq, Repr

/-- What a staging entry writes (R11): a report record with its stamp, or the result of a command of
one slot (R160), with slot words 0 to 13 where the result has query data. -/
inductive EntryBody where
  | record (r : Report) (stamp : Stamp)
  | result (slot : Slot) (code : ResultCode) (issues : BitVec 16) (word : Word)
      (data : Option (List Word))
  deriving DecidableEq, Repr

/-- An entry of the staging queue (R11). `addr` is the ring slot or the base of the command slot.
`current` says that no reset has overtaken it: for a record that it was placed since the ring
indices were last set to 0 (R163), for a result that its slot still awaits it (R168). `firstDone`:
the lower of its two writes is made (R13). `failed`: a write of it failed (R13). `cut`: no further
write follows the one in memory (R17). -/
structure StagingEntry where
  body : EntryBody
  addr : Nat
  current : Bool
  firstDone : Bool
  failed : Bool
  cut : Bool
  deriving DecidableEq, Repr

/-- A command slot (section 11.1). `waiting` is the result that found the staging queue full (R11). -/
structure CommandSlot where
  awaiting : Bool
  params : List Word
  issues : BitVec 16
  issued : Word
  waiting : Option StagingEntry
  deriving DecidableEq, Repr

/-- The keepalive state (section 11.3). -/
inductive KeepaliveState where
  | unarmed | running | lapsed
  deriving DecidableEq, Repr

/-- The keepalive (section 11.3), timeout in ms. -/
structure Keepalive where
  state : KeepaliveState
  timeout : Option Nat
  last : Word
  timer : Option Micros
  deriving DecidableEq, Repr

/-- The Report Writer (section 11.4); `losing` is the mode LOSING. -/
structure Writer where
  put : Nat
  written : Nat
  take : Nat
  lost : Nat
  losing : Bool
  deriving DecidableEq, Repr

/-- The condition of the part (section 11.7). -/
inductive Condition where
  | loading | running | safe
  deriving DecidableEq, Repr

/-- The load in progress (section 11.7). -/
inductive LoadKind where
  | powerOn | reload
  deriving DecidableEq, Repr

/-- The Configuration Loader (section 11.7), with the accept codes and ADJUSTED of the last load,
which START carries (R167). `selfCheck`, Last self-check, is PASS where it is true. -/
structure Loader where
  condition : Condition
  load : Option LoadKind
  selfCheck : Bool
  cause : StartCause
  codes : List (BitVec 2)
  adjusted : Bool
  deriving DecidableEq, Repr

/-! ### Notices sent and not yet taken -/

/-- The notices of the Switch Watch to the Hall Clock (R59). -/
inductive ClockNotice where
  | linkLoss (p : SwPort)
  | linkReturn (p : SwPort)
  | silent
  | silentEnded
  deriving DecidableEq, Repr

/-- A link notice or camera notice naming a port (R73): loss or offline, return or online. -/
inductive LinkNotice where
  | loss (p : SwPort)
  | back (p : SwPort)
  deriving DecidableEq, Repr

/-- A credit for a robot (R94). -/
inductive Credit where
  | pass (r : Robot)
  | reject (r : Robot)
  deriving DecidableEq, Repr

/-- A keepalive notice (R96). -/
inductive KeepaliveMsg where
  | lapse | resume
  deriving DecidableEq, Repr

/-- What the Service Window sends the Robot Guard (R102, R103). -/
inductive TransferMsg where
  | request (r : Robot)
  | giveBack (r : Robot)
  deriving DecidableEq, Repr

/-- The Robot Guard's answer to a transfer request (R102). -/
inductive TransferReply where
  | taken (r : Robot)
  | pending (r : Robot)
  deriving DecidableEq, Repr

/-- The notices sent and not yet taken, oldest first, one channel for each sender and receiver (R72,
R94, R96, R102, R126, R147, R150). -/
structure Mail where
  clock : List ClockNotice
  robotLink : List LinkNotice
  cameras : List LinkNotice
  serviceLoss : List SwPort
  credits : List Credit
  keepalive : List KeepaliveMsg
  transfers : List TransferMsg
  answers : List TransferReply
  deriving DecidableEq, Repr

/-! ### The state -/

/-- The whole state of the block. `pending` is the queue of commands, first in, first out; `ties`
counts the free choices made (log 2). -/
@[ext]
structure State where
  pending : List Instr
  ties : Nat
  clock : Clock
  switch : SwitchWatch
  map : RegionMap
  limiters : PerMaster Limiter
  pacing : PerMaster Pace
  transit : Transit
  staging : List StagingEntry
  robots : RobotGuard
  tracker : Tracker
  window : ServiceWindow
  slots : PerSlot CommandSlot
  keepalive : Keepalive
  writer : Writer
  loader : Loader
  mail : Mail
  deriving DecidableEq, Repr

/-- Why a step could stop with a fault: nothing in spec/ stops the block, so no meaning raises one. -/
inductive Fault where
  /-- Raised by no meaning; the block has no event that stops it (safe). -/
  | halted
  deriving DecidableEq, Repr

/-- Why a command is refused. -/
inductive Refusal where
  /-- Raised by an arm of `exec` whose command has no meaning yet (safe). -/
  | notModelled (mnemonic : String)
  /-- Raised by REQUEST_ARRIVAL, MEMORY_COMPLETION, UNKNOWN_OPCODE and LOAD_END on operands that no
  lane, opcode field or store can carry (log 8): no such event exists (safe). -/
  | malformed
  deriving DecidableEq, Repr

/-! ### The machine right after power-on -/

/-- The same value for each master. -/
def PerMaster.all {α : Type} (x : α) : PerMaster α := ⟨x, x, x, x, x⟩
/-- The same value for each robot. -/
def PerRobot.all {α : Type} (x : α) : PerRobot α := ⟨x, x, x, x, x, x⟩
/-- The same value for each switch port. -/
def PerPort.all {α : Type} (x : α) : PerPort α := ⟨x, x, x, x, x, x, x, x⟩
/-- The same value for each camera. -/
def PerCam.all {α : Type} (x : α) : PerCam α := ⟨x, x, x, x⟩
/-- The same value for each command slot. -/
def PerSlot.all {α : Type} (x : α) : PerSlot α := ⟨x, x, x, x⟩

/-- The Hall Clock at power-on (R66). -/
def Clock.reset : Clock :=
  { m := 0, t := 0, state := .unset, f := 0, c := 0, lockRun := 0, outlierRun := 0,
    pendingSet := none, holdoverLimit := 600, periodStart := 0, adjustments := 0,
    lastAccepted := none, pulseWatch := none, holdoverStart := none, lastReplaced := none,
    accepted := 0, glitches := 0, untrusted := 0, lastError := 0 }

/-- A Port Table entry at power-on (R80). -/
def PortEntry.reset : PortEntry :=
  { role := .unused, linkUp := true, downLatched := false, stormLatched := false, lastCount := 0,
    baselinePending := true, total := 0, threshold := 500 }

/-- The Switch Watch at power-on (R80). -/
def SwitchWatch.reset : SwitchWatch :=
  { table := .all .reset, state := .unknown, lastSequence := none, timer := none, timeout := 500,
    restarts := 0, partialWords := 0, lastHeartbeat := none }

/-- The disabled entries of the anchor map (R19); their kind code is the model's (log 4). -/
def RegionEntry.anchorDisabled : RegionEntry :=
  { enabled := false, base := 0, size := 256, kindCode := 0, readRights := 0, writeRights := 0,
    weight := 1 }

/-- The anchor map with the anchor default of open space (R19): kind code 7 is CONTROL and 8 is
REPORTS. -/
def RegionMap.anchor : RegionMap :=
  { entries :=
      [{ enabled := true, base := 0xFFFF00, size := 256, kindCode := 7, readRights := 0b00001,
         writeRights := 0b00001, weight := 1 },
       { enabled := true, base := 0xFFF000, size := 3840, kindCode := 8, readRights := 0b00001,
         writeRights := 0, weight := 1 }] ++ List.replicate 14 .anchorDisabled
    openSpace := { read := 0b01111, write := 0b01111 } }

/-- A limiter at power-on (R34). -/
def Limiter.reset : Limiter := { total := 0, mode := .quiet }

/-- The pacing setting at power-on (spec/03 section 3.1). -/
def PaceSetting.reset : PaceSetting := { paced := false, a := 0, b := 0, q := 1, k := 1 }

/-- The Pacing Unit's record of a master at power-on (R45). -/
def Pace.reset : Pace :=
  { inForce := .reset, buffered := none, account := none, delivered := .reset }

/-- The Transit Path at power-on (R16). -/
def Transit.reset : Transit :=
  { ports := .all .empty, lanes := .all [], completions := .all none, memPort := .free,
    pointer := .service }

/-- A Robot Table entry at power-on (spec/06 section 6.1, R104). -/
def RobotEntry.reset : RobotEntry :=
  { state := .offline, owner := .line,
    envelope := { vmin := 0, vmax := 0, fmax := 0, fstep := 1, hmin := 0, hmax := 0 },
    envelopeWritten := false, fp := 0, fresh := true, order := none, fillRecord := none,
    lastHeartbeat := none, run := 0, hold := none, fault := none, faultCode := 0,
    transferPending := false, mismatches := 0, heartbeatTimer := none, pickupTimer := none,
    fillTimer := none, lastValid := none }

/-- The robot settings until a load delivers them (spec/06 section 6.1). -/
def RobotSettings.reset : RobotSettings :=
  { linkPort := .all none, heartbeatTimeout := 100, pickupTimeout := 500, fillTimeout := 20,
    limit := 3, tolerance := 10, serviceFlow := 100 }

/-- The Robot Guard at power-on (R104). -/
def RobotGuard.reset : RobotGuard :=
  { table := .all .reset, settings := .reset, limit := 3, lapsed := false }

/-- A camera until a load delivers the camera group (spec/08 section 8.2). -/
def CameraEntry.reset : CameraEntry := { fitted := true, port := none, online := true }

/-- The Tracker's counters at 0 (R128). -/
def TrackCounters.zero : TrackCounters := ⟨0, 0, 0, 0, 0, 0, 0, 0⟩

/-- The Inspection Tracker at power-on (R131, R140, R144). -/
def Tracker.reset : Tracker :=
  { pos := 0, lastDir := .forward, cameras := .all .reset, shots := .all 0, running := false,
    params := none, queue := [], nextBottle := 0, counters := .zero, passCredits := .all 0,
    rejectCredits := .all 0, gateActive := false, offPos := 0 }

/-- The Service Window at power-on with SVC_KEY off (R157, log 6). -/
def ServiceWindow.reset : ServiceWindow :=
  { state := .closed, key := false, grants := [], robotSet := .all none, deadline := none,
    inFlight := false, refusal := false, session := 0, maxDuration := 3600 }

/-- A command slot at power-on (spec/11 section 11.1). -/
def CommandSlot.reset : CommandSlot :=
  { awaiting := false, params := List.replicate 14 0, issues := 0, issued := 0, waiting := none }

/-- The keepalive at power-on (spec/11 section 11.3). -/
def Keepalive.reset : Keepalive :=
  { state := .unarmed, timeout := none, last := 0, timer := none }

/-- The Report Writer at power-on (spec/11 section 11.4). -/
def Writer.reset : Writer := { put := 0, written := 0, take := 0, lost := 0, losing := false }

/-- The Configuration Loader at power-on (spec/11 section 11.7; codes and ADJUSTED: log 7). DESIGN CHOICE
(log 49): Last self-check, for which the spec has a dash, is FAIL. -/
def Loader.reset : Loader :=
  { condition := .loading, load := some .powerOn, selfCheck := false, cause := .powerOn,
    codes := List.replicate 8 0, adjusted := false }

/-- No notice is on its way. -/
def Mail.empty : Mail :=
  { clock := [], robotLink := [], cameras := [], serviceLoss := [], credits := [],
    keepalive := [], transfers := [], answers := [] }

/-- The machine right after the release of PORST with SVC_KEY off: LOADING, on the anchor map, every
block at its power-on values, no command waiting. -/
def State.reset : State :=
  { pending := [], ties := 0, clock := .reset, switch := .reset, map := .anchor,
    limiters := .all .reset, pacing := .all .reset, transit := .reset, staging := [],
    robots := .reset, tracker := .reset, window := .reset, slots := .all .reset,
    keepalive := .reset, writer := .reset, loader := .reset, mail := .empty }

end Sys2Proof.Machine
end

