-- ==== Sys2Proof/Machine/Ops.lean ====
section
/-!
DEFINITION. The named operations on the state: reading and writing the small tables, one setter for
each field of the state, times on M, saturating and signed
arithmetic.
-/
namespace Sys2Proof.Machine

/-! ### Tables -/

/-- The value a `PerMaster` holds for one index. -/
def PerMaster.get {α : Type} (t : PerMaster α) : Master → α
  | .line => t.line
  | .switch => t.switch
  | .camera => t.camera
  | .robotlink => t.robotlink
  | .service => t.service

/-- A `PerMaster` with the value of one index replaced. -/
def PerMaster.set {α : Type} (t : PerMaster α) (i : Master) (x : α) : PerMaster α :=
  match i with
  | .line => { t with line := x }
  | .switch => { t with switch := x }
  | .camera => { t with camera := x }
  | .robotlink => { t with robotlink := x }
  | .service => { t with service := x }

/-- A `PerMaster` with a function applied to every value. -/
def PerMaster.map {α β : Type} (f : α → β) (t : PerMaster α) : PerMaster β :=
  ⟨f t.line, f t.switch, f t.camera, f t.robotlink, f t.service⟩

/-- The values of a `PerMaster` in ascending order of their index. -/
def PerMaster.toList {α : Type} (t : PerMaster α) : List α :=
  [t.line, t.switch, t.camera, t.robotlink, t.service]

/-- The value a `PerRobot` holds for one index. -/
def PerRobot.get {α : Type} (t : PerRobot α) : Robot → α
  | .r1 => t.r1
  | .r2 => t.r2
  | .r3 => t.r3
  | .r4 => t.r4
  | .r5 => t.r5
  | .r6 => t.r6

/-- A `PerRobot` with the value of one index replaced. -/
def PerRobot.set {α : Type} (t : PerRobot α) (i : Robot) (x : α) : PerRobot α :=
  match i with
  | .r1 => { t with r1 := x }
  | .r2 => { t with r2 := x }
  | .r3 => { t with r3 := x }
  | .r4 => { t with r4 := x }
  | .r5 => { t with r5 := x }
  | .r6 => { t with r6 := x }

/-- A `PerRobot` with a function applied to every value. -/
def PerRobot.map {α β : Type} (f : α → β) (t : PerRobot α) : PerRobot β :=
  ⟨f t.r1, f t.r2, f t.r3, f t.r4, f t.r5, f t.r6⟩

/-- The values of a `PerRobot` in ascending order of their index. -/
def PerRobot.toList {α : Type} (t : PerRobot α) : List α :=
  [t.r1, t.r2, t.r3, t.r4, t.r5, t.r6]

/-- The value a `PerPort` holds for one index. -/
def PerPort.get {α : Type} (t : PerPort α) : SwPort → α
  | .p1 => t.p1
  | .p2 => t.p2
  | .p3 => t.p3
  | .p4 => t.p4
  | .p5 => t.p5
  | .p6 => t.p6
  | .p7 => t.p7
  | .p8 => t.p8

/-- A `PerPort` with the value of one index replaced. -/
def PerPort.set {α : Type} (t : PerPort α) (i : SwPort) (x : α) : PerPort α :=
  match i with
  | .p1 => { t with p1 := x }
  | .p2 => { t with p2 := x }
  | .p3 => { t with p3 := x }
  | .p4 => { t with p4 := x }
  | .p5 => { t with p5 := x }
  | .p6 => { t with p6 := x }
  | .p7 => { t with p7 := x }
  | .p8 => { t with p8 := x }

/-- A `PerPort` with a function applied to every value. -/
def PerPort.map {α β : Type} (f : α → β) (t : PerPort α) : PerPort β :=
  ⟨f t.p1, f t.p2, f t.p3, f t.p4, f t.p5, f t.p6, f t.p7, f t.p8⟩

/-- The values of a `PerPort` in ascending order of their index. -/
def PerPort.toList {α : Type} (t : PerPort α) : List α :=
  [t.p1, t.p2, t.p3, t.p4, t.p5, t.p6, t.p7, t.p8]

/-- The value a `PerCam` holds for one index. -/
def PerCam.get {α : Type} (t : PerCam α) : Cam → α
  | .c1 => t.c1
  | .c2 => t.c2
  | .c3 => t.c3
  | .c4 => t.c4

/-- A `PerCam` with the value of one index replaced. -/
def PerCam.set {α : Type} (t : PerCam α) (i : Cam) (x : α) : PerCam α :=
  match i with
  | .c1 => { t with c1 := x }
  | .c2 => { t with c2 := x }
  | .c3 => { t with c3 := x }
  | .c4 => { t with c4 := x }

/-- A `PerCam` with a function applied to every value. -/
def PerCam.map {α β : Type} (f : α → β) (t : PerCam α) : PerCam β :=
  ⟨f t.c1, f t.c2, f t.c3, f t.c4⟩

/-- The values of a `PerCam` in ascending order of their index. -/
def PerCam.toList {α : Type} (t : PerCam α) : List α :=
  [t.c1, t.c2, t.c3, t.c4]

/-- The value a `PerSlot` holds for one index. -/
def PerSlot.get {α : Type} (t : PerSlot α) : Slot → α
  | .s0 => t.s0
  | .s1 => t.s1
  | .s2 => t.s2
  | .s3 => t.s3

/-- A `PerSlot` with the value of one index replaced. -/
def PerSlot.set {α : Type} (t : PerSlot α) (i : Slot) (x : α) : PerSlot α :=
  match i with
  | .s0 => { t with s0 := x }
  | .s1 => { t with s1 := x }
  | .s2 => { t with s2 := x }
  | .s3 => { t with s3 := x }

/-- A `PerSlot` with a function applied to every value. -/
def PerSlot.map {α β : Type} (f : α → β) (t : PerSlot α) : PerSlot β :=
  ⟨f t.s0, f t.s1, f t.s2, f t.s3⟩

/-- The values of a `PerSlot` in ascending order of their index. -/
def PerSlot.toList {α : Type} (t : PerSlot α) : List α :=
  [t.s0, t.s1, t.s2, t.s3]

/-- Every `Master` in ascending order. -/
def masters : List Master := [.line, .switch, .camera, .robotlink, .service]

/-- Every `Robot` in ascending order. -/
def allRobots : List Robot := [.r1, .r2, .r3, .r4, .r5, .r6]

/-- Every `SwPort` in ascending order. -/
def allPorts : List SwPort := [.p1, .p2, .p3, .p4, .p5, .p6, .p7, .p8]

/-- Every `Cam` in ascending order. -/
def allCams : List Cam := [.c1, .c2, .c3, .c4]

/-- Every `Slot` in ascending order. -/
def allSlots : List Slot := [.s0, .s1, .s2, .s3]

/-! ### Fields of the state -/

/-- `s` with its field `pending` replaced. -/
def State.setPending (s : State) (x : List Instr) : State := { s with pending := x }
/-- `s` with its field `ties` replaced. -/
def State.setTies (s : State) (x : Nat) : State := { s with ties := x }
/-- `s` with its field `clock` replaced. -/
def State.setClock (s : State) (x : Clock) : State := { s with clock := x }
/-- `s` with its field `switch` replaced. -/
def State.setSwitch (s : State) (x : SwitchWatch) : State := { s with switch := x }
/-- `s` with its field `map` replaced. -/
def State.setMap (s : State) (x : RegionMap) : State := { s with map := x }
/-- `s` with its field `limiters` replaced. -/
def State.setLimiters (s : State) (x : PerMaster Limiter) : State := { s with limiters := x }
/-- `s` with its field `pacing` replaced. -/
def State.setPacing (s : State) (x : PerMaster Pace) : State := { s with pacing := x }
/-- `s` with its field `transit` replaced. -/
def State.setTransit (s : State) (x : Transit) : State := { s with transit := x }
/-- `s` with its field `staging` replaced. -/
def State.setStaging (s : State) (x : List StagingEntry) : State := { s with staging := x }
/-- `s` with its field `robots` replaced. -/
def State.setRobots (s : State) (x : RobotGuard) : State := { s with robots := x }
/-- `s` with its field `tracker` replaced. -/
def State.setTracker (s : State) (x : Tracker) : State := { s with tracker := x }
/-- `s` with its field `window` replaced. -/
def State.setWindow (s : State) (x : ServiceWindow) : State := { s with window := x }
/-- `s` with its field `slots` replaced. -/
def State.setSlots (s : State) (x : PerSlot CommandSlot) : State := { s with slots := x }
/-- `s` with its field `keepalive` replaced. -/
def State.setKeepalive (s : State) (x : Keepalive) : State := { s with keepalive := x }
/-- `s` with its field `writer` replaced. -/
def State.setWriter (s : State) (x : Writer) : State := { s with writer := x }
/-- `s` with its field `loader` replaced. -/
def State.setLoader (s : State) (x : Loader) : State := { s with loader := x }
/-- `s` with its field `mail` replaced. -/
def State.setMail (s : State) (x : Mail) : State := { s with mail := x }

/-! ### Times on M and bounded counts -/

/-- The microseconds of M since `start`, modulo 2^48 (R48). -/
def elapsed (now start : Micros) : Nat := (now - start).toNat

/-- A timer started at `start` has reached the duration `d` µs (R48). -/
def reached (now start : Micros) (d : Nat) : Bool := decide (d ≤ elapsed now start)

/-- M has reached the value `target`: the signed distance from it is not negative. -/
def atOrPast (now target : Micros) : Bool := decide (elapsed now target < 2 ^ 47)

/-- A running timer that has reached its duration; a stopped one has not. -/
def timerDue (now : Micros) (timer : Option Micros) (d : Nat) : Bool :=
  match timer with
  | none => false
  | some start => reached now start d

/-- The present value of M, as a moment to remember. -/
def Moment.of (now : Micros) : Moment := { start := now, past := false }

/-- The microseconds of M since a moment, exact up to 2^48 and standing at 2^48 from there on. -/
def Moment.age (k : Moment) (now : Micros) : Nat := if k.past then 2 ^ 48 else elapsed now k.start

/-- A moment when M takes the value `now`. -/
def Moment.pass (now : Micros) (k : Moment) : Moment :=
  { k with past := k.past || decide (now = k.start) }

/-- The largest value of a 32-bit count. -/
def max32 : Nat := 4294967295

/-- A 32-bit count that saturates (R30, R52, R69). -/
def satAdd32 (a b : Nat) : Nat := min (a + b) max32

/-- A 16-bit count that saturates (R31, R76, R87). -/
def satInc16 (a : Nat) : Nat := min (a + 1) 65535

/-- The nearer end of `lo` to `hi` where `x` lies outside it, and `x` otherwise. -/
def clampNat (x lo hi : Nat) : Nat := max lo (min x hi)

/-- The same for integers (R54). -/
def clampInt (x lo hi : Int) : Int := max lo (min x hi)

/-- The signed distance δ(a, b) of two positions (R116). -/
def posDelta (a b : Pos) : Int := (a - b).toInt

/-- The signed distance δ16(a, b) of two shot numbers (R135). -/
def shotDelta (a b : BitVec 16) : Int := (a - b).toInt

/-- A position carried `n` counts further, modulo 2^24 (R116). -/
def posAdd (p : Pos) (n : Nat) : Pos := p + BitVec.ofNat 24 n

/-! ### The correction of T (R50) and one microsecond -/

/-- K_c, the distance of the adjustment points. -/
def Clock.spacing (k : Clock) : Nat := 1000000 / k.c.natAbs

/-- The next adjustment point of the period is reached: at the first |c| points only. -/
def Clock.adjustmentDue (k : Clock) : Bool :=
  decide (k.c ≠ 0) && decide (k.adjustments < k.c.natAbs) &&
    reached k.m k.periodStart ((k.adjustments + 1) * k.spacing)

/-- The adjustment that is due withholds its microsecond: T stands (R50). -/
def Clock.withholds (k : Clock) : Bool := decide (k.c < 0) && k.adjustmentDue

/-- The remembered moments of the clock when M takes the value `now`. -/
def Clock.passMoments (now : Micros) (k : Clock) : Clock :=
  { k with m := now, lastAccepted := k.lastAccepted.map (Moment.pass now),
           holdoverStart := k.holdoverStart.map (Moment.pass now),
           lastReplaced := k.lastReplaced.map (Moment.pass now) }

/-- One microsecond of the clock: M advances, and T with it unless the microsecond is withheld (R48 to
R50). -/
def Clock.tick (k : Clock) : Clock :=
  let k' := k.passMoments (k.m + 1)
  { k' with t := if k'.withholds then k.t else k.t + 1 }

/-- One microsecond of the part's oscillator. -/
def tick (s : State) : State :=
  { s with
    clock := s.clock.tick
    switch := { s.switch with
      lastHeartbeat := s.switch.lastHeartbeat.map (Moment.pass (s.clock.m + 1)) }
    robots := { s.robots with
      table := s.robots.table.map fun e =>
        { e with lastValid := e.lastValid.map (Moment.pass (s.clock.m + 1)) } } }

/-- The present value of M. -/
def State.now (s : State) : Micros := s.clock.m

end Sys2Proof.Machine
end

