-- ==== Sys2Proof/Machine/Layout.lean ====
section
/-!
DEFINITION. How the fields of a report record and of a result are laid in words (R170), with the
codes of the enumerations and the words of every kind of report.
-/
namespace Sys2Proof.Machine

/-! ### Fields and their placement (R170) -/

/-- A field by the width its values need: a byte, a half-word, a word or two words. -/
inductive Field where
  | byte (v : BitVec 8)
  | half (v : BitVec 16)
  | word (v : Word)
  | long (v : BitVec 64)
  deriving DecidableEq, Repr

/-- The bits a field takes. -/
def Field.bits : Field → Nat
  | .byte _ => 8
  | .half _ => 16
  | .word _ => 32
  | .long _ => 64

/-- The multiple of bits at which a field may start. -/
def Field.start : Field → Nat
  | .byte _ => 8
  | .half _ => 16
  | .word _ => 32
  | .long _ => 32

/-- A field's value as a number. -/
def Field.value : Field → Nat
  | .byte v => v.toNat
  | .half v => v.toNat
  | .word v => v.toNat
  | .long v => v.toNat

/-- The first place at or after bit `pos` at which the field may start. -/
def Field.placeFrom (f : Field) (pos : Nat) : Nat := (pos + f.start - 1) / f.start * f.start

/-- The fields laid from bit `pos` on, as one number whose bit 0 is bit 0 of the first word. -/
def layFrom : Nat → List Field → Nat
  | _, [] => 0
  | pos, f :: fs => f.value <<< f.placeFrom pos + layFrom (f.placeFrom pos + f.bits) fs

/-- The first bit after the fields laid from bit `pos` on. -/
def layEnd : Nat → List Field → Nat
  | pos, [] => pos
  | pos, f :: fs => layEnd (f.placeFrom pos + f.bits) fs

/-- Word i of a number that stands for words laid one after the other. -/
def wordOf (n i : Nat) : Word := BitVec.ofNat 32 (n >>> (32 * i))

/-- The words the fields take, from bit 0 of the first. -/
def layWords (fs : List Field) : List Word :=
  (List.range ((layEnd 0 fs + 31) / 32)).map (wordOf (layFrom 0 fs))

/-- The first `n` words of `ws`, with zeros where there are fewer. -/
def padTo (n : Nat) (ws : List Word) : List Word := (ws ++ List.replicate n 0).take n

/-! ### Fields from values: none is all ones, or the most negative value of a signed field (R170) -/

/-- A byte from a number. -/
def byteOf (n : Nat) : Field := .byte (BitVec.ofNat 8 n)
/-- A half-word from a number. -/
def halfOf (n : Nat) : Field := .half (BitVec.ofNat 16 n)
/-- A word from a number. -/
def wordFld (n : Nat) : Field := .word (BitVec.ofNat 32 n)
/-- Yes, set and on are 1. -/
def flagFld (b : Bool) : Field := byteOf (if b then 1 else 0)
/-- A signed half-word. -/
def intHalf (i : Int) : Field := .half (BitVec.ofInt 16 i)
/-- A signed word. -/
def intWord (i : Int) : Field := .word (BitVec.ofInt 32 i)
/-- A byte that may be none. -/
def byteOpt (o : Option Nat) : Field := .byte (match o with | some n => BitVec.ofNat 8 n | none => 0xFF)
/-- A half-word that may be none. -/
def halfOpt (o : Option Nat) : Field :=
  .half (match o with | some n => BitVec.ofNat 16 n | none => 0xFFFF)
/-- A word that may be none. -/
def wordOpt (o : Option Nat) : Field :=
  .word (match o with | some n => BitVec.ofNat 32 n | none => 0xFFFFFFFF)
/-- A signed half-word that may be none. -/
def intHalfOpt (o : Option Int) : Field :=
  .half (match o with | some i => BitVec.ofInt 16 i | none => 0x8000)
/-- A signed word that may be none. -/
def intWordOpt (o : Option Int) : Field :=
  .word (match o with | some i => BitVec.ofInt 32 i | none => 0x80000000)
/-- A tag, sequence, shot or bottle number that may be none takes a word: its 65,536 values and one
further code do not fit in 16 bits. -/
def num16Opt (o : Option (BitVec 16)) : Field := wordOpt (o.map BitVec.toNat)

/-! ### Codes. Those of the layout tables of spec/11 section 11.9, else the position in the list
that defines the enumeration, the first being 0 (R170, log 9) -/

/-- ALIGNMENT, CROSSING, RIGHTS, WINDOW, KIND (spec/02 section 2.6). -/
def DenialCause.code : DenialCause → Nat
  | .alignment => 0
  | .crossing => 1
  | .rights => 2
  | .window => 3
  | .kind => 4

/-- The entry index, or 16 for open space (R170). -/
def RegionRef.code : RegionRef → Nat
  | .entry i => i
  | .openSpace => 16

/-- The robot states in the order of spec/06 section 6.2. -/
def RobotState.code : RobotState → Nat
  | .offline => 0
  | .starting => 1
  | .ready => 2
  | .ordered => 3
  | .filling => 4
  | .held => 5
  | .silent => 6
  | .faulted => 7

/-- The cause codes in the order of R82's table. -/
def RobotCause.code : RobotCause → Nat
  | .arm => 0
  | .clear => 1
  | .heartbeat => 2
  | .order => 3
  | .pickup => 4
  | .fillEnd => 5
  | .faultReported => 6
  | .noPickup => 7
  | .fillOvertime => 8
  | .heartbeatLost => 9
  | .linkLost => 10
  | .holdCommand => 11
  | .quarantine => 12
  | .keepalive => 13
  | .release => 14
  | .transfer => 15
  | .serviceReturn => 16

/-- Owner: 0 LINE, 1 SERVICE (guard word, spec/11 section 11.9). -/
def Owner.code : Owner → Nat
  | .line => 0
  | .service => 1

/-- The hold causes by their position in "none, QUARANTINE, LINE_SILENT, COMMAND, SERVICE_ENDED"
(spec/06 section 6.1; log 9). -/
def HoldCause.code : HoldCause → Nat
  | .quarantine => 1
  | .lineSilent => 2
  | .command => 3
  | .serviceEnded => 4

/-- The fault causes by their position in "none, REPORTED, NO_PICKUP, FILL_OVERTIME" (log 9). -/
def FaultCause.code : FaultCause → Nat
  | .reported => 1
  | .noPickup => 2
  | .fillOvertime => 3

/-- Order mode: 1 FILL, 2 HOLD, 3 PARK (spec/11 section 11.9). -/
def OrderMode.code : OrderMode → Nat
  | .fill => 1
  | .hold => 2
  | .park => 3

/-- NOT_OWNER, SHAPE, BAD_MODE, STATE, BUSY (R106). -/
def OrderReason.code : OrderReason → Nat
  | .notOwner => 0
  | .shape => 1
  | .badMode => 2
  | .state => 3
  | .busy => 4

/-- SHAPE, ENABLES, CAMERA, NOT_FITTED, CODE, FILLER (R133). -/
def MalformedReason.code : MalformedReason → Nat
  | .shape => 0
  | .enables => 1
  | .camera => 2
  | .notFitted => 3
  | .verdictCode => 4
  | .filler => 5

/-- Verdict: 1 PASS, 2 REJECT (spec/11 section 11.9). -/
def Verdict.code : Verdict → Nat
  | .pass => 1
  | .reject => 2

/-- The slot states in the order of spec/08 section 8.4. -/
def CamSlot.code : CamSlot → Nat
  | .awaited => 0
  | .shot _ => 1
  | .pass _ _ _ => 2
  | .reject _ _ _ => 3
  | .missed => 4
  | .noVerdict _ => 5
  | .notFitted => 6

/-- VERDICT, NO_VERDICT, OVERRUN, in the order of R141, whose report carries them. DESIGN CHOICE (log 9):
R137's table has OVERRUN first. A bottle decided for VERIFIED raises no report. -/
def DecisionReason.code : DecisionReason → Nat
  | .verdict => 0
  | .noVerdict => 1
  | .overrun => 2
  | .verified => 3

/-- UNSET, LOCKING, LOCKED, HOLDOVER, DRIFTING (spec/04 section 4.1). -/
def ClockState.code : ClockState → Nat
  | .unset => 0
  | .locking => 1
  | .locked => 2
  | .holdover => 3
  | .drifting => 4

/-- The causes of TIME_STATE in the order of R65. -/
def TimeCause.code : TimeCause → Nat
  | .setApplied => 0
  | .lockRun => 1
  | .outliers => 2
  | .pulseResumed => 3
  | .pulseMissing => 4
  | .sourceLost => 5
  | .holdoverLimit => 6

/-- SET_APPLIED, PHASE_STEP (R65). -/
def StepCause.code : StepCause → Nat
  | .setApplied => 0
  | .phaseStep => 1

/-- Role: 0 UNUSED to 5 SERVICE (store layout, spec/11 section 11.9). -/
def Role.code : Role → Nat
  | .unused => 0
  | .uplink => 1
  | .timeSource => 2
  | .robotLink => 3
  | .camera => 4
  | .service => 5

/-- Link: 1 UP, 0 DOWN (port word, spec/11 section 11.9). -/
def linkCode (up : Bool) : Nat := if up then 1 else 0

/-- UNKNOWN, ALIVE, SILENT (spec/05 section 5.1). -/
def SwitchState.code : SwitchState → Nat
  | .unknown => 0
  | .alive => 1
  | .silent => 2

/-- CLOSED, KEYED, OPEN, DRAINING (spec/10 section 10.1). -/
def WindowState.code : WindowState → Nat
  | .closed => 0
  | .keyed => 1
  | .opened => 2
  | .draining => 3

/-- The outcomes in the order of spec/10 section 10.1. -/
def RobotOutcome.code : RobotOutcome → Nat
  | .requested => 0
  | .taken => 1
  | .pending => 2
  | .returnSent => 3
  | .returned => 4
  | .cancelled => 5

/-- The causes of SERVICE_STATE in the order of R155. -/
def WindowCause.code : WindowCause → Nat
  | .keyOn => 0
  | .keyOff => 1
  | .grant => 2
  | .expired => 3
  | .revoke => 4
  | .linkLost => 5
  | .settled => 6

/-- POWER_ON, CABINET_RESET, RELOAD (spec/11 section 11.7). -/
def StartCause.code : StartCause → Nat
  | .powerOn => 0
  | .cabinetReset => 1
  | .reload => 2

/-- PASS, FAIL (spec/11 section 11.7). -/
def selfCheckCode (pass : Bool) : Nat := if pass then 0 else 1

/-- The result codes (spec/11 section 11.2). -/
def ResultCode.code : ResultCode → Nat
  | .done => 1
  | .doneAdjusted => 2
  | .refusedState => 3
  | .refusedParam => 4
  | .refusedOnce => 5
  | .unknown => 6

/-- No-verdict action: 1 REJECT, 2 PASS (spec/11 section 11.9). -/
def NoVerdictAction.code : NoVerdictAction → Nat
  | .reject => 1
  | .pass => 2

/-- FORWARD, REVERSE (spec/08 section 8.1). -/
def Travel.code : Travel → Nat
  | .forward => 0
  | .reverse => 1

/-- Pacing mode: 1 PACED, 2 UNPACED (spec/11 section 11.9). -/
def paceModeCode (paced : Bool) : Nat := if paced then 1 else 2

/-! ### Stamps, grants and robot sets -/

/-- Stamp word A: T low (spec/11 section 11.9). -/
def Stamp.wordA (s : Stamp) : Word := s.t.setWidth 32

/-- Stamp word B: T high in bits 0 to 15, quality in 16 and 17, STEPPED in 18 (section 11.9). -/
def Stamp.wordB (s : Stamp) : Word :=
  (0 : BitVec 13) ++ BitVec.ofBool s.stepped ++ s.quality ++ s.t.extractLsb' 32 16

/-- The two words of a stamp, A then B. -/
def Stamp.field (s : Stamp) : Field := .long (s.wordB ++ s.wordA)

/-- A Grant Table entry byte: the region index in bits 0 to 3, 1 RO or 2 RW in bits 4 and 5; all ones
beyond the count (R170). -/
def grantByte (gs : List Grant) (i : Nat) : Field :=
  match gs[i]? with
  | some g => byteOf (g.region % 16 + (if g.rw then 2 else 1) * 16)
  | none => .byte 0xFF

/-- A Grant Table: its count, then four entry bytes (R170). -/
def grantFields (gs : List Grant) : List Field :=
  byteOf gs.length :: [grantByte gs 0, grantByte gs 1, grantByte gs 2, grantByte gs 3]

/-- A robot set: six bytes, the outcome or all ones (R170). -/
def robotSetFields (rs : PerRobot (Option RobotOutcome)) : List Field :=
  rs.toList.map fun o => byteOpt (o.map RobotOutcome.code)

/-! ### The kinds of report (spec/11 section 11.9) -/

/-- The kind code of a report record. -/
def Report.kind : Report → Nat
  | .start .. => 1
  | .accessDenied .. => 2
  | .memoryFault .. => 3
  | .robotState .. => 4
  | .orderGuarded .. => 5
  | .orderRefused .. => 6
  | .fillDeviation .. => 7
  | .quarantine .. => 8
  | .shotStray .. => 9
  | .verdictMalformed .. => 10
  | .verdictDuplicate .. => 11
  | .verdictLate .. => 12
  | .verdictUnknown .. => 13
  | .bottleRejected .. => 14
  | .bottleDropped .. => 15
  | .timeState .. => 16
  | .timeStepped .. => 17
  | .timeSetLapsed .. => 18
  | .portLink .. => 19
  | .errorBurst .. => 20
  | .switchState .. => 21
  | .serviceState .. => 22
  | .serviceDenied .. => 23
  | .keepaliveLapsed .. => 24
  | .commandOverrun .. => 25
  | .overrun => 26
  | .resumed .. => 27

/-- The source index of a report record. -/
def Report.source : Report → Nat
  | .robotState r .. => r.num
  | .orderGuarded r .. => r.num
  | .orderRefused r .. => r.num
  | .fillDeviation r .. => r.num
  | .quarantine r .. => r.num
  | .portLink p .. => p.num
  | .errorBurst p .. => p.num
  | .shotStray k .. => k.num
  | .verdictDuplicate k .. => k.num
  | .verdictLate k .. => k.num
  | .verdictUnknown k .. => k.num
  | .accessDenied m .. => m.num
  | .serviceDenied m .. => m.num
  | .memoryFault m .. => m.num
  | .commandOverrun n .. => n.num
  | .start .. => 0
  | .verdictMalformed .. => 0
  | .bottleRejected .. => 0
  | .bottleDropped .. => 0
  | .timeState .. => 0
  | .timeStepped .. => 0
  | .timeSetLapsed .. => 0
  | .switchState .. => 0
  | .serviceState .. => 0
  | .keepaliveLapsed .. => 0
  | .overrun => 0
  | .resumed .. => 0

/-- The particulars a limiter's report carries (R33). -/
def denialFields (p : Particulars) (covers total : Nat) : List Field :=
  [byteOf p.cause.code, byteOf p.dir.code, wordFld p.addr.toNat, byteOf p.len.words,
   byteOpt (p.region.map RegionRef.code), halfOf covers, wordFld total]

/-- The fields of a report in words 3 to 7, without the one its source index carries (R170); their
order is that in which the chapter named in `Report` lists them (log 10). VERDICT_LATE without a slot
(R135) has a bottle number none and a closed flag of 0 besides its own fields (DESIGN CHOICE, log 10). A
TIME_STATE and a TIME_STEPPED that no phase error belongs to lay the field e as none (DESIGN CHOICE, log 41). -/
def Report.fields : Report → List Field
  | .start cause check codes adjusted safe lost =>
      byteOf cause.code :: byteOf (selfCheckCode check) ::
        (codes.map fun c => byteOf c.toNat) ++ [flagFld adjusted, flagFld safe, wordFld lost]
  | .accessDenied _ p covers total => denialFields p covers total
  | .serviceDenied _ p covers total w session =>
      denialFields p covers total ++ [byteOf w.code, .half session]
  | .memoryFault _ dir addr len region =>
      [byteOf dir.code, wordFld addr.toNat, byteOf len.words, byteOf region.code]
  | .robotState _ before after cause owner hold fault code run tag =>
      [byteOf before.code, byteOf after.code, byteOf cause.code, byteOf owner.code,
       byteOpt (hold.map HoldCause.code), byteOpt (fault.map FaultCause.code), .half code,
       byteOf run, num16Opt tag]
  | .orderGuarded _ owner tag v f h v' f' h' flags =>
      [byteOf owner.code, .half tag, halfOf v, halfOf f, halfOf h, halfOf v', halfOf f', halfOf h',
       flagFld flags.volClamped, flagFld flags.flowCapped, flagFld flags.ramped,
       flagFld flags.heightClamped]
  | .orderRefused _ m reason state owner tag mode =>
      [byteOf m.num, byteOf reason.code, byteOf state.code, byteOf owner.code, num16Opt tag,
       byteOpt (mode.map BitVec.toNat)]
  | .fillDeviation _ tag guarded delivered tolerance owner =>
      [.half tag, halfOf guarded, halfOf delivered, byteOf tolerance, byteOf owner.code]
  | .quarantine _ run limit tag => [byteOf run, byteOf limit, num16Opt tag]
  | .shotStray _ shot pos awaited => [.half shot, wordFld pos.toNat, byteOf awaited]
  | .verdictMalformed reason addr len camera verdict filler shot =>
      [byteOf reason.code, wordFld addr.toNat, byteOf len.words, byteOpt (camera.map BitVec.toNat),
       byteOpt (verdict.map BitVec.toNat), byteOpt (filler.map BitVec.toNat), num16Opt shot]
  | .verdictDuplicate _ shot bottle sv sf nv nf agree =>
      [.half shot, .half bottle, byteOf sv.code, byteOf sf, byteOf nv.code, byteOf nf,
       flagFld agree]
  | .verdictLate _ shot counter d bottle closed =>
      [.half shot, .half counter, intHalf d, num16Opt bottle, flagFld closed]
  | .verdictUnknown _ shot counter d => [.half shot, .half counter, intHalf d]
  | .bottleRejected n reason absorbed cams filler defect p0 off =>
      [.half n, byteOf reason.code, byteOf absorbed] ++ (cams.toList.map fun k => byteOf k.code) ++
        [byteOf filler, .half defect, wordFld p0.toNat, wordFld off.toNat]
  | .bottleDropped n head tail dropped => [byteOf n, num16Opt head, num16Opt tail, .word dropped]
  | .timeState before after cause f c e =>
      [byteOf before.code, byteOf after.code, byteOf cause.code, intHalf f, intHalf c,
       intWordOpt e]
  | .timeStepped cause t e => [byteOf cause.code, .long (t.setWidth 64), intWordOpt e]
  | .timeSetLapsed s => [wordFld s]
  | .portLink _ role before after speed count total =>
      [byteOf role.code, byteOf (linkCode before), byteOf (linkCode after), byteOf speed.toNat,
       .half count, wordFld total]
  | .errorBurst _ role delta threshold count total =>
      [byteOf role.code, halfOf delta, halfOf threshold, .half count, wordFld total]
  | .switchState before after restart sequence restarts =>
      [byteOf before.code, byteOf after.code, flagFld restart,
       halfOpt (sequence.map BitVec.toNat), halfOf restarts]
  | .serviceState before after cause session key grants robots =>
      [byteOf before.code, byteOf after.code, byteOf cause.code, .half session, flagFld key] ++
        grantFields grants ++ robotSetFields robots
  | .keepaliveLapsed timeout value => [halfOf timeout, .word value]
  | .commandOverrun _ ignored awaiting => [.word ignored, .word awaiting]
  | .overrun => []
  | .resumed lost => [wordFld lost]

/-- The eight words of a report record with its stamp (spec/11 section 11.9). -/
def Report.words (r : Report) (st : Stamp) : List Word :=
  BitVec.ofNat 32 (r.kind + r.source * 256) :: st.wordA :: st.wordB :: padTo 5 (layWords r.fields)

end Sys2Proof.Machine
end

