-- ==== Sys2Proof/Machine/Writer.lean ====
section
/-!
DEFINITION. The Report Writer and the staging queue: stamps, the report ring, the placing of a raised
report, lost records, and command results that join or wait (R11, R51, R163, R164).
-/
namespace Sys2Proof.Machine

/-! ### Stamps (R51) -/

/-- The quality of a discipline state. -/
def ClockState.quality : ClockState → BitVec 2
  | .unset => 0
  | .locking => 2
  | .locked => 3
  | .holdover => 1
  | .drifting => 0

/-- STEPPED: T was replaced fewer than 10,000,000 µs of M ago. -/
def Clock.stepped (k : Clock) : Bool :=
  match k.lastReplaced with
  | none => false
  | some at_ => decide (at_.age k.m < 10000000)

/-- The stamp of this moment. -/
def Clock.stamp (k : Clock) : Stamp := { t := k.t, quality := k.state.quality, stepped := k.stepped }

/-! ### The region entries the part itself uses -/

/-- The kind a code names (spec/11 section 11.9). -/
def RegionKind.ofCode? (c : BitVec 4) : Option RegionKind :=
  match c.toNat with
  | 1 => some .plain
  | 2 => some .stamped
  | 3 => some .orders
  | 4 => some .status
  | 5 => some .verdicts
  | 6 => some .ports
  | 7 => some .control
  | 8 => some .reports
  | _ => none

/-- The enabled entry of kind `k` of lowest index, if there is one. -/
def RegionMap.entryOf (mp : RegionMap) (k : RegionKind) : Option RegionEntry :=
  mp.entries.find? fun e => e.enabled && decide (RegionKind.ofCode? e.kindCode = some k)

/-- The base of the enabled entry of kind `k`. The map in force always holds a CONTROL and a REPORTS
entry (R29). -/
def RegionMap.baseOf (mp : RegionMap) (k : RegionKind) : Nat :=
  match mp.entryOf k with
  | some e => e.base
  | none => 0

/-- The capacity N of the report ring: the REPORTS region's size divided by 8, at most 4096 (R163). -/
def RegionMap.ringCapacity (mp : RegionMap) : Nat :=
  match mp.entryOf .reports with
  | some e => min (e.size / 8) 4096
  | none => 480

/-! ### The ring (R163) -/

/-- Records placed and not consumed: (put − take) mod N. -/
def unconsumed (n : Nat) (w : Writer) : Nat := (w.put + n - w.take % n) % n

/-- Free slots: N − 1 − unconsumed. -/
def freeSlots (n : Nat) (w : Writer) : Nat := n - 1 - unconsumed n w

/-- Records that stand whole in memory and are not consumed: (written − take) mod N. -/
def visible (n : Nat) (w : Writer) : Nat := (w.written + n - w.take % n) % n

/-- The staging queue's size (R11). -/
def stagingMax : Nat := 8

/-- The staging entry of a record placed now. -/
def recordEntry (r : Report) (s : State) : StagingEntry :=
  { body := .record r s.clock.stamp, addr := s.map.baseOf .reports + 8 * s.writer.put,
    current := true, firstDone := false, failed := false, cut := false }

/-- Place a record in the ring: it joins the staging queue and the put index advances (R163). -/
def placeRecord (r : Report) (s : State) : State :=
  (s.setStaging (s.staging ++ [recordEntry r s])).setWriter
    { s.writer with put := (s.writer.put + 1) % s.map.ringCapacity }

/-- Lost is incremented, and the mode is LOSING: a record raised in LOSING, or an entry handed back
(R164). -/
def loseRecord (s : State) : State :=
  s.setWriter { s.writer with lost := satAdd32 s.writer.lost 1, losing := true }

/-- Lost becomes 1 and the mode LOSING: a record that NORMAL does not place (R164). -/
def beginLosing (s : State) : State := s.setWriter { s.writer with lost := 1, losing := true }

/-- The NORMAL rows of R164. With no free slot at all, which the table does not list, the record is
lost as where the staging queue is full (log 15). -/
def takeNormal (r : Report) (s : State) : State :=
  if stagingMax ≤ s.staging.length then beginLosing s
  else if 2 ≤ freeSlots s.map.ringCapacity s.writer then placeRecord r s
  else if freeSlots s.map.ringCapacity s.writer = 1 then beginLosing (placeRecord .overrun s)
  else beginLosing s

/-- The RESUMED marker is placed, lost becomes 0 and the mode NORMAL (R164). -/
def resumeWriter (s : State) : State :=
  let p := placeRecord (.resumed s.writer.lost) s
  p.setWriter { p.writer with lost := 0, losing := false }

/-- A report raised by any block is taken by the Report Writer in the event that raises it (R164). -/
def raise (r : Report) (s : State) : State :=
  if s.writer.losing then
    if 2 ≤ freeSlots s.map.ringCapacity s.writer ∧ s.staging.length + 2 ≤ stagingMax then
      takeNormal r (resumeWriter s)
    else loseRecord s
  else takeNormal r s

/-- Several reports raised in order. -/
def raiseAll (rs : List Report) (s : State) : State := rs.foldl (fun s r => raise r s) s

/-- Set put, written and take to 0 and the mode to NORMAL, for the ring of the map in force; records
in the staging queue were placed before (R163, R167, R168). -/
def resetRing (s : State) : State :=
  (s.setWriter { s.writer with put := 0, written := 0, take := 0, losing := false }).setStaging
    (s.staging.map fun e =>
      match e.body with
      | .record _ _ => { e with current := false }
      | .result _ _ _ _ _ => e)

/-! ### Results in the staging queue (R11) -/

/-- A result joins at the tail, or waits in its command slot where the queue is full. -/
def offerResult (n : Slot) (e : StagingEntry) (s : State) : State :=
  if s.staging.length < stagingMax then s.setStaging (s.staging ++ [e])
  else s.setSlots (s.slots.set n { s.slots.get n with waiting := some e })

/-- The waiting result of the lowest-numbered slot joins the tail, if one waits and there is room. -/
def joinWaiting (s : State) : State :=
  if s.staging.length < stagingMax then
    match allSlots.find? (fun n => (s.slots.get n).waiting.isSome) with
    | none => s
    | some n =>
      match (s.slots.get n).waiting with
      | none => s
      | some e =>
        (s.setStaging (s.staging ++ [e])).setSlots
          (s.slots.set n { s.slots.get n with waiting := none })
  else s

/-! ### The words an entry writes (R12, R160) -/

/-- All four bytes enabled. -/
def allEnables : BitVec 4 := 0b1111

/-- Word 14 of a result: opcode echo, result code, issue count (spec/11 section 11.9). -/
def resultWord14 (code : ResultCode) (issues : BitVec 16) (word : Word) : Word :=
  issues ++ (0 : BitVec 4) ++ BitVec.ofNat 4 code.code ++ opcodeField word

/-- Whether an entry is written by two writes: a result with query data. -/
def StagingEntry.twoWrites (e : StagingEntry) : Bool :=
  match e.body with
  | .record _ _ => false
  | .result _ _ _ _ data => data.isSome

/-- The address of the write that is due for an entry. -/
def StagingEntry.writeAddr (e : StagingEntry) : Nat :=
  match e.body with
  | .record _ _ => e.addr
  | .result _ _ _ _ data => if data.isSome && !e.firstDone then e.addr else e.addr + 8

/-- The eight words of the write that is due for an entry, with their enables. A result without
query data leaves slot words 8 to 13 as LINE wrote them. -/
def StagingEntry.writeWords (e : StagingEntry) : List WriteWord :=
  match e.body with
  | .record r st => (r.words st).map fun w => ⟨w, allEnables⟩
  | .result _ code issues word none =>
      List.replicate 6 ⟨0, 0⟩ ++ [⟨resultWord14 code issues word, allEnables⟩, ⟨word, allEnables⟩]
  | .result _ code issues word (some data) =>
      if e.firstDone then
        (((padTo 14 data).drop 8) ++ [resultWord14 code issues word, word]).map fun w =>
          ⟨w, allEnables⟩
      else ((padTo 14 data).take 8).map fun w => ⟨w, allEnables⟩

end Sys2Proof.Machine
end

