-- ==== Sys2Proof/Machine/Arbiter.lean ====
section
/-!
DEFINITION. The memory port and its arbiter (R9, R10, R12): who is granted, and what the request at
the memory controller is.
-/
namespace Sys2Proof.Machine

/-- The port after `m` in the round-robin order M0, M1, M2, M3, M4 and back (R10). -/
def nextMaster : Master → Master
  | .line => .switch
  | .switch => .camera
  | .camera => .robotlink
  | .robotlink => .service
  | .service => .line

/-- The round-robin search order that starts at the port after `m`. -/
def searchAfter (m : Master) : List Master :=
  let a := nextMaster m
  let b := nextMaster a
  let c := nextMaster b
  let d := nextMaster c
  [a, b, c, d, nextMaster d]

/-- A master port is ready while it is WAITING (R10). -/
def PortState.isWaiting : PortState → Bool
  | .waiting _ => true
  | .empty => false
  | .held _ => false
  | .inMemory _ => false

/-- The next WAITING master port in round-robin order, if there is one. -/
def Transit.nextWaiting (t : Transit) : Option Master :=
  (searchAfter t.pointer).find? fun m => (t.ports.get m).isWaiting

/-- A grant to the internal writer; the pointer stays (R10). -/
def Transit.grantInternal (t : Transit) : Transit := { t with memPort := .internal }

/-- A grant to a master port: it enters IN_MEMORY and the pointer moves to it (R9, R10). -/
def Transit.grantMaster (t : Transit) (m : Master) : Transit :=
  match t.ports.get m with
  | .waiting x => { t with ports := t.ports.set m (.inMemory x), memPort := .master m, pointer := m }
  | .empty => t
  | .held _ => t
  | .inMemory _ => t

/-- The arbiter's choice with `n` staging entries (R10's table); nothing where the memory port is
busy (R9) or no candidate is ready. -/
def Transit.arbitrate (t : Transit) (n : Nat) : Transit :=
  match t.memPort with
  | .master _ => t
  | .internal => t
  | .free =>
    if 6 ≤ n then t.grantInternal
    else
      match t.nextWaiting with
      | some m => t.grantMaster m
      | none => if 1 ≤ n then t.grantInternal else t

/-- The arbiter looks at the end of the event (R10, log 16). -/
def arbitrate (s : State) : State := s.setTransit (s.transit.arbitrate s.staging.length)

/-- The event ends: the arbiter looks, and the state that results is the next one. -/
def finish (s : State) : Host.Outcome State Fault Refusal := .next (arbitrate s)

/-- A request on the memory port's lane. -/
structure MemRequest where
  dir : Dir
  addr : Nat
  length : Nat
  words : List WriteWord
  deriving DecidableEq, Repr

/-- The request at the memory controller, if the memory port is busy (R9, R12). -/
def memoryLane (s : State) : Option MemRequest :=
  match s.transit.memPort with
  | .free => none
  | .master m =>
    match s.transit.ports.get m with
    | .inMemory t => some { dir := t.dir, addr := t.addr.toNat, length := t.len.words, words := t.words }
    | .empty => none
    | .held _ => none
    | .waiting _ => none
  | .internal =>
    match s.staging with
    | [] => none
    | e :: _ => some { dir := .write, addr := e.writeAddr, length := 8, words := e.writeWords }

end Sys2Proof.Machine
end

