-- ==== Sys2Proof/Machine/Operands.lean ====
section
/-!
DEFINITION. The operands of the commands of the control page (spec/11 section 11.9) and the course of
a command in its slot: overrun, issue, execution and result (R159, R160).
-/
namespace Sys2Proof.Machine

/-! ### Parameters -/

/-- Word i of a slot's parameter copy. -/
def State.param (s : State) (n : Slot) (i : Nat) : Word := (s.slots.get n).params.getD i 0

/-- Bits `lo` to `lo + w - 1` of a word, as a number. -/
def bitsOf (x : Word) (lo w : Nat) : Nat := (x.extractLsb' lo w).toNat

/-- A parameter field of a slot. -/
def State.paramBits (s : State) (n : Slot) (i lo w : Nat) : Nat := bitsOf (s.param n i) lo w

/-- A whole parameter word of a slot. -/
def State.paramWord (s : State) (n : Slot) (i : Nat) : Nat := (s.param n i).toNat

/-- The page field of the command being executed: the opcode word at issue of its slot. -/
def State.page (s : State) (n : Slot) : Nat := pageField (s.slots.get n).issued

/-- Replace the bytes of `old` whose enable is set by those of `new` (R158). -/
def mergeBytes (old : Word) (new : WriteWord) : Word :=
  let pick (i : Nat) : BitVec 8 :=
    if new.enables.getLsbD i then new.data.extractLsb' (8 * i) 8 else old.extractLsb' (8 * i) 8
  pick 3 ++ pick 2 ++ pick 1 ++ pick 0

/-! ### Conditions -/

/-- The part is in SAFE. -/
def State.isSafe (s : State) : Bool := decide (s.loader.condition = .safe)

/-- The control page is not decoded while the part is LOADING (R158). -/
def State.isLoading (s : State) : Bool := decide (s.loader.condition = .loading)

/-! ### Execution and result -/

/-- What the execution of a command gives: the state, the result code, and slot words 0 to 13 where
the result has query data (R160). -/
structure Reply where
  state : State
  code : ResultCode
  data : Option (List Word)

/-- The query data of a field list that fits one page; no field is no data (R160). -/
def pageOne (fs : List Field) : Option (List Word) :=
  match layWords fs with
  | [] => none
  | ws => some (padTo 14 ws)

/-- Words 14p to 14p + 13 of the laid-out data, if page p names data (R160). -/
def pageOf (fs : List Field) (p : Nat) : Option (List Word) :=
  match (layWords fs).drop (14 * p) with
  | [] => none
  | ws => some (padTo 14 ws)

/-- A refusal: nothing changes, no data. -/
def refuse (s : State) (c : ResultCode) : Reply := { state := s, code := c, data := none }

/-- A query: the page of its data that the opcode word names, or REFUSED_PARAM (R160). -/
def queryReply (s : State) (n : Slot) (fs : List Field) : Reply :=
  match pageOf fs (s.page n) with
  | none => refuse s .refusedParam
  | some ws => { state := s, code := .done, data := some ws }

/-- The issue of a command in a FREE slot: the issue count and the opcode word at issue (R159). -/
def beginIssue (n : Slot) (word : Word) (s : State) : State :=
  s.setSlots (s.slots.set n { s.slots.get n with issues := (s.slots.get n).issues + 1, issued := word })

/-- The staging entry of a result formed now (R160), at the slot's place in the page in force. -/
def resultEntry (n : Slot) (code : ResultCode) (data : Option (List Word)) (s : State) : StagingEntry :=
  { body := .result n code (s.slots.get n).issues (s.slots.get n).issued data,
    addr := s.map.baseOf .control + 16 * n.num,
    current := true, firstDone := false, failed := false, cut := false }

/-- The slot becomes AWAITING. -/
def setAwaiting (n : Slot) (b : Bool) (s : State) : State :=
  s.setSlots (s.slots.set n { s.slots.get n with awaiting := b })

/-- The result is formed, the slot becomes AWAITING and the result is offered (R159). -/
def giveResult (n : Slot) (code : ResultCode) (data : Option (List Word)) (s : State) : State :=
  offerResult n (resultEntry n code data s) (setAwaiting n true s)

/-- An opcode written to a slot: nothing while LOADING, an overrun while AWAITING, else the command
executes and its result is formed and offered (R159). -/
def issueCommand (n : Slot) (word : Word) (run : State → Reply) (s : State) : State :=
  if s.isLoading then s
  else if (s.slots.get n).awaiting then
    raise (.commandOverrun n word (s.slots.get n).issued) s
  else
    let r := run (beginIssue n word s)
    giveResult n r.code r.data r.state

end Sys2Proof.Machine
end

