-- ==== Sys2Proof/Machine/SwitchWatch.lean ====
section
/-!
DEFINITION. The Cabinet Switch Watch (spec/05): decoding the mailbox, link and storm latches, the
switch heartbeat, role notices, what LINE reads, SWITCH_QUERY.
-/
namespace Sys2Proof.Machine

/-! ### The view other blocks ask for (R72, R73) -/

/-- A Port Table entry. -/
def State.port (s : State) (p : SwPort) : PortEntry := s.switch.table.get p

/-- A port is in service while its link_now is UP and the switch is not SILENT. -/
def State.inService (s : State) (p : SwPort) : Bool :=
  (s.port p).linkUp && decide (s.switch.state ≠ .silent)

/-- Some port has the role TIME_SOURCE. -/
def State.hasTimeSource (s : State) : Bool :=
  s.switch.table.toList.any fun e => decide (e.role = .timeSource)

/-- The Port Table with an entry replaced. -/
def setPort (p : SwPort) (e : PortEntry) (s : State) : State :=
  s.setSwitch { s.switch with table := s.switch.table.set p e }

/-! ### Notices (R72, R73) -/

/-- A link-loss notice for port p goes to the block its role names (R73). -/
def sendLoss (p : SwPort) (s : State) : State :=
  match (s.port p).role with
  | .timeSource => s.setMail { s.mail with clock := s.mail.clock ++ [.linkLoss p] }
  | .robotLink => s.setMail { s.mail with robotLink := s.mail.robotLink ++ [.loss p] }
  | .camera => s.setMail { s.mail with cameras := s.mail.cameras ++ [.loss p] }
  | .service => s.setMail { s.mail with serviceLoss := s.mail.serviceLoss ++ [p] }
  | .unused => s
  | .uplink => s

/-- A link-return notice for port p; none is sent to the Service Window (R73). -/
def sendReturn (p : SwPort) (s : State) : State :=
  match (s.port p).role with
  | .timeSource => s.setMail { s.mail with clock := s.mail.clock ++ [.linkReturn p] }
  | .robotLink => s.setMail { s.mail with robotLink := s.mail.robotLink ++ [.back p] }
  | .camera => s.setMail { s.mail with cameras := s.mail.cameras ++ [.back p] }
  | .service => s
  | .unused => s
  | .uplink => s

/-- A notice for every port whose link_now is UP, in ascending order of port number. -/
def sendForUpPorts (send : SwPort → State → State) (s : State) : State :=
  allPorts.foldl (fun s p => if (s.port p).linkUp then send p s else s) s

/-! ### Port words (R69 to R71) -/

/-- Link field of a port word: UP. -/
def portWordUp (w : Word) : Bool := w.getLsbD 0
/-- Speed field of a port word. -/
def portWordSpeed (w : Word) : BitVec 2 := w.extractLsb' 1 2
/-- Storm field of a port word. -/
def portWordStorm (w : Word) : Bool := w.getLsbD 3
/-- Error count of a port word. -/
def portWordCount (w : Word) : BitVec 16 := w.extractLsb' 16 16

/-- The delta of the error count (R69 step 1). -/
def PortEntry.delta (e : PortEntry) (count : BitVec 16) : Nat :=
  if e.baselinePending then 0 else (count - e.lastCount).toNat

/-- The error count is taken (R69). -/
def PortEntry.takeCount (e : PortEntry) (count : BitVec 16) : PortEntry :=
  { e with baselinePending := false, total := satAdd32 e.total (e.delta count), lastCount := count }

/-- The link field is taken (R70). -/
def PortEntry.takeLink (e : PortEntry) (up : Bool) : PortEntry :=
  { e with linkUp := up, downLatched := if up then e.downLatched else true }

/-- The storm field is taken (R71). -/
def PortEntry.takeStorm (e : PortEntry) (storm : Bool) : PortEntry :=
  { e with stormLatched := e.stormLatched || storm }

/-- A decoded port word of port p: error count, link and storm, in that order (R68 to R72). -/
def decodePortWord (p : SwPort) (w : Word) (s : State) : State :=
  let e := s.port p
  let count := portWordCount w
  let d := e.delta count
  let e1 := e.takeCount count
  let s1 := setPort p e1 s
  let s2 :=
    if e.threshold < d ∧ e.role ≠ .unused then
      raise (.errorBurst p e.role d e.threshold count e1.total) s1
    else s1
  let up := portWordUp w
  let e2 := e1.takeLink up
  let s3 := setPort p e2 s2
  let s4 :=
    if up ≠ e.linkUp then
      let r := if e.role ≠ .unused then
          raise (.portLink p e.role e.linkUp up (portWordSpeed w) count e1.total) s3
        else s3
      if s.switch.state = .silent then r else if up then sendReturn p r else sendLoss p r
    else s3
  setPort p (e2.takeStorm (portWordStorm w)) s4

/-! ### The heartbeat (R76 to R78) -/

/-- baseline_pending is set in all eight entries and the restart count rises (R76 step 1). -/
def SwitchWatch.restart (w : SwitchWatch) : SwitchWatch :=
  { w with table := w.table.map fun e => { e with baselinePending := true },
           restarts := satInc16 w.restarts }

/-- The sequence field of the heartbeat word. -/
def heartbeatSequence (w : Word) : BitVec 16 := w.extractLsb' 0 16

/-- The heartbeat is a restart: sequence 0 after a value other than 0 (R76 step 1). -/
def SwitchWatch.isRestart (w : SwitchWatch) (sq : BitVec 16) : Bool :=
  match w.lastSequence with
  | none => false
  | some l => decide (sq = 0 ∧ l ≠ 0)

/-- A decoded heartbeat word (R76, R78). -/
def decodeHeartbeat (w : Word) (s : State) : State :=
  let sq := heartbeatSequence w
  let before := s.switch
  if before.lastSequence = some sq then s
  else
    let restart := before.isRestart sq
    let b := if restart then before.restart else before
    let after := { b with lastSequence := some sq, timer := some s.now, lastHeartbeat := some (.of s.now),
                          state := .alive }
    let s1 := s.setSwitch after
    let s2 :=
      if before.state = .silent then
        sendForUpPorts sendReturn (s1.setMail { s1.mail with clock := s1.mail.clock ++ [.silentEnded] })
      else s1
    if before.state ≠ .alive ∨ restart then
      raise (.switchState before.state .alive restart (some sq) after.restarts) s2
    else s2

/-- One word that SWITCH writes at an offset of the mailbox (R68). -/
def decodeMailboxWord (offset : Nat) (w : WriteWord) (s : State) : State :=
  if 8 < offset then s
  else if w.enables ≠ allEnables then
    s.setSwitch { s.switch with partialWords := satAdd32 s.switch.partialWords 1 }
  else if offset = 0 then decodeHeartbeat w.data s
  else
    match SwPort.ofNum? offset with
    | some p => decodePortWord p w.data s
    | none => s

/-- The words of a write from `offset` on, in ascending order (R68). -/
def decodeMailbox : Nat → List WriteWord → State → State
  | _, [], s => s
  | offset, w :: ws, s => decodeMailbox (offset + 1) ws (decodeMailboxWord offset w s)

/-! ### The heartbeat timer (R77) -/

/-- The heartbeat timer runs in ALIVE and has reached the switch timeout. -/
def switchTimeoutDue (s : State) : Bool :=
  decide (s.switch.state = .alive) && timerDue s.now s.switch.timer (s.switch.timeout * 1000)

/-- The switch becomes SILENT with its report and notices (R77). DESIGN CHOICE (log 33): the report has
the fields of R76's, with no restart and the present restart count. -/
def becomeSilent (s : State) : State :=
  let s1 := s.setSwitch { s.switch with state := .silent, timer := none }
  let s2 := raise (.switchState .alive .silent false s.switch.lastSequence s.switch.restarts) s1
  sendForUpPorts sendLoss (s2.setMail { s2.mail with clock := s2.mail.clock ++ [.silent] })

/-- SWITCH_TIMEOUT: the timer's expiry, where it is due. -/
def switchTimeoutEvent (s : State) : State := if switchTimeoutDue s then becomeSilent s else s

/-! ### What LINE reads (R74, R75) -/

/-- A port word as LINE is shown it: link and storm from the Port Table, the rest from memory. -/
def PortEntry.shown (e : PortEntry) (w : Word) : Word :=
  w.extractLsb' 4 28 ++ BitVec.ofBool e.stormLatched ++ w.extractLsb' 1 2 ++
    BitVec.ofBool (e.linkUp && !e.downLatched)

/-- The data of LINE's read from `offset` on, with the port words substituted (R74). -/
def shownMailbox (s : State) : Nat → List Word → List Word
  | _, [] => []
  | offset, w :: ws =>
    (match SwPort.ofNum? offset with
      | some p => (s.port p).shown w
      | none => w) :: shownMailbox s (offset + 1) ws

/-- The latches of an entry after LINE has read its word (R75). -/
def PortEntry.clearLatches (e : PortEntry) : PortEntry :=
  { e with downLatched := e.downLatched && !e.linkUp, stormLatched := false }

/-- The latches of the ports whose words a LINE read of `n` words from `offset` on covers (R75). -/
def clearLatchesFrom (offset n : Nat) (s : State) : State :=
  (List.range n).foldl
    (fun s i =>
      match SwPort.ofNum? (offset + i) with
      | some p => setPort p (s.port p).clearLatches s
      | none => s) s

/-! ### SWITCH_QUERY (R79) -/

/-- A time since a moment: 0 to 2^32 − 1, saturating, all ones if there was none (R79, R101). -/
def sinceField (now : Micros) (o : Option Moment) : Field :=
  match o with
  | none => wordFld max32
  | some t => wordFld (min (t.age now) max32)

/-- The fields of a SWITCH_QUERY result. -/
def switchFields (s : State) (p : SwPort) : List Field :=
  let e := s.port p
  let w := s.switch
  [byteOf p.num, byteOf e.role.code, byteOf (linkCode e.linkUp), flagFld e.downLatched,
   flagFld e.stormLatched, flagFld e.baselinePending, flagFld (s.inService p), .half e.lastCount,
   wordFld e.total, halfOf e.threshold, byteOf w.state.code, num16Opt w.lastSequence,
   sinceField s.now w.lastHeartbeat, halfOf w.timeout, halfOf w.restarts, wordFld w.partialWords]

/-- SWITCH_QUERY's execution. -/
def runSwitchQuery (n : Slot) (s : State) : Reply :=
  match SwPort.ofNum? (s.paramBits n 0 0 8) with
  | none => refuse s .refusedParam
  | some p => queryReply s n (switchFields s p)

/-- An opcode write of SWITCH_QUERY. -/
def issueSwitchQuery (n : Slot) (rest : BitVec 24) (s : State) : State :=
  issueCommand n (opcodeWord 0x50 rest) (runSwitchQuery n) s

/-! ### Resets (R80) -/

/-- An entry at a cabinet reset or the acceptance of a RELOAD. -/
def PortEntry.resetKeepingConfig (e : PortEntry) : PortEntry :=
  { e with linkUp := true, downLatched := !e.linkUp || e.downLatched, stormLatched := false,
           lastCount := 0, baselinePending := true, total := 0 }

/-- The Switch Watch at a cabinet reset or the acceptance of a RELOAD. -/
def SwitchWatch.resetKeepingConfig (w : SwitchWatch) : SwitchWatch :=
  { w with table := w.table.map PortEntry.resetKeepingConfig, state := .unknown,
           lastSequence := none, timer := none, restarts := 0, partialWords := 0,
           lastHeartbeat := none }

/-! ### Meanings -/

/-- SWITCH_TIMEOUT (R77). -/
def execSwitchTimeout (s : State) : Host.Outcome State Fault Refusal := finish (switchTimeoutEvent s)

/-- SWITCH_QUERY (R79). -/
def execSwitchQuery (n : Slot) (rest : BitVec 24) (s : State) : Host.Outcome State Fault Refusal :=
  finish (issueSwitchQuery n rest s)

end Sys2Proof.Machine
end

