-- ==== Sys2Proof/Machine/HallClock.lean ====
section
/-!
DEFINITION. The Hall Clock (spec/04): the correction, the hall second pulse and its acceptance, the
discipline states, TIME_SET and TIME_QUERY.
-/
namespace Sys2Proof.Machine

/-! ### The correction (R50) -/

/-- The adjustment that is due is made: for c above 0 one microsecond is added to T; for c below 0 T has
stood at this microsecond already (`Clock.tick`), and the point is counted (log 5). -/
def Clock.adjust (k : Clock) : Clock :=
  { k with t := if 0 < k.c then k.t + 1 else k.t, adjustments := k.adjustments + 1 }

/-- An adjustment that is due when a new period begins first is dropped: a microsecond that it withheld
is given back (log 5). -/
def Clock.dropAdjustment (k : Clock) : Clock := { k with t := if k.withholds then k.t + 1 else k.t }

/-- A new correction period begins. -/
def Clock.beginPeriod (k : Clock) : Clock :=
  { k.dropAdjustment with periodStart := k.m, adjustments := 0 }

/-- In HOLDOVER and DRIFTING a period ends 1,000,000 µs after its beginning. -/
def Clock.periodDue (k : Clock) : Bool :=
  (decide (k.state = .holdover) || decide (k.state = .drifting)) && reached k.m k.periodStart 1000000

/-! ### Phase error and discipline (R54 to R57) -/

/-- The phase error of a captured T. -/
def phaseError (t : Micros) : Int :=
  let r := t.toNat % 1000000
  if r < 500000 then (r : Int) else (r : Int) - 1000000

/-- The frequency term and the correction are recomputed from e (R54). -/
def Clock.discipline (k : Clock) (e : Int) : Clock :=
  let f := clampInt (k.f - e.tdiv 8) (-200) 200
  { k with f := f, c := clampInt (f - e.tdiv 2) (-500) 500 }

/-- Entry to LOCKING sets both runs to 0. -/
def Clock.enterLocking (k : Clock) : Clock :=
  { k with state := .locking, lockRun := 0, outlierRun := 0 }

/-- T is stepped by the phase error (R55). -/
def Clock.phaseStep (k : Clock) (e : Int) : Clock :=
  { k with t := k.t - BitVec.ofInt 48 e, lockRun := 0, c := k.f, lastReplaced := some (.of k.m) }

/-- The lock run after a disciplined pulse (R55). -/
def Clock.nextLockRun (k : Clock) (e : Int) : Nat := if e.natAbs ≤ 20 then k.lockRun + 1 else 0

/-- A pulse in LOCKING (R55). -/
def Clock.pulseLocking (k : Clock) (e : Int) : Clock :=
  if 1000 < e.natAbs then k.phaseStep e
  else
    let d := { k.discipline e with lockRun := k.nextLockRun e }
    if 8 ≤ k.nextLockRun e then { d with state := .locked, outlierRun := 0 } else d

/-- A pulse in LOCKED (R56). -/
def Clock.pulseLocked (k : Clock) (e : Int) : Clock :=
  if e.natAbs ≤ 100 then { k.discipline e with outlierRun := 0 }
  else if k.outlierRun + 1 < 3 then { k with outlierRun := k.outlierRun + 1 }
  else k.enterLocking.pulseLocking e

/-- A pulse in HOLDOVER or DRIFTING (R57): the holdover limit timer stops. -/
def Clock.pulseHoldover (k : Clock) (e : Int) : Clock :=
  { k.enterLocking with holdoverStart := none }.pulseLocking e

/-- An accepted pulse without a pending set, by the discipline state (R53 step 6, R55 to R57). The
pulse watch restarts where the state is then LOCKING or LOCKED (R53 step 5, R58). -/
def Clock.pulseByState (k : Clock) : Clock :=
  let e := phaseError k.t
  match k.state with
  | .unset => k
  | .locking => { { k with lastError := e }.pulseLocking e with pulseWatch := some k.m }
  | .locked => { { k with lastError := e }.pulseLocked e with pulseWatch := some k.m }
  | .holdover => { { k with lastError := e }.pulseHoldover e with pulseWatch := some k.m }
  | .drifting => { { k with lastError := e }.pulseHoldover e with pulseWatch := some k.m }

/-- The pulse replaces T: |e| > 1000 where the pulse is handled as in LOCKING (R55 to R57). -/
def Clock.willStep (k : Clock) : Bool :=
  decide (1000 < (phaseError k.t).natAbs) &&
    match k.state with
    | .unset => false
    | .locking => true
    | .locked => decide (3 ≤ k.outlierRun + 1)
    | .holdover => true
    | .drifting => true

/-- The cause of a change of state that a pulse makes (R65). -/
def pulseCause (before : ClockState) : TimeCause :=
  match before with
  | .unset => .setApplied
  | .locking => .lockRun
  | .locked => .outliers
  | .holdover => .pulseResumed
  | .drifting => .pulseResumed

/-- A pending set is applied (R62). -/
def Clock.applySet (k : Clock) (seconds : Nat) : Clock :=
  { k.enterLocking with
    t := BitVec.ofNat 48 (seconds * 1000000), c := k.f, pendingSet := none, holdoverStart := none,
    pulseWatch := some k.m, lastReplaced := some (.of k.m) }

/-! ### The hall second pulse (R52, R53) -/

/-- The pulse is trusted (R52). -/
def State.pulseTrusted (s : State) : Bool :=
  !s.hasTimeSource ||
    (s.switch.table.toList.all (fun e => decide (e.role ≠ .timeSource) || e.linkUp) &&
      decide (s.switch.state ≠ .silent))

/-- A trusted pulse is accepted (R53): the first, or 999,000 µs after the last accepted one. -/
def Clock.accepts (k : Clock) : Bool :=
  match k.lastAccepted with
  | none => true
  | some l => decide (999000 ≤ l.age k.m)

/-- Steps 2 to 4 of an accepted pulse (R53). -/
def Clock.noteAccepted (k : Clock) : Clock :=
  { k.beginPeriod with lastAccepted := some (.of k.m), accepted := satAdd32 k.accepted 1 }

/-- The reports of a pulse handled by the discipline: TIME_STATE before TIME_STEPPED (R65). -/
def pulseReports (before after : Clock) : List Report :=
  let e := phaseError before.t
  (if before.state ≠ after.state then
    [Report.timeState before.state after.state (pulseCause before.state) after.f after.c (some e)]
   else []) ++
  (if before.willStep then [Report.timeStepped .phaseStep before.t (some e)] else [])

/-- The reports of an applied set (R62). -/
def setReports (before after : Clock) : List Report :=
  (if before.state ≠ .locking then
    [Report.timeState before.state .locking .setApplied after.f after.c none] else []) ++
  [Report.timeStepped .setApplied before.t none]

/-- An accepted pulse (R53). -/
def acceptPulse (s : State) : State :=
  let k := s.clock.noteAccepted
  match k.pendingSet with
  | some p =>
    let after := k.applySet p.seconds
    raiseAll (setReports k after) (s.setClock after)
  | none =>
    let after := k.pulseByState
    raiseAll (pulseReports k after) (s.setClock after)

/-- A rising edge on HALL_PPS (R52, R53). -/
def hallPulseEvent (s : State) : State :=
  if !s.pulseTrusted then s.setClock { s.clock with untrusted := satAdd32 s.clock.untrusted 1 }
  else if !s.clock.accepts then s.setClock { s.clock with glitches := satAdd32 s.clock.glitches 1 }
  else acceptPulse s

/-! ### Losing the pulse (R58 to R60) -/

/-- The clock enters HOLDOVER (R58). -/
def Clock.enterHoldover (k : Clock) : Clock :=
  { k.beginPeriod with state := .holdover, c := k.f, holdoverStart := some (.of k.m), pulseWatch := none }

/-- HOLDOVER is entered with its report. -/
def enterHoldover (cause : TimeCause) (s : State) : State :=
  let k := s.clock.enterHoldover
  raise (.timeState s.clock.state .holdover cause k.f k.c none) (s.setClock k)

/-- The clock is LOCKING or LOCKED. -/
def Clock.steering (k : Clock) : Bool := decide (k.state = .locking) || decide (k.state = .locked)

/-- The pulse watch expires: 1,002,000 µs without an accepted pulse (R58). -/
def Clock.watchDue (k : Clock) : Bool := k.steering && timerDue k.m k.pulseWatch 1002000

/-- PULSE_WATCH_EXPIRY, where it is due. -/
def pulseWatchEvent (s : State) : State :=
  if s.clock.watchDue then enterHoldover .pulseMissing s else s

/-- The holdover limit timer has reached the holdover limit (R60). -/
def Clock.limitDue (k : Clock) : Bool :=
  decide (k.state = .holdover) &&
    match k.holdoverStart with
    | none => false
    | some h => decide (k.holdoverLimit * 1000000 ≤ h.age k.m)

/-- HOLDOVER_LIMIT, where it is due: the state becomes DRIFTING (R60). -/
def holdoverLimitEvent (s : State) : State :=
  if s.clock.limitDue then
    raise (.timeState .holdover .drifting .holdoverLimit s.clock.f s.clock.c none)
      (s.setClock { s.clock with state := .drifting })
  else s

/-- The Hall Clock takes a notice (R59). DESIGN CHOICE (log 45), where a LOAD_END changes roles between
the sending and the taking: a link loss, sent only for a TIME_SOURCE port, untrusts whatever the port's
role is now, and a SILENT notice untrusts if a port has the role now. -/
def takeClockNotice (c : ClockNotice) (s : State) : State :=
  let untrusting :=
    match c with
    | .linkLoss _ => true
    | .silent => s.hasTimeSource
    | .linkReturn _ => false
    | .silentEnded => false
  if untrusting && s.clock.steering then enterHoldover .sourceLost s else s

/-- CLOCK_SOURCE_NOTICE: the oldest notice on its way to the Hall Clock is taken. -/
def clockNoticeEvent (s : State) : State :=
  match s.mail.clock with
  | [] => s
  | c :: cs => takeClockNotice c (s.setMail { s.mail with clock := cs })

/-! ### TIME_SET and its lapse (R61, R63) -/

/-- The largest parameter of TIME_SET. -/
def maxSetSeconds : Nat := 281474975

/-- TIME_SET's execution (R61). -/
def runTimeSet (n : Slot) (s : State) : Reply :=
  let sec := s.paramWord n 0
  if s.isSafe then refuse s .refusedState
  else if maxSetSeconds < sec then refuse s .refusedParam
  else
    { state := s.setClock { s.clock with pendingSet := some { seconds := sec, start := s.now } },
      code := .done,
      data := pageOne [wordFld sec, wordOpt (s.clock.pendingSet.map PendingSet.seconds)] }

/-- An opcode write of TIME_SET. -/
def issueTimeSet (n : Slot) (rest : BitVec 24) (s : State) : State :=
  issueCommand n (opcodeWord 0x20 rest) (runTimeSet n) s

/-- The lapse timer of the pending set has reached 2,000,000 µs (R63). -/
def Clock.lapseDue (k : Clock) : Bool :=
  match k.pendingSet with
  | none => false
  | some p => reached k.m p.start 2000000

/-- TIME_SET_LAPSED, where it is due: the pending set is dropped with a report (R63). -/
def setLapsedEvent (s : State) : State :=
  match s.clock.pendingSet with
  | none => s
  | some p =>
    if reached s.clock.m p.start 2000000 then
      raise (.timeSetLapsed p.seconds) (s.setClock { s.clock with pendingSet := none })
    else s

/-! ### TIME_QUERY (R64) -/

/-- Time left to lapse; a free value of its range where no set is pending (log 13). -/
def Clock.lapseLeft (k : Clock) : Nat :=
  match k.pendingSet with
  | none => Config.lapseLeftWithoutSet k.m.toNat % 2000001
  | some p => 2000000 - elapsed k.m p.start

/-- Time in HOLDOVER in ms (R64): 0 in UNSET, LOCKING and LOCKED. DESIGN CHOICE (log 46): rounded down to
a whole ms. -/
def Clock.holdoverMs (k : Clock) : Nat :=
  if k.state = .holdover ∨ k.state = .drifting then
    match k.holdoverStart with
    | none => 0
    | some h => min (h.age k.m / 1000) max32
  else 0

/-- The fields of a TIME_QUERY result. -/
def timeFields (k : Clock) : List Field :=
  [.long (k.t.setWidth 64), .long (k.m.setWidth 64), byteOf k.state.code,
   byteOf k.state.quality.toNat, flagFld k.stepped, intHalf k.f, intHalf k.c, byteOf k.lockRun,
   byteOf k.outlierRun, intWord k.lastError, wordOpt (k.pendingSet.map PendingSet.seconds),
   wordFld k.lapseLeft, sinceField k.m k.lastAccepted, wordFld k.holdoverMs,
   halfOf k.holdoverLimit, wordFld k.accepted, wordFld k.glitches, wordFld k.untrusted]

/-- TIME_QUERY's execution. -/
def runTimeQuery (n : Slot) (s : State) : Reply := queryReply s n (timeFields s.clock)

/-- An opcode write of TIME_QUERY. -/
def issueTimeQuery (n : Slot) (rest : BitVec 24) (s : State) : State :=
  issueCommand n (opcodeWord 0x21 rest) (runTimeQuery n) s

/-! ### Meanings -/

/-- HALL_PULSE (R52). -/
def execHallPulse (s : State) : Host.Outcome State Fault Refusal := finish (hallPulseEvent s)

/-- CORRECTION_ADJUSTMENT (R50), where a point is due. -/
def execCorrectionAdjustment (s : State) : Host.Outcome State Fault Refusal :=
  .next (if s.clock.adjustmentDue then s.setClock s.clock.adjust else s)

/-- CORRECTION_PERIOD (R50), where a period ends. -/
def execCorrectionPeriod (s : State) : Host.Outcome State Fault Refusal :=
  .next (if s.clock.periodDue then s.setClock s.clock.beginPeriod else s)

/-- PULSE_WATCH_EXPIRY (R58). -/
def execPulseWatchExpiry (s : State) : Host.Outcome State Fault Refusal := finish (pulseWatchEvent s)

/-- HOLDOVER_LIMIT (R60). -/
def execHoldoverLimit (s : State) : Host.Outcome State Fault Refusal := finish (holdoverLimitEvent s)

/-- CLOCK_SOURCE_NOTICE (R59). -/
def execClockSourceNotice (s : State) : Host.Outcome State Fault Refusal := finish (clockNoticeEvent s)

/-- TIME_SET (R61). -/
def execTimeSet (n : Slot) (rest : BitVec 24) (s : State) : Host.Outcome State Fault Refusal :=
  finish (issueTimeSet n rest s)

/-- TIME_SET_LAPSED (R63). -/
def execTimeSetLapsed (s : State) : Host.Outcome State Fault Refusal := finish (setLapsedEvent s)

/-- TIME_QUERY (R64). -/
def execTimeQuery (n : Slot) (rest : BitVec 24) (s : State) : Host.Outcome State Fault Refusal :=
  finish (issueTimeQuery n rest s)

end Sys2Proof.Machine
end

