-- ==== Sys2Proof/Machine/Robots.lean ====
section
/-!
DEFINITION. The filler robots (spec/06): the Robot Table, changes of state, status records and
heartbeats, timeouts, link notices, quarantine, the keepalive's effect, ownership, robot commands.
-/
namespace Sys2Proof.Machine

/-! ### The Robot Table -/

/-- A Robot Table entry. -/
def State.robot (s : State) (r : Robot) : RobotEntry := s.robots.table.get r

/-- The Robot Table with an entry replaced. -/
def setRobot (r : Robot) (e : RobotEntry) (s : State) : State :=
  s.setRobots { s.robots with table := s.robots.table.set r e }

/-- The states for which the permissive line stands (R84) and in which a robot may be held. -/
def RobotState.active : RobotState → Bool
  | .ready => true
  | .ordered => true
  | .filling => true
  | .offline => false
  | .starting => false
  | .held => false
  | .silent => false
  | .faulted => false

/-- The states in which the heartbeat timer runs (R83). -/
def RobotState.heartbeatRuns : RobotState → Bool
  | .starting => true
  | .ready => true
  | .ordered => true
  | .filling => true
  | .held => true
  | .offline => false
  | .silent => false
  | .faulted => false

/-- PERMITr is on in READY, ORDERED and FILLING, and off through LOADING and SAFE (R84, log 20). -/
def permitLine (s : State) (r : Robot) : Bool :=
  (s.robot r).state.active && decide (s.loader.condition = .running)

/-- ORDERED or FILLING: the states in which an order is with the robot. -/
def RobotState.working : RobotState → Bool
  | .ordered => true
  | .filling => true
  | .offline => false
  | .starting => false
  | .ready => false
  | .held => false
  | .silent => false
  | .faulted => false

/-- The robot's link is in service, asked of the Switch Watch at this moment (R81, R85). -/
def State.robotLinked (s : State) (r : Robot) : Bool :=
  match s.robots.settings.linkPort.get r with
  | none => true
  | some p => s.inService p

/-! ### A change of state (R82, R83) -/

/-- The entry after a change to `new`: steps 1 to 4 of R82. `hold` and `fault` are the causes that
the rule names for entry to HELD and to FAULTED. -/
def RobotEntry.entered (e : RobotEntry) (now : Micros) (new : RobotState) (hold : Option HoldCause)
    (fault : Option FaultCause) : RobotEntry :=
  { e with
    state := new
    fresh := if new.working then e.fresh else true
    fp := if new.working then e.fp else 0
    fillRecord := if new.working then e.fillRecord else none
    hold := match new with
      | .ready => none
      | .faulted => none
      | .held => hold
      | .offline => e.hold
      | .starting => e.hold
      | .ordered => e.hold
      | .filling => e.hold
      | .silent => e.hold
    fault := match new with
      | .faulted => fault
      | _ => if e.state = .faulted then none else e.fault
    heartbeatTimer := match new with
      | .starting => some now
      | .silent => none
      | .faulted => none
      | .offline => none
      | .ready => e.heartbeatTimer
      | .ordered => e.heartbeatTimer
      | .filling => e.heartbeatTimer
      | .held => e.heartbeatTimer
    pickupTimer := match new with
      | .ordered => some now
      | _ => none
    fillTimer := match new with
      | .filling => some now
      | _ => none }

/-! ### What an event does to one robot -/

/-- A report of the Robot Guard in the course of an event: a ROBOT_STATE report, to which the owner and
the causes after the event are still to come (R82), or another, complete when it is raised. -/
inductive RobotNote where
  | moved (before after : RobotState) (cause : RobotCause) (faultCode : BitVec 16) (run : Nat)
      (tag : Option (BitVec 16))
  | other (report : Report)
  deriving DecidableEq, Repr

/-- What an event has done to one robot so far: its entry, the reports in the order they are raised, and
the answers to the Service Window. -/
structure RobotChange where
  entry : RobotEntry
  notes : List RobotNote
  answers : List TransferReply
  deriving DecidableEq, Repr

/-- Nothing yet. -/
def RobotEntry.begin (e : RobotEntry) : RobotChange := { entry := e, notes := [], answers := [] }

/-- The entry replaced. -/
def RobotChange.put (e : RobotEntry) (c : RobotChange) : RobotChange := { c with entry := e }

/-- A report raised. -/
def RobotChange.note (x : RobotNote) (c : RobotChange) : RobotChange := { c with notes := c.notes ++ [x] }

/-- Step 5 of R82: the ROBOT_STATE report of robot entry `e`, raised now, takes the fault code, the run
and the current order's tag as they stand (log 22), so that R108's step 1 shows the order before step 2. -/
def RobotEntry.moved (e : RobotEntry) (before after : RobotState) (cause : RobotCause) : RobotNote :=
  .moved before after cause e.faultCode e.run (e.order.map Order.tag)

/-- The report a note stands for, with `e` the entry as the event leaves it: a ROBOT_STATE report
carries the owner, the hold cause and the fault cause after the event (R82). -/
def RobotNote.report (r : Robot) (e : RobotEntry) : RobotNote → Report
  | .moved before after cause faultCode run tag =>
      .robotState r before after cause e.owner e.hold e.fault faultCode run tag
  | .other x => x

/-- The Robot Guard's answers join their channel (R102). -/
def sendAnswers (as : List TransferReply) (s : State) : State :=
  s.setMail { s.mail with answers := s.mail.answers ++ as }

/-- An event's change of robot r takes effect: its entry, its reports, its answers. DESIGN CHOICE (log 42): a
load's end, a cabinet reset or a RELOAD that moves one robot twice makes two such changes, each with its
own report. -/
def applyChange (r : Robot) (c : RobotChange) (s : State) : State :=
  sendAnswers c.answers (raiseAll (c.notes.map (RobotNote.report r c.entry)) (setRobot r c.entry s))

/-- An event that does `f` to robot r. -/
def changeRobot (r : Robot) (f : RobotChange → RobotChange) (s : State) : State :=
  applyChange r (f (s.robot r).begin) s

/-- Steps 1 to 5 of R82. -/
def RobotChange.move (now : Micros) (new : RobotState) (hold : Option HoldCause)
    (fault : Option FaultCause) (cause : RobotCause) (c : RobotChange) : RobotChange :=
  let e := c.entry.entered now new hold fault
  (c.put e).note (e.moved c.entry.state new cause)

/-- A robot passes to SERVICE (R102): from READY or HELD it enters READY, from STARTING or OFFLINE it
keeps its state; either way the fresh flag is set, Fp is 0, a report is raised and the request is
answered as taken. -/
def RobotChange.takeTransfer (r : Robot) (now : Micros) (c : RobotChange) : RobotChange :=
  let e := { c.entry with owner := .service, transferPending := false }
  let d :=
    if e.state = .ready ∨ e.state = .held then (c.put e).move now .ready none none .transfer
    else (c.put { e with hold := none, fresh := true, fp := 0 }).note (e.moved e.state e.state .transfer)
  { d with answers := d.answers ++ [.taken r] }

/-- Step 6 of R82: a pending transfer is taken at an entry to READY. -/
def RobotChange.settlePending (r : Robot) (now : Micros) (c : RobotChange) : RobotChange :=
  if c.entry.state = .ready ∧ c.entry.transferPending then c.takeTransfer r now else c

/-- A change of state with all the steps of R82. -/
def RobotChange.enter (r : Robot) (now : Micros) (new : RobotState) (hold : Option HoldCause)
    (fault : Option FaultCause) (cause : RobotCause) (c : RobotChange) : RobotChange :=
  (c.move now new hold fault cause).settlePending r now

/-- Robot r changes its state, and the event does nothing else to it. -/
def enter (r : Robot) (new : RobotState) (hold : Option HoldCause) (fault : Option FaultCause)
    (cause : RobotCause) (s : State) : State :=
  changeRobot r (RobotChange.enter r s.now new hold fault cause) s

/-! ### Quarantine (R94) -/

/-- The hold test after a reject credit. -/
def RobotChange.holdTest (r : Robot) (s : State) (c : RobotChange) : RobotChange :=
  let e := c.entry
  let d := c.note (.other (.quarantine r e.run s.robots.limit (e.order.map Order.tag)))
  if s.robots.limit = 0 ∨ e.run < s.robots.limit then c
  else if e.state.active then d.enter r s.now .held (some .quarantine) none .quarantine
  else if (e.state = .starting ∨ e.state = .silent) ∧ e.hold = none then
    d.put { e with hold := some .quarantine }
  else c

/-- A pass credit: the run becomes 0, unless SERVICE owns the robot. -/
def RobotChange.passCredit (c : RobotChange) : RobotChange :=
  match c.entry.owner with
  | .service => c
  | .line => c.put { c.entry with run := 0 }

/-- A reject credit: the run rises, saturating at 15, then the hold test. -/
def RobotChange.rejectCredit (r : Robot) (s : State) (c : RobotChange) : RobotChange :=
  match c.entry.owner with
  | .service => c
  | .line => (c.put { c.entry with run := min (c.entry.run + 1) 15 }).holdTest r s

/-! ### Status records (R85 to R89) -/

/-- The conditions of a status record (spec/06 section 6.3). -/
inductive RobotCondition where
  | idle | filling | done | halted | fault
  deriving DecidableEq, Repr

/-- The condition a code names; a code that names none is taken as IDLE. -/
def RobotCondition.ofCode (c : Nat) : RobotCondition :=
  match c with
  | 1 => .filling
  | 2 => .done
  | 3 => .halted
  | 4 => .fault
  | _ => .idle

/-- The fields of a status record (spec/11 section 11.9). -/
structure StatusRecord where
  heartbeat : BitVec 16
  condition : RobotCondition
  tag : BitVec 16
  delivered : Nat
  faultCode : BitVec 16
  deriving DecidableEq, Repr

/-- A status record from the words as presented. -/
def StatusRecord.ofWords (ws : List WriteWord) : StatusRecord :=
  let w (i : Nat) : Word := ((ws[i]?).map WriteWord.data).getD 0
  { heartbeat := (w 0).extractLsb' 0 16, condition := .ofCode (bitsOf (w 0) 16 3),
    tag := (w 1).extractLsb' 0 16, delivered := bitsOf (w 2) 0 16,
    faultCode := (w 3).extractLsb' 0 16 }

/-- The fill deviates: |D − V′| × 1000 is greater than the tolerance × V′ (R89). -/
def deviates (delivered guarded tolerance : Nat) : Bool :=
  decide (tolerance * guarded < ((delivered : Int) - guarded).natAbs * 1000)

/-- The deviation check of a fill that ended with DONE (R89). -/
def RobotChange.deviationCheck (r : Robot) (s : State) (tag : BitVec 16) (delivered guarded : Nat)
    (c : RobotChange) : RobotChange :=
  let tolerance := s.robots.settings.tolerance
  if deviates delivered guarded tolerance then
    (c.note (.other (.fillDeviation r tag guarded delivered tolerance c.entry.owner))).rejectCredit r s
  else c

/-- A fill ends: READY with cause FILL_END, then the check for DONE (R87, R89). DESIGN CHOICE (log 34):
a pending transfer is taken before the check, so that the check finds the robot SERVICE's. -/
def RobotChange.endFill (r : Robot) (s : State) (rec : StatusRecord) (guarded : Option Nat)
    (c : RobotChange) : RobotChange :=
  let d := c.enter r s.now .ready none none .fillEnd
  match guarded with
  | some v => if rec.condition = .done then d.deviationCheck r s rec.tag rec.delivered v else d
  | none => d

/-- A condition with a tag that matches no order (R87). -/
def RobotChange.countMismatch (c : RobotChange) : RobotChange :=
  c.put { c.entry with mismatches := satInc16 c.entry.mismatches }

/-- The tag of the current order matches. -/
def RobotEntry.currentTag (e : RobotEntry) (tag : BitVec 16) : Bool :=
  decide (e.order.map Order.tag = some tag)

/-- The tag of the fill record matches. -/
def RobotEntry.fillTag (e : RobotEntry) (tag : BitVec 16) : Bool :=
  decide (e.fillRecord.map FillRecord.tag = some tag)

/-- The guarded volume of the current order. -/
def RobotEntry.orderVolume (e : RobotEntry) : Option Nat := e.order.bind Order.volume

/-- The robot reports that it is filling the current order (R87): the fill record takes the order. -/
def RobotChange.pickUp (now : Micros) (tag : BitVec 16) (c : RobotChange) : RobotChange :=
  let d := c.move now .filling none none .pickup
  d.put { d.entry with fillRecord := some { tag := tag, volume := c.entry.orderVolume.getD 0 } }

/-- The condition of a heartbeat in ORDERED (R87). -/
def RobotChange.conditionOrdered (r : Robot) (s : State) (rec : StatusRecord) (c : RobotChange) :
    RobotChange :=
  let e := c.entry
  match rec.condition with
  | .idle => c
  | .fault => c
  | .filling => if e.currentTag rec.tag then c.pickUp s.now rec.tag else c.countMismatch
  | .done => if e.currentTag rec.tag then c.endFill r s rec e.orderVolume else c.countMismatch
  | .halted => if e.currentTag rec.tag then c.endFill r s rec none else c.countMismatch

/-- The condition of a heartbeat in FILLING (R87). -/
def RobotChange.conditionFilling (r : Robot) (s : State) (rec : StatusRecord) (c : RobotChange) :
    RobotChange :=
  let e := c.entry
  let known := e.currentTag rec.tag || e.fillTag rec.tag
  match rec.condition with
  | .idle => c
  | .fault => c
  | .filling => if known then c else c.countMismatch
  | .done =>
      if known then c.endFill r s rec (e.fillRecord.map FillRecord.volume) else c.countMismatch
  | .halted => if known then c.endFill r s rec none else c.countMismatch

/-- The heartbeat timer restarts. -/
def RobotChange.restartHeartbeat (now : Micros) (c : RobotChange) : RobotChange :=
  c.put { c.entry with heartbeatTimer := some now }

/-- A heartbeat in STARTING, after its timer's restart (R86). -/
def RobotChange.leaveStarting (r : Robot) (s : State) (c : RobotChange) : RobotChange :=
  let e := c.entry
  if e.envelopeWritten && s.robotLinked r then
    match e.hold with
    | some h => c.enter r s.now .held (some h) none .heartbeat
    | none =>
      if e.owner = .line ∧ s.robots.lapsed then c.enter r s.now .held (some .lineSilent) none .heartbeat
      else c.enter r s.now .ready none none .heartbeat
  else c

/-- A valid heartbeat whose condition is not FAULT (R86). -/
def RobotChange.heartbeatByState (r : Robot) (s : State) (rec : StatusRecord) (c : RobotChange) :
    RobotChange :=
  match c.entry.state with
  | .offline => c
  | .faulted => c
  | .starting => (c.restartHeartbeat s.now).leaveStarting r s
  | .ready => c.restartHeartbeat s.now
  | .held => c.restartHeartbeat s.now
  | .ordered => (c.restartHeartbeat s.now).conditionOrdered r s rec
  | .filling => (c.restartHeartbeat s.now).conditionFilling r s rec
  | .silent => if s.robotLinked r then c.enter r s.now .starting none none .heartbeat else c

/-- A valid heartbeat whose condition is FAULT (R88). -/
def RobotChange.faultReported (r : Robot) (now : Micros) (rec : StatusRecord) (c : RobotChange) :
    RobotChange :=
  let coded := c.put { c.entry with faultCode := rec.faultCode }
  let faulted := coded.enter r now .faulted none (some .reported) .faultReported
  match c.entry.state with
  | .offline => c
  | .faulted => coded
  | .starting => faulted
  | .ready => faulted
  | .ordered => faulted
  | .filling => faulted
  | .held => faulted
  | .silent => faulted

/-- A valid heartbeat of robot r (R85): its value is recorded, then the record is acted on. -/
def RobotChange.validHeartbeat (r : Robot) (s : State) (rec : StatusRecord) (c : RobotChange) :
    RobotChange :=
  let d := c.put { c.entry with lastHeartbeat := some rec.heartbeat, lastValid := some (.of s.now) }
  if rec.condition = .fault then d.faultReported r s.now rec else d.heartbeatByState r s rec

/-- The robot whose slot holds an offset of an ORDERS or STATUS region (R23). -/
def robotOfOffset (offset : Nat) : Option Robot := Robot.ofNum? (offset / 8 + 1)

/-- All byte enables of a write are set. -/
def allEnabled (ws : List WriteWord) : Bool := ws.all fun w => decide (w.enables = allEnables)

/-- A write admitted in the STATUS region (R85): what it does to the Robot Table. -/
def statusWrite (m : Master) (offset : Nat) (len : BurstLen) (ws : List WriteWord) (s : State) :
    State :=
  match robotOfOffset offset with
  | none => s
  | some r =>
    let rec_ := StatusRecord.ofWords ws
    if m = .robotlink ∧ len = .eight ∧ allEnabled ws = true ∧
        (s.robot r).lastHeartbeat ≠ some rec_.heartbeat then
      changeRobot r (RobotChange.validHeartbeat r s rec_) s
    else s

/-! ### Timeouts (R90 to R92) -/

/-- The heartbeat timer runs and has expired. -/
def heartbeatDue (s : State) (r : Robot) : Bool :=
  (s.robot r).state.heartbeatRuns &&
    timerDue s.now (s.robot r).heartbeatTimer (s.robots.settings.heartbeatTimeout * 1000)

/-- The pickup timer has expired in ORDERED. -/
def pickupDue (s : State) (r : Robot) : Bool :=
  decide ((s.robot r).state = .ordered) &&
    timerDue s.now (s.robot r).pickupTimer (s.robots.settings.pickupTimeout * 1000)

/-- The fill timer has expired in FILLING. -/
def fillDue (s : State) (r : Robot) : Bool :=
  decide ((s.robot r).state = .filling) &&
    timerDue s.now (s.robot r).fillTimer (s.robots.settings.fillTimeout * 1000000)

/-- HEARTBEAT_TIMEOUT, where it is due (R90). -/
def heartbeatTimeoutEvent (r : Robot) (s : State) : State :=
  if heartbeatDue s r then enter r .silent none none .heartbeatLost s else s

/-- PICKUP_TIMEOUT, where it is due (R91). -/
def pickupTimeoutEvent (r : Robot) (s : State) : State :=
  if pickupDue s r then enter r .faulted none (some .noPickup) .noPickup s else s

/-- FILL_TIMEOUT, where it is due (R92). -/
def fillTimeoutEvent (r : Robot) (s : State) : State :=
  if fillDue s r then enter r .faulted none (some .fillOvertime) .fillOvertime s else s

/-! ### Notices (R93, R94, R96) -/

/-- A function applied for each robot in ascending order. -/
def forRobots (f : Robot → State → State) (s : State) : State := allRobots.foldl (fun s r => f r s) s

/-- A link-loss notice naming p moves a robot of that link port to SILENT (R93). -/
def loseLink (p : SwPort) (r : Robot) (s : State) : State :=
  if s.robots.settings.linkPort.get r = some p ∧ (s.robot r).state.heartbeatRuns = true then
    enter r .silent none none .linkLost s
  else s

/-- ROBOT_LINK_NOTICE: the oldest link notice is taken (R93). -/
def linkNoticeEvent (s : State) : State :=
  match s.mail.robotLink with
  | [] => s
  | .loss p :: rest => forRobots (loseLink p) (s.setMail { s.mail with robotLink := rest })
  | .back _ :: rest => s.setMail { s.mail with robotLink := rest }

/-- FILLER_CREDIT: the oldest credit of the Tracker is taken (R94). -/
def creditEvent (s : State) : State :=
  match s.mail.credits with
  | [] => s
  | .pass r :: rest => changeRobot r RobotChange.passCredit (s.setMail { s.mail with credits := rest })
  | .reject r :: rest =>
      changeRobot r (RobotChange.rejectCredit r s) (s.setMail { s.mail with credits := rest })

/-- A lapse holds a LINE-owned active robot (R96). -/
def holdForLapse (r : Robot) (s : State) : State :=
  if (s.robot r).owner = .line ∧ (s.robot r).state.active = true then
    enter r .held (some .lineSilent) none .keepalive s
  else s

/-- KEEPALIVE_NOTICE: the oldest keepalive notice is taken (R96). -/
def keepaliveNoticeEvent (s : State) : State :=
  match s.mail.keepalive with
  | [] => s
  | .lapse :: rest =>
      let s1 := s.setMail { s.mail with keepalive := rest }
      forRobots holdForLapse (s1.setRobots { s1.robots with lapsed := true })
  | .resume :: rest =>
      let s1 := s.setMail { s.mail with keepalive := rest }
      s1.setRobots { s1.robots with lapsed := false }

/-! ### Ownership (R102, R103) -/

/-- The answer to a request that waits for the robot's entry to READY (R102). -/
def RobotChange.pendTransfer (r : Robot) (c : RobotChange) : RobotChange :=
  { c with entry := { c.entry with transferPending := true }, answers := c.answers ++ [.pending r] }

/-- A transfer request for robot r (R102). -/
def RobotChange.requestTransfer (r : Robot) (now : Micros) (c : RobotChange) : RobotChange :=
  match c.entry.owner with
  | .service => { c with answers := c.answers ++ [.taken r] }
  | .line =>
    match c.entry.state with
    | .ready => c.takeTransfer r now
    | .held => c.takeTransfer r now
    | .starting => c.takeTransfer r now
    | .offline => c.takeTransfer r now
    | .ordered => c.pendTransfer r
    | .filling => c.pendTransfer r
    | .silent => c.pendTransfer r
    | .faulted => c.pendTransfer r

/-- TRANSFER_REQUEST: the oldest message of the Service Window is taken, where it is a request. -/
def transferRequestEvent (s : State) : State :=
  match s.mail.transfers with
  | .request r :: rest =>
      changeRobot r (RobotChange.requestTransfer r s.now) (s.setMail { s.mail with transfers := rest })
  | .giveBack _ :: _ => s
  | [] => s

/-- The robot's side of a return of a SERVICE-owned robot (R103). -/
def RobotChange.giveBack (r : Robot) (now : Micros) (c : RobotChange) : RobotChange :=
  let e := { c.entry with owner := .line, transferPending := false }
  let d := c.put e
  let noted := d.note (e.moved e.state e.state .serviceReturn)
  match e.state with
  | .ready => d.enter r now .held (some .serviceEnded) none .serviceReturn
  | .ordered => d.enter r now .held (some .serviceEnded) none .serviceReturn
  | .filling => d.enter r now .held (some .serviceEnded) none .serviceReturn
  | .starting => d.enter r now .held (some .serviceEnded) none .serviceReturn
  | .silent => noted.put { e with hold := some .serviceEnded }
  | .held => noted
  | .offline => noted
  | .faulted => noted

/-! ### Robot commands (R97 to R101, R95) -/

/-- The robot number and the state, as a robot command's result carries them (R97). -/
def robotData (r : Robot) (s : State) : Option (List Word) :=
  pageOne [byteOf r.num, byteOf (s.robot r).state.code]

/-- The robot a command names, bits 0 to 7 of parameter word 0. -/
def namedRobot (n : Slot) (s : State) : Option Robot := Robot.ofNum? (s.paramBits n 0 0 8)

/-- A refused robot command: nothing changes; the result carries the robot, if it is named, and its
present state (R97). -/
def refuseRobot (n : Slot) (c : ResultCode) (s : State) : Reply :=
  { state := s, code := c, data := (namedRobot n s).bind fun r => robotData r s }

/-- A robot command that acts. -/
def robotDone (r : Robot) (s : State) : Reply := { state := s, code := .done, data := robotData r s }

/-- The checks every robot command but ROBOT_QUERY begins with, then its own (R97). -/
def robotCommand (n : Slot) (act : Robot → State → Reply) (s : State) : Reply :=
  if s.isSafe then refuseRobot n .refusedState s
  else
    match namedRobot n s with
    | none => refuseRobot n .refusedParam s
    | some r => act r s

/-- ROBOT_ARM's own test and effect (R97). -/
def armRobot (n : Slot) (r : Robot) (s : State) : Reply :=
  if (s.robot r).state = .offline then robotDone r (enter r .starting none none .arm s)
  else refuseRobot n .refusedState s

/-- ROBOT_CLEAR's own test and effect (R98). -/
def clearRobot (n : Slot) (r : Robot) (s : State) : Reply :=
  if (s.robot r).state = .faulted then robotDone r (enter r .starting none none .clear s)
  else refuseRobot n .refusedState s

/-- ROBOT_HOLD's own test and effect (R99). -/
def holdRobot (n : Slot) (r : Robot) (s : State) : Reply :=
  if (s.robot r).state.active then
    robotDone r (enter r .held (some .command) none .holdCommand s)
  else if (s.robot r).state = .held then robotDone r s
  else refuseRobot n .refusedState s

/-- ROBOT_RELEASE's own test and effect (R100). -/
def releaseRobot (n : Slot) (r : Robot) (s : State) : Reply :=
  let e := s.robot r
  if e.state = .held ∧ ¬(e.owner = .line ∧ s.robots.lapsed = true) then
    robotDone r
      (changeRobot r
        (fun c => (c.put { e with run := 0 }).enter r s.now .ready none none .release) s)
  else refuseRobot n .refusedState s

/-- An opcode write of ROBOT_ARM. -/
def issueRobotArm (n : Slot) (rest : BitVec 24) (s : State) : State :=
  issueCommand n (opcodeWord 0x01 rest) (robotCommand n (armRobot n)) s

/-- An opcode write of ROBOT_CLEAR. -/
def issueRobotClear (n : Slot) (rest : BitVec 24) (s : State) : State :=
  issueCommand n (opcodeWord 0x02 rest) (robotCommand n (clearRobot n)) s

/-- An opcode write of ROBOT_HOLD. -/
def issueRobotHold (n : Slot) (rest : BitVec 24) (s : State) : State :=
  issueCommand n (opcodeWord 0x03 rest) (robotCommand n (holdRobot n)) s

/-- An opcode write of ROBOT_RELEASE. -/
def issueRobotRelease (n : Slot) (rest : BitVec 24) (s : State) : State :=
  issueCommand n (opcodeWord 0x04 rest) (robotCommand n (releaseRobot n)) s

/-- The envelope's six values as half-words. -/
def envelopeFields (v : Envelope) : List Field :=
  [halfOf v.vmin, halfOf v.vmax, halfOf v.fmax, halfOf v.fstep, halfOf v.hmin, halfOf v.hmax]

/-- Time left on a timer of duration `d` µs. -/
def timeLeft (now : Micros) (start : Micros) (d : Nat) : Nat := d - elapsed now start

/-- Time left on the pickup or fill timer, whichever runs; 0 if neither does (R101). -/
def orderTimeLeft (s : State) (e : RobotEntry) : Nat :=
  match e.pickupTimer with
  | some t => timeLeft s.now t (s.robots.settings.pickupTimeout * 1000)
  | none =>
    match e.fillTimer with
    | some t => timeLeft s.now t (s.robots.settings.fillTimeout * 1000000)
    | none => 0

/-- The fields of a ROBOT_QUERY result: the robot number, as every robot command's result carries it
(R97), then the entry (R101, log 14). The keepalive view is coded by its place in "LAPSED,
not lapsed" (log 9). -/
def robotFields (s : State) (r : Robot) : List Field :=
  let e := s.robot r
  [byteOf r.num, byteOf e.state.code, byteOf e.owner.code, byteOpt (e.hold.map HoldCause.code),
   byteOpt (e.fault.map FaultCause.code), .half e.faultCode] ++ envelopeFields e.envelope ++
  [flagFld e.envelopeWritten, halfOf e.fp, flagFld e.fresh,
   num16Opt (e.order.map Order.tag), byteOpt (e.order.map fun o => o.mode.code),
   halfOpt e.orderVolume,
   num16Opt (e.fillRecord.map FillRecord.tag), halfOpt (e.fillRecord.map FillRecord.volume),
   num16Opt e.lastHeartbeat, sinceField s.now e.lastValid, wordFld (orderTimeLeft s e),
   byteOf e.run, byteOf s.robots.limit, flagFld e.transferPending,
   byteOf (match s.robots.settings.linkPort.get r with | some p => p.num | none => 0),
   flagFld (s.robotLinked r), flagFld (permitLine s r), byteOf (if s.robots.lapsed then 0 else 1),
   halfOf e.mismatches]

/-- ROBOT_QUERY's execution: taken in SAFE too (R97, R101). A page that names no data refuses it
with the data of a refused robot command (log 12). -/
def runRobotQuery (n : Slot) (s : State) : Reply :=
  match namedRobot n s with
  | none => refuseRobot n .refusedParam s
  | some r =>
    match pageOf (robotFields s r) (s.page n) with
    | none => refuseRobot n .refusedParam s
    | some ws => { state := s, code := .done, data := some ws }

/-- An opcode write of ROBOT_QUERY. -/
def issueRobotQuery (n : Slot) (rest : BitVec 24) (s : State) : State :=
  issueCommand n (opcodeWord 0x06 rest) (runRobotQuery n) s

/-- QUARANTINE_SET's execution (R95). -/
def runQuarantineSet (n : Slot) (s : State) : Reply :=
  let l := s.paramBits n 0 0 8
  if s.isSafe then refuse s .refusedState
  else if 15 < l then refuse s .refusedParam
  else
    { state := s.setRobots { s.robots with limit := l }, code := .done,
      data := pageOne [byteOf s.robots.limit, byteOf l] }

/-- An opcode write of QUARANTINE_SET. -/
def issueQuarantineSet (n : Slot) (rest : BitVec 24) (s : State) : State :=
  issueCommand n (opcodeWord 0x07 rest) (runQuarantineSet n) s

/-! ### Resets (R104) -/

/-- The Robot Guard at a cabinet reset or the acceptance of a RELOAD: the entries at their power-on
values, L at its delivered value, the view not lapsed, the settings kept. -/
def RobotGuard.resetKeepingSettings (g : RobotGuard) : RobotGuard :=
  { g with table := .all .reset, limit := g.settings.limit, lapsed := false }

/-- The messages to the Robot Guard that were not yet taken are discarded. -/
def Mail.dropRobotGuard (m : Mail) : Mail :=
  { m with robotLink := [], credits := [], keepalive := [], transfers := [] }

/-! ### Meanings -/

/-- HEARTBEAT_TIMEOUT (R90). -/
def execHeartbeatTimeout (r : Robot) (s : State) : Host.Outcome State Fault Refusal :=
  finish (heartbeatTimeoutEvent r s)

/-- PICKUP_TIMEOUT (R91). -/
def execPickupTimeout (r : Robot) (s : State) : Host.Outcome State Fault Refusal :=
  finish (pickupTimeoutEvent r s)

/-- FILL_TIMEOUT (R92). -/
def execFillTimeout (r : Robot) (s : State) : Host.Outcome State Fault Refusal :=
  finish (fillTimeoutEvent r s)

/-- ROBOT_LINK_NOTICE (R93). -/
def execRobotLinkNotice (s : State) : Host.Outcome State Fault Refusal := finish (linkNoticeEvent s)

/-- FILLER_CREDIT (R94). -/
def execFillerCredit (s : State) : Host.Outcome State Fault Refusal := finish (creditEvent s)

/-- KEEPALIVE_NOTICE (R96). -/
def execKeepaliveNotice (s : State) : Host.Outcome State Fault Refusal := finish (keepaliveNoticeEvent s)

/-- TRANSFER_REQUEST (R102). -/
def execTransferRequest (s : State) : Host.Outcome State Fault Refusal := finish (transferRequestEvent s)

/-- ROBOT_ARM (R97). -/
def execRobotArm (n : Slot) (rest : BitVec 24) (s : State) : Host.Outcome State Fault Refusal :=
  finish (issueRobotArm n rest s)

/-- ROBOT_CLEAR (R98). -/
def execRobotClear (n : Slot) (rest : BitVec 24) (s : State) : Host.Outcome State Fault Refusal :=
  finish (issueRobotClear n rest s)

/-- ROBOT_HOLD (R99). -/
def execRobotHold (n : Slot) (rest : BitVec 24) (s : State) : Host.Outcome State Fault Refusal :=
  finish (issueRobotHold n rest s)

/-- ROBOT_RELEASE (R100). -/
def execRobotRelease (n : Slot) (rest : BitVec 24) (s : State) : Host.Outcome State Fault Refusal :=
  finish (issueRobotRelease n rest s)

/-- ROBOT_QUERY (R101). -/
def execRobotQuery (n : Slot) (rest : BitVec 24) (s : State) : Host.Outcome State Fault Refusal :=
  finish (issueRobotQuery n rest s)

/-- QUARANTINE_SET (R95). -/
def execQuarantineSet (n : Slot) (rest : BitVec 24) (s : State) : Host.Outcome State Fault Refusal :=
  finish (issueQuarantineSet n rest s)

end Sys2Proof.Machine
end

