-- ==== Sys2Proof/Machine/Orders.lean ====
section
/-!
DEFINITION. The fill order guard (spec/07): tests of an order write, the guard arithmetic, what goes to
memory, what a passed order does, the mode word that ROBOTLINK reads, ROBOT_ENVELOPE.
-/
namespace Sys2Proof.Machine

/-! ### An order as presented (spec/07 section 7.1) -/

/-- Word i of a write as presented. -/
def wordAt (ws : List WriteWord) (i : Nat) : Word := ((ws[i]?).map WriteWord.data).getD 0

/-- The tag field of word 0 of an order. -/
def orderTag (w : Word) : BitVec 16 := w.extractLsb' 0 16

/-- The mode field of word 0 of an order. -/
def orderModeCode (w : Word) : BitVec 2 := w.extractLsb' 16 2

/-- The mode a code names (spec/11 section 11.9). -/
def OrderMode.ofCode? (c : BitVec 2) : Option OrderMode :=
  match c.toNat with
  | 1 => some .fill
  | 2 => some .hold
  | 3 => some .park
  | _ => none

/-! ### The tests (R106, R107) -/

/-- The owner master of an owner. -/
def Owner.master : Owner → Master
  | .line => .line
  | .service => .service

/-- R107's refusal of a mode in a state, if it refuses. -/
def RobotState.refuses (st : RobotState) (mode : OrderMode) : Option OrderReason :=
  match st, mode with
  | .offline, _ => some .state
  | .starting, _ => some .state
  | .silent, _ => some .state
  | .faulted, _ => some .state
  | .filling, .fill => some .busy
  | .held, .fill => some .state
  | .ready, _ => none
  | .ordered, _ => none
  | .filling, .hold => none
  | .filling, .park => none
  | .held, .hold => none
  | .held, .park => none

/-- The verdict on an order write: refused with a reason, or passed with its mode. -/
inductive OrderVerdict where
  | refused (reason : OrderReason)
  | passed (mode : OrderMode)
  deriving DecidableEq, Repr

/-- The tests of R106 in their order. -/
def judgeOrder (e : RobotEntry) (m : Master) (len : BurstLen) (ws : List WriteWord) : OrderVerdict :=
  if m ≠ e.owner.master then .refused .notOwner
  else if len ≠ .eight ∨ allEnabled ws = false then .refused .shape
  else
    match OrderMode.ofCode? (orderModeCode (wordAt ws 0)) with
    | none => .refused .badMode
    | some mode =>
      match e.state.refuses mode with
      | some reason => .refused reason
      | none => .passed mode

/-- The ORDER_REFUSED report (R106): tag and mode are none where the burst does not cover word 0, which
the rule says of reason SHAPE. DESIGN CHOICE (log 35): the same of reason NOT_OWNER. -/
def orderRefusedReport (r : Robot) (e : RobotEntry) (m : Master) (offset : Nat) (ws : List WriteWord)
    (reason : OrderReason) : Report :=
  let covered := decide (offset % 8 = 0)
  .orderRefused r m reason e.state e.owner
    (if covered then some (orderTag (wordAt ws 0)) else none)
    (if covered then some (orderModeCode (wordAt ws 0)) else none)

/-! ### The guard arithmetic (R109) -/

/-- An order's values brought inside the envelope, and the flags that say what was changed. -/
structure Guarded where
  v : Nat
  f : Nat
  h : Nat
  flags : GuardFlags
  deriving DecidableEq, Repr

/-- The effective Fmax: lowered to the service flow limit for owner SERVICE. -/
def effectiveFmax (e : RobotEntry) (serviceFlow : Nat) : Nat :=
  match e.owner with
  | .line => e.envelope.fmax
  | .service => min e.envelope.fmax serviceFlow

/-- The five computations of R109. -/
def guardFill (e : RobotEntry) (serviceFlow v f h : Nat) : Guarded :=
  let v' := min (max v e.envelope.vmin) e.envelope.vmax
  let f1 := min f (effectiveFmax e serviceFlow)
  let f' := min f1 (e.fp + e.envelope.fstep)
  let h' := min (max h e.envelope.hmin) e.envelope.hmax
  { v := v', f := f', h := h',
    flags := { volClamped := decide (v' ≠ v), flowCapped := decide (f1 < f), ramped := decide (f' < f1),
               heightClamped := decide (h' ≠ h) } }

/-- Some flag is set. -/
def GuardFlags.any (g : GuardFlags) : Bool := g.volClamped || g.flowCapped || g.ramped || g.heightClamped

/-- No flag. -/
def GuardFlags.clear : GuardFlags := ⟨false, false, false, false⟩

/-! ### What goes to memory (R110) -/

/-- The guard word: the flags in bits 0 to 3, the owner in bit 8 (spec/11 section 11.9). -/
def guardWord (g : GuardFlags) (o : Owner) : Word :=
  (0 : BitVec 23) ++ BitVec.ofBool (decide (o = .service)) ++ (0 : BitVec 4) ++
    BitVec.ofBool g.heightClamped ++ BitVec.ofBool g.ramped ++ BitVec.ofBool g.flowCapped ++
    BitVec.ofBool g.volClamped

/-- A word that the FH-6 writes itself, all enables set (R25). -/
def ownWord (w : Word) : WriteWord := ⟨w, allEnables⟩

/-- Word i of a write as presented, with its enables. -/
def writeAt (ws : List WriteWord) (i : Nat) : WriteWord := (ws[i]?).getD ⟨0, 0⟩

/-- A passed FILL as it goes to memory. -/
def fillWords (ws : List WriteWord) (g : Guarded) (o : Owner) (st : Stamp) : List WriteWord :=
  [writeAt ws 0, ownWord (BitVec.ofNat 32 g.v), ownWord (BitVec.ofNat 32 g.f),
   ownWord (BitVec.ofNat 32 g.h), ownWord (guardWord g.flags o), writeAt ws 5, ownWord st.wordA,
   ownWord st.wordB]

/-- A passed HOLD or PARK as it goes to memory. -/
def stopWords (ws : List WriteWord) (o : Owner) (st : Stamp) : List WriteWord :=
  [writeAt ws 0, writeAt ws 1, writeAt ws 2, writeAt ws 3, ownWord (guardWord .clear o), writeAt ws 5,
   ownWord st.wordA, ownWord st.wordB]

/-! ### A passed order (R108) -/

/-- Steps 2 to 4 of R108: the current order, the fresh flag and Fp. -/
def RobotChange.takeOrder (o : Order) (fp : Nat) (c : RobotChange) : RobotChange :=
  c.put { c.entry with order := some o, fresh := false, fp := fp }

/-- Step 1 of R108 for a FILL: READY enters ORDERED, ORDERED restarts its pickup timer (R83). -/
def RobotChange.orderFill (now : Micros) (c : RobotChange) : RobotChange :=
  match c.entry.state with
  | .ready => c.move now .ordered none none .order
  | .ordered => c.put { c.entry with pickupTimer := some now }
  | .offline => c
  | .starting => c
  | .filling => c
  | .held => c
  | .silent => c
  | .faulted => c

/-- The ORDER_GUARDED report of a FILL with a flag (R110). -/
def guardedReport (r : Robot) (o : Owner) (tag : BitVec 16) (v f h : Nat) (g : Guarded) : Report :=
  .orderGuarded r o tag (min v 65535) (min f 65535) (min h 65535) g.v g.f g.h g.flags

/-- A passed FILL (R108, R110). -/
def RobotChange.passFill (r : Robot) (now : Micros) (tag : BitVec 16) (v f h : Nat) (g : Guarded)
    (c : RobotChange) : RobotChange :=
  let d := (c.orderFill now).takeOrder { tag := tag, mode := .fill, volume := some g.v } g.f
  if g.flags.any then d.note (.other (guardedReport r c.entry.owner tag v f h g)) else d

/-- A passed HOLD or PARK (R108): ORDERED enters READY, where a pending transfer is then taken. -/
def RobotChange.passStop (r : Robot) (now : Micros) (tag : BitVec 16) (mode : OrderMode)
    (c : RobotChange) : RobotChange :=
  let o : Order := { tag := tag, mode := mode, volume := none }
  if c.entry.state = .ordered then
    ((c.move now .ready none none .order).takeOrder o 0).settlePending r now
  else c.takeOrder o 0

/-- The guarded values of a FILL for robot r. -/
def guardOf (r : Robot) (ws : List WriteWord) (s : State) : Guarded :=
  guardFill (s.robot r) s.robots.settings.serviceFlow (wordAt ws 1).toNat (wordAt ws 2).toNat
    (wordAt ws 3).toNat

/-- What a passed order does to the state in its admission event. -/
def passOrder (r : Robot) (mode : OrderMode) (ws : List WriteWord) (s : State) : State :=
  let tag := orderTag (wordAt ws 0)
  match mode with
  | .fill =>
      changeRobot r
        (RobotChange.passFill r s.now tag (wordAt ws 1).toNat (wordAt ws 2).toNat (wordAt ws 3).toNat
          (guardOf r ws s)) s
  | .hold => changeRobot r (RobotChange.passStop r s.now tag .hold) s
  | .park => changeRobot r (RobotChange.passStop r s.now tag .park) s

/-- The words of a passed order as they go to memory, with the admission stamp. -/
def orderWords (r : Robot) (mode : OrderMode) (ws : List WriteWord) (s : State) : List WriteWord :=
  match mode with
  | .fill => fillWords ws (guardOf r ws s) (s.robot r).owner s.clock.stamp
  | .hold => stopWords ws (s.robot r).owner s.clock.stamp
  | .park => stopWords ws (s.robot r).owner s.clock.stamp

/-! ### The mode word (R114) -/

/-- The mode field delivered to ROBOTLINK. -/
def RobotEntry.shownMode (e : RobotEntry) (memory : BitVec 2) : BitVec 2 :=
  if e.fresh then 2
  else if e.state.working = false ∧ memory ≠ 2 ∧ memory ≠ 3 then 2
  else memory

/-- Word 0 of a slot as delivered to ROBOTLINK. -/
def RobotEntry.shownOrder (e : RobotEntry) (w : Word) : Word :=
  w.extractLsb' 18 14 ++ e.shownMode (orderModeCode w) ++ w.extractLsb' 0 16

/-- The data of a read by ROBOTLINK at `offset` of the ORDERS region (R114). -/
def shownOrders (s : State) (offset : Nat) (data : List Word) : List Word :=
  match data with
  | [] => []
  | w :: ws =>
    if offset % 8 = 0 then
      match robotOfOffset offset with
      | some r => (s.robot r).shownOrder w :: ws
      | none => w :: ws
    else w :: ws

/-! ### ROBOT_ENVELOPE (R111, R112) -/

/-- The six values as given. -/
def givenEnvelope (n : Slot) (s : State) : Envelope :=
  { vmin := s.paramWord n 1, vmax := s.paramWord n 2, fmax := s.paramWord n 3,
    fstep := s.paramWord n 4, hmin := s.paramWord n 5, hmax := s.paramWord n 6 }

/-- The values as settled: each clamped into its range. -/
def Envelope.settle (v : Envelope) : Envelope :=
  { vmin := min v.vmin 30000, vmax := min v.vmax 30000, fmax := min v.fmax 1000,
    fstep := clampNat v.fstep 1 1000, hmin := min v.hmin 500, hmax := min v.hmax 500 }

/-- The limits do not cross. -/
def Envelope.ordered (v : Envelope) : Bool := decide (v.vmin ≤ v.vmax ∧ v.hmin ≤ v.hmax)

/-- The data of a ROBOT_ENVELOPE result: robot, state, envelope in force. -/
def envelopeData (r : Robot) (s : State) : Option (List Word) :=
  pageOne (byteOf r.num :: byteOf (s.robot r).state.code :: envelopeFields (s.robot r).envelope)

/-- A refused ROBOT_ENVELOPE: its result carries the envelope as it stood, if the robot is named. -/
def refuseEnvelope (n : Slot) (c : ResultCode) (s : State) : Reply :=
  { state := s, code := c, data := (namedRobot n s).bind fun r => envelopeData r s }

/-- The robot's envelope becomes `v`, and envelope_written is set. -/
def writeEnvelope (r : Robot) (v : Envelope) (s : State) : State :=
  setRobot r { s.robot r with envelope := v, envelopeWritten := true } s

/-- ROBOT_ENVELOPE's execution. -/
def runRobotEnvelope (n : Slot) (s : State) : Reply :=
  if s.isSafe then refuseEnvelope n .refusedState s
  else
    match namedRobot n s with
    | none => refuseEnvelope n .refusedParam s
    | some r =>
      let given := givenEnvelope n s
      let v := given.settle
      if (s.robot r).state.working then refuseEnvelope n .refusedState s
      else if v.ordered then
        let s1 := writeEnvelope r v s
        { state := s1, code := if v = given then .done else .doneAdjusted, data := envelopeData r s1 }
      else refuseEnvelope n .refusedParam s

/-- An opcode write of ROBOT_ENVELOPE. -/
def issueRobotEnvelope (n : Slot) (rest : BitVec 24) (s : State) : State :=
  issueCommand n (opcodeWord 0x05 rest) (runRobotEnvelope n) s

/-- ROBOT_ENVELOPE (R111). -/
def execRobotEnvelope (n : Slot) (rest : BitVec 24) (s : State) : Host.Outcome State Fault Refusal :=
  finish (issueRobotEnvelope n rest s)

end Sys2Proof.Machine
end

