-- ==== Sys2Proof/Machine/Verdicts.lean ====
section
/-!
DEFINITION. Verdicts and the reject gate (spec/09): decoding a verdict record, matching it to its slot,
the decision of a head, filler credits, the gate.
-/
namespace Sys2Proof.Machine

/-! ### The verdict record (R132, R133) -/

/-- The fields of words 0 and 1 of a verdict record (spec/11 section 11.9). -/
def verdictCamera (w : Word) : BitVec 3 := w.extractLsb' 0 3
/-- The verdict code. -/
def verdictCode (w : Word) : BitVec 2 := w.extractLsb' 4 2
/-- The filler number. -/
def verdictFiller (w : Word) : BitVec 3 := w.extractLsb' 8 3
/-- The shot number. -/
def verdictShot (w : Word) : BitVec 16 := w.extractLsb' 0 16
/-- The defect code. -/
def verdictDefect (w : Word) : BitVec 16 := w.extractLsb' 16 16

/-- The verdict a code names. -/
def Verdict.ofCode? (c : BitVec 2) : Option Verdict :=
  match c.toNat with
  | 1 => some .pass
  | 2 => some .reject
  | _ => none

/-- A decoded verdict. -/
structure VerdictRecord where
  cam : Cam
  verdict : Verdict
  filler : Nat
  shot : BitVec 16
  defect : BitVec 16
  deriving DecidableEq, Repr

/-- A write of CAMERA while RUNNING: a verdict, or malformed for a reason. -/
inductive VerdictReading where
  | verdict (v : VerdictRecord)
  | malformed (reason : MalformedReason)
  deriving DecidableEq, Repr

/-- The conditions of R132, in the order of the reasons of R133. -/
def readVerdict (t : Tracker) (len : BurstLen) (ws : List WriteWord) : VerdictReading :=
  if len ≠ .eight then .malformed .shape
  else if allEnabled ws = false then .malformed .enables
  else
    match Cam.ofNum? (verdictCamera (wordAt ws 0)).toNat with
    | none => .malformed .camera
    | some k =>
      if (t.cameras.get k).fitted = false then .malformed .notFitted
      else
        match Verdict.ofCode? (verdictCode (wordAt ws 0)) with
        | none => .malformed .verdictCode
        | some v =>
          if 6 < (verdictFiller (wordAt ws 0)).toNat then .malformed .filler
          else
            .verdict { cam := k, verdict := v, filler := (verdictFiller (wordAt ws 0)).toNat,
                       shot := verdictShot (wordAt ws 1), defect := verdictDefect (wordAt ws 1) }

/-- Word i of a record position, where a burst at `offset` covers it. -/
def coveredWord (offset : Nat) (ws : List WriteWord) (i : Nat) : Option Word :=
  if offset % 8 ≤ i then (ws[i - offset % 8]?).map WriteWord.data else none

/-- The VERDICT_MALFORMED report (R133). -/
def malformedReport (reason : MalformedReason) (addr : Addr) (offset : Nat) (len : BurstLen)
    (ws : List WriteWord) : Report :=
  let w0 := coveredWord offset ws 0
  let w1 := coveredWord offset ws 1
  .verdictMalformed reason addr len (w0.map verdictCamera) (w0.map verdictCode)
    (w0.map verdictFiller) (w1.map verdictShot)

/-! ### Matching (R134, R135) -/

/-- The shot number a slot holds: from SHOT on, and in a NO_VERDICT slot that has one. -/
def CamSlot.number : CamSlot → Option (BitVec 16)
  | .awaited => none
  | .shot n => some n
  | .pass n _ _ => some n
  | .reject n _ _ => some n
  | .missed => none
  | .noVerdict n => n
  | .notFitted => none

/-- The slot as the verdict says. -/
def VerdictRecord.slot (v : VerdictRecord) : CamSlot :=
  match v.verdict with
  | .pass => .pass v.shot v.defect v.filler
  | .reject => .reject v.shot v.defect v.filler

/-- The entry of the queue holds the verdict's shot in its camera's slot. -/
def VerdictRecord.matches (v : VerdictRecord) (b : Bottle) : Bool :=
  decide ((b.cams.get v.cam).number = some v.shot)

/-- A function applied to the oldest entry for which `p` holds. -/
def updateFirst (p : Bottle → Bool) (f : Bottle → Bottle) : List Bottle → List Bottle
  | [] => []
  | b :: bs => if p b then f b :: bs else b :: updateFirst p f bs

/-- The Tracker with a new queue. -/
def setQueue (q : List Bottle) (s : State) : State := s.setTracker { s.tracker with queue := q }

/-- Slot k of a bottle replaced. -/
def Bottle.setCam (k : Cam) (c : CamSlot) (b : Bottle) : Bottle := { b with cams := b.cams.set k c }

/-- A verdict whose shot no slot holds (R135). -/
def unmatchedReport (t : Tracker) (v : VerdictRecord) : Report :=
  let counter := t.shots.get v.cam
  let d := shotDelta counter v.shot
  if 0 ≤ d ∧ d ≤ 255 then .verdictLate v.cam v.shot counter d none false
  else .verdictUnknown v.cam v.shot counter d

/-- A verdict for a slot that is NO_VERDICT: late, with the bottle number, its slot closed. -/
def closedReport (t : Tracker) (v : VerdictRecord) (b : Bottle) : Report :=
  let counter := t.shots.get v.cam
  .verdictLate v.cam v.shot counter (shotDelta counter v.shot) (some b.number) true

/-- A second verdict for a slot that has one (R134). -/
def duplicateReport (v : VerdictRecord) (b : Bottle) (old : Verdict) (oldFiller : Nat) : Report :=
  .verdictDuplicate v.cam v.shot b.number old oldFiller v.verdict v.filler (decide (old = v.verdict))

/-- A verdict is taken by the slot it finds (R134, R135). -/
def takeVerdict (v : VerdictRecord) (s : State) : State :=
  match s.tracker.queue.find? v.matches with
  | none => raise (unmatchedReport s.tracker v) s
  | some b =>
    match b.cams.get v.cam with
    | .shot _ => setQueue (updateFirst v.matches (Bottle.setCam v.cam v.slot) s.tracker.queue) s
    | .pass _ _ f => raise (duplicateReport v b .pass f) s
    | .reject _ _ f => raise (duplicateReport v b .reject f) s
    | .noVerdict _ => raise (closedReport s.tracker v b) s
    | .awaited => s
    | .missed => s
    | .notFitted => s

/-- A write admitted in the VERDICTS region: what it does to the Tracker (R132, R133). -/
def verdictWrite (m : Master) (addr : Addr) (offset : Nat) (len : BurstLen) (ws : List WriteWord)
    (s : State) : State :=
  if m = .camera ∧ s.tracker.running = true then
    match readVerdict s.tracker len ws with
    | .verdict v => takeVerdict v s
    | .malformed reason => raise (malformedReport reason addr offset len ws) s
  else s

/-! ### The decision (R137) -/

/-- A slot that leaves its bottle without a full set of verdicts (R137). DEDUCED (log 54): an AWAITED slot too,
for which the table of R137 has no row. -/
def CamSlot.lacking : CamSlot → Bool
  | .missed => true
  | .shot _ => true
  | .noVerdict _ => true
  | .awaited => true
  | .pass _ _ _ => false
  | .reject _ _ _ => false
  | .notFitted => false

/-- A REJECT slot. -/
def CamSlot.isReject : CamSlot → Bool
  | .reject _ _ _ => true
  | .awaited => false
  | .shot _ => false
  | .pass _ _ _ => false
  | .missed => false
  | .noVerdict _ => false
  | .notFitted => false

/-- The verdict that a no-verdict action stands for. -/
def NoVerdictAction.verdict : NoVerdictAction → Verdict
  | .reject => .reject
  | .pass => .pass

/-- The outcome and reason of a head: the first row of R137 that holds. -/
def Bottle.decision (b : Bottle) (action : NoVerdictAction) : Verdict × DecisionReason :=
  if 0 < b.overrun then (.reject, .overrun)
  else if b.cams.toList.any CamSlot.isReject then (.reject, .verdict)
  else if b.cams.toList.any CamSlot.lacking then (action.verdict, .noVerdict)
  else (.pass, .verified)

/-! ### Filler credits (R139) -/

/-- The filler that a REJECT slot names, other than 0. -/
def CamSlot.rejectFiller : CamSlot → Option Robot
  | .reject _ _ f => Robot.ofNum? f
  | .awaited => none
  | .shot _ => none
  | .pass _ _ _ => none
  | .missed => none
  | .noVerdict _ => none
  | .notFitted => none

/-- The filler that a PASS slot names, other than 0. -/
def CamSlot.passFiller : CamSlot → Option Robot
  | .pass _ _ f => Robot.ofNum? f
  | .awaited => none
  | .shot _ => none
  | .reject _ _ _ => none
  | .missed => none
  | .noVerdict _ => none
  | .notFitted => none

/-- The credit of a decided head: the lowest-numbered camera that names a filler. -/
def Bottle.credit (b : Bottle) (reason : DecisionReason) : Option Credit :=
  match reason with
  | .verdict => (b.cams.toList.findSome? CamSlot.rejectFiller).map Credit.reject
  | .verified => (b.cams.toList.findSome? CamSlot.passFiller).map Credit.pass
  | .noVerdict => none
  | .overrun => none

/-- The filler number of a credit, 0 for none. -/
def creditFiller : Option Credit → Nat
  | none => 0
  | some (.pass r) => r.num
  | some (.reject r) => r.num

/-- The defect code of a REJECT slot. -/
def CamSlot.defect : CamSlot → Option (BitVec 16)
  | .reject _ d _ => some d
  | .awaited => none
  | .shot _ => none
  | .pass _ _ _ => none
  | .missed => none
  | .noVerdict _ => none
  | .notFitted => none

/-- The defect code that a BOTTLE_REJECTED report carries (R141): that of the credited camera, else of
the lowest REJECT camera. -/
def Bottle.reportedDefect (b : Bottle) (reason : DecisionReason) : BitVec 16 :=
  match reason with
  | .verdict =>
    match b.cams.toList.find? (fun c => c.rejectFiller.isSome) with
    | some c => c.defect.getD 0
    | none => (b.cams.toList.findSome? CamSlot.defect).getD 0
  | .noVerdict => 0
  | .overrun => 0
  | .verified => 0

/-- A credit is counted and sent to the Robot Guard (R139, R140). -/
def sendCredit (c : Option Credit) (s : State) : State :=
  match c with
  | none => s
  | some (.pass r) =>
      let t := s.tracker
      (s.setTracker { t with passCredits := t.passCredits.set r (t.passCredits.get r + 1) }).setMail
        { s.mail with credits := s.mail.credits ++ [.pass r] }
  | some (.reject r) =>
      let t := s.tracker
      (s.setTracker { t with rejectCredits := t.rejectCredits.set r (t.rejectCredits.get r + 1) }).setMail
        { s.mail with credits := s.mail.credits ++ [.reject r] }

/-! ### The gate (R142, R143) -/

/-- The off position that a rejected head asks for. -/
def offPosition (p : Pos) (k : TrackParams) (overrun : Nat) : Pos :=
  posAdd p (k.gateLength + overrun * k.pitch)

/-- The gate opens, or its span is extended (R142). -/
def Tracker.openGate (t : Tracker) (n : Pos) : Tracker :=
  if t.gateActive then { t with offPos := if 0 < posDelta n t.offPos then n else t.offPos }
  else { t with gateActive := true, offPos := n }

/-- An ACTIVE gate whose off position is reached becomes IDLE (R143). -/
def Tracker.testGate (t : Tracker) : Tracker :=
  if t.gateActive = true ∧ 0 ≤ posDelta t.pos t.offPos then { t with gateActive := false } else t

/-! ### The decision of one head (R138) -/

/-- The passed or the rejected counter rises. -/
def TrackCounters.decided (c : TrackCounters) (v : Verdict) : TrackCounters :=
  match v with
  | .pass => { c with passed := c.passed + 1 }
  | .reject => { c with rejected := c.rejected + 1 }

/-- The BOTTLE_REJECTED report of a head (R141). -/
def rejectedReport (b : Bottle) (reason : DecisionReason) (off : Pos) : Report :=
  .bottleRejected b.number reason b.overrun b.cams (creditFiller (b.credit reason))
    (b.reportedDefect reason) b.p0 off

/-- Steps 2 and 3 of R138. -/
def countAndGate (k : TrackParams) (b : Bottle) (v : Verdict) (reason : DecisionReason) (s : State) :
    State :=
  let t := { s.tracker with counters := s.tracker.counters.decided v }
  match v with
  | .pass => s.setTracker t
  | .reject =>
      let t' := t.openGate (offPosition t.pos k b.overrun)
      raise (rejectedReport b reason t'.offPos) (s.setTracker t')

/-- The decision of a head that leaves `rest` behind it (R138). -/
def decideHead (k : TrackParams) (b : Bottle) (rest : List Bottle) (s : State) : State :=
  let (v, reason) := b.decision k.action
  setQueue rest (sendCredit (b.credit reason) (countAndGate k b v reason s))

/-- The head has reached its reject point. -/
def Bottle.atReject (b : Bottle) (k : TrackParams) (p : Pos) : Bool :=
  decide (0 ≤ posDelta p (posAdd b.p0 k.rejectOffset))

/-- The heads at their reject points are decided in queue order (R124 step 2). -/
def decideHeads (k : TrackParams) : List Bottle → State → State
  | [], s => s
  | b :: rest, s =>
    if b.atReject k s.tracker.pos then decideHeads k rest (decideHead k b rest s) else s

end Sys2Proof.Machine
end

