-- ==== Sys2Proof/Machine/Tracker.lean ====
section
/-!
DEFINITION. Conveyor tracking (spec/08): the position, camera triggers, the Bottle Queue, the conveyor
advance, camera notices, TRACK_START, TRACK_STOP and TRACK_QUERY.
-/
namespace Sys2Proof.Machine

/-! ### The encoder (R115, R124) -/

/-- P and the last direction after a pulse. -/
def Tracker.move (t : Tracker) (d : Travel) : Tracker :=
  { t with pos := match d with | .forward => t.pos + 1 | .reverse => t.pos - 1
           lastDir := d }

/-- The offset of a camera's target from P0; D1 is 0. -/
def TrackParams.camOffset (k : TrackParams) : Cam → Nat
  | .c1 => 0
  | .c2 => k.d2
  | .c3 => k.d3
  | .c4 => k.d4

/-- An AWAITED slot whose window P has passed becomes MISSED (R124 step 1). -/
def missCam (k : TrackParams) (p : Pos) (b : Bottle) (c : Cam) : Bottle :=
  match b.cams.get c with
  | .awaited =>
      if 0 < posDelta p (posAdd b.p0 (k.camOffset c + k.window)) then b.setCam c .missed else b
  | .shot _ => b
  | .pass _ _ _ => b
  | .reject _ _ _ => b
  | .missed => b
  | .noVerdict _ => b
  | .notFitted => b

/-- The misses of one entry. -/
def Bottle.misses (k : TrackParams) (p : Pos) (b : Bottle) : Bottle := allCams.foldl (missCam k p) b

/-- Step 1 of the conveyor advance. -/
def Tracker.misses (k : TrackParams) (t : Tracker) : Tracker :=
  { t with queue := t.queue.map (Bottle.misses k t.pos) }

/-- The work of a forward pulse while RUNNING (R124): misses, decisions, gate. -/
def conveyorAdvance (k : TrackParams) (s : State) : State :=
  let s1 := s.setTracker (s.tracker.misses k)
  let s2 := decideHeads k s1.tracker.queue s1
  s2.setTracker s2.tracker.testGate

/-- A pulse on ENC_STEP (R115). -/
def encoderEvent (d : Travel) (s : State) : State :=
  let s1 := s.setTracker (s.tracker.move d)
  match d with
  | .reverse => s1
  | .forward =>
    if s1.tracker.running then
      match s1.tracker.params with
      | some k => conveyorAdvance k s1
      | none => s1
    else s1

/-! ### Triggers (R121 to R123) -/

/-- A change of the eight counters. -/
def setCounters (c : TrackCounters) (s : State) : State := s.setTracker { s.tracker with counters := c }

/-- The magnitude of a signed distance. -/
def posDist (a b : Pos) : Nat := (posDelta a b).natAbs

/-- Slot k of a new entry (R122). -/
def Tracker.newSlot (t : Tracker) (k : Cam) : CamSlot :=
  let e := t.cameras.get k
  match k with
  | .c1 => if e.online then .shot (t.shots.get .c1) else .noVerdict (some (t.shots.get .c1))
  | .c2 => if e.fitted = false then .notFitted else if e.online then .awaited else .noVerdict none
  | .c3 => if e.fitted = false then .notFitted else if e.online then .awaited else .noVerdict none
  | .c4 => if e.fitted = false then .notFitted else if e.online then .awaited else .noVerdict none

/-- The entry that a lead shot opens. -/
def Tracker.newBottle (t : Tracker) (st : Stamp) : Bottle :=
  { number := t.nextBottle, p0 := t.pos, t0 := st, overrun := 0,
    cams := ⟨t.newSlot .c1, t.newSlot .c2, t.newSlot .c3, t.newSlot .c4⟩ }

/-- The largest number of entries of the Bottle Queue (R120). -/
def queueMax : Nat := 64

/-- A new entry joins the tail (R122). -/
def Tracker.addBottle (t : Tracker) (st : Stamp) : Tracker :=
  { t with queue := t.queue ++ [t.newBottle st], nextBottle := t.nextBottle + 1,
           counters := { t.counters with accepted := t.counters.accepted + 1 } }

/-- The tail absorbs a bottle that finds no room (R122). -/
def absorb : List Bottle → List Bottle
  | [] => []
  | [b] => [{ b with overrun := min (b.overrun + 1) 15 }]
  | b :: c :: bs => b :: absorb (c :: bs)

/-- A taken lead shot is a bounce: within half a pitch of the tail's P0. -/
def Tracker.bounces (t : Tracker) (k : TrackParams) : Bool :=
  match t.queue.getLast? with
  | none => false
  | some b => decide (posDist t.pos b.p0 < k.pitch / 2)

/-- A taken lead shot (R122). -/
def Tracker.leadShot (t : Tracker) (k : TrackParams) (st : Stamp) : Tracker :=
  if t.bounces k then { t with counters := { t.counters with bounces := t.counters.bounces + 1 } }
  else if queueMax ≤ t.queue.length then
    { t with queue := absorb t.queue,
             counters := { t.counters with overruns := t.counters.overruns + 1 } }
  else t.addBottle st

/-- The entry's slot of camera c awaits a shot. -/
def Bottle.awaits (c : Cam) (b : Bottle) : Bool := decide (b.cams.get c = .awaited)

/-- The entry qualifies for a shot of camera c at P (R123). -/
def Bottle.qualifies (k : TrackParams) (p : Pos) (c : Cam) (b : Bottle) : Bool :=
  b.awaits c && decide (posDist p (posAdd b.p0 (k.camOffset c)) ≤ k.window)

/-- A taken shot of an online camera 2, 3 or 4 (R123). -/
def matchShot (k : TrackParams) (c : Cam) (s : State) : State :=
  let t := s.tracker
  let n := t.shots.get c
  if t.queue.any (Bottle.qualifies k t.pos c) then
    setQueue (updateFirst (Bottle.qualifies k t.pos c) (Bottle.setCam c (.shot n)) t.queue) s
  else
    raise (.shotStray c n t.pos (t.queue.countP (Bottle.awaits c)))
      (setCounters { t.counters with strays := t.counters.strays + 1 } s)

/-- A taken edge (R121): the shot counter rises, then the shot is handled. -/
def takeShot (k : TrackParams) (c : Cam) (s : State) : State :=
  let t := s.tracker
  let t1 := { t with shots := t.shots.set c (t.shots.get c + 1) }
  let s1 := s.setTracker t1
  match c with
  | .c1 => s.setTracker (t1.leadShot k s.clock.stamp)
  | .c2 => if (t.cameras.get .c2).online then matchShot k .c2 s1 else s1
  | .c3 => if (t.cameras.get .c3).online then matchShot k .c3 s1 else s1
  | .c4 => if (t.cameras.get .c4).online then matchShot k .c4 s1 else s1

/-- A rising edge on CAM_TRIGk (R121). -/
def triggerEvent (c : Cam) (s : State) : State :=
  let t := s.tracker
  if t.running = false ∨ (t.cameras.get c).fitted = false then s
  else
    match t.lastDir with
    | .reverse => setCounters { t.counters with reverseIgnored := t.counters.reverseIgnored + 1 } s
    | .forward =>
      match t.params with
      | some k => takeShot k c s
      | none => s

/-! ### Camera notices (R126, R127) -/

/-- A slot whose camera goes offline. -/
def CamSlot.goOffline : CamSlot → CamSlot
  | .awaited => .noVerdict none
  | .shot n => .noVerdict (some n)
  | .pass n d f => .pass n d f
  | .reject n d f => .reject n d f
  | .missed => .missed
  | .noVerdict n => .noVerdict n
  | .notFitted => .notFitted

/-- Camera c goes offline (R126). -/
def Tracker.camOffline (t : Tracker) (c : Cam) : Tracker :=
  let e := t.cameras.get c
  { t with
    cameras := t.cameras.set c { e with online := false }
    queue := if e.fitted && t.running then
        t.queue.map fun b => b.setCam c (b.cams.get c).goOffline
      else t.queue }

/-- Camera c goes online (R127). -/
def Tracker.camOnline (t : Tracker) (c : Cam) : Tracker :=
  { t with cameras := t.cameras.set c { t.cameras.get c with online := true } }

/-- A function applied for each camera whose switch port is p. -/
def Tracker.onPort (p : SwPort) (f : Tracker → Cam → Tracker) (t : Tracker) : Tracker :=
  allCams.foldl (fun t c => if (t.cameras.get c).port = some p then f t c else t) t

/-- CAMERA_OFFLINE: the Tracker's oldest notice is taken, where it is an offline notice. -/
def cameraOfflineEvent (s : State) : State :=
  match s.mail.cameras with
  | .loss p :: rest =>
      (s.setMail { s.mail with cameras := rest }).setTracker (s.tracker.onPort p Tracker.camOffline)
  | .back _ :: _ => s
  | [] => s

/-- CAMERA_ONLINE: the Tracker's oldest notice is taken, where it is an online notice. -/
def cameraOnlineEvent (s : State) : State :=
  match s.mail.cameras with
  | .back p :: rest =>
      (s.setMail { s.mail with cameras := rest }).setTracker (s.tracker.onPort p Tracker.camOnline)
  | .loss _ :: _ => s
  | [] => s

/-! ### TRACK_START (R118, R119) -/

/-- The largest match window for a pitch. -/
def maxWindow (pitch : Nat) : Nat := pitch / 2 - 1

/-- The no-verdict action a code names. -/
def NoVerdictAction.ofCode? (c : Nat) : Option NoVerdictAction :=
  match c with
  | 1 => some .reject
  | 2 => some .pass
  | _ => none

/-- Check 4 of R118, on the parameters as given. -/
def TrackParams.inRange (k : TrackParams) : Bool :=
  decide (16 ≤ k.pitch ∧ k.pitch ≤ 4096 ∧ k.window ≠ 0 ∧ k.d2 ≤ 1048576 ∧ k.d3 ≤ 1048576 ∧
    k.d4 ≤ 1048576 ∧ 1 ≤ k.gateLength ∧ k.gateLength ≤ k.pitch)

/-- W as settled. -/
def TrackParams.settle (k : TrackParams) : TrackParams :=
  { k with window := min k.window (maxWindow k.pitch) }

/-- Check 5 of R118, on the settled parameters. -/
def TrackParams.reaches (k : TrackParams) (cams : PerCam CameraEntry) : Bool :=
  decide (k.rejectOffset ≤ 4194304) &&
    allCams.all fun c => !(cams.get c).fitted || decide (k.camOffset c + k.window < k.rejectOffset)

/-- The parameters as given with their action code. -/
def givenTrack (n : Slot) (s : State) (a : NoVerdictAction) : TrackParams :=
  { pitch := s.paramWord n 0, window := s.paramWord n 1, d2 := s.paramWord n 2, d3 := s.paramWord n 3,
    d4 := s.paramWord n 4, rejectOffset := s.paramWord n 5, gateLength := s.paramWord n 6, action := a }

/-- The parameters in force, as TRACK_START's result and the SETTINGS view carry them. -/
def trackFields : Option TrackParams → List Field
  | some k =>
      [halfOf k.pitch, halfOf k.window, wordFld k.d2, wordFld k.d3, wordFld k.d4,
       wordFld k.rejectOffset, halfOf k.gateLength, byteOf k.action.code]
  | none =>
      [halfOpt none, halfOpt none, wordOpt none, wordOpt none, wordOpt none, wordOpt none,
       halfOpt none, byteOpt none]

/-- Tracking starts (R119). -/
def Tracker.start (t : Tracker) (k : TrackParams) : Tracker :=
  { t with running := true, params := some k, queue := [], shots := .all 0, nextBottle := 0,
           counters := .zero, passCredits := .all 0, rejectCredits := .all 0, gateActive := false }

/-- TRACK_START is refused for the state of the part (R118 checks 1 to 3; R169 while a load runs). -/
def trackStartBarred (s : State) : Bool :=
  s.isSafe || s.loader.load.isSome || s.tracker.running || !(s.tracker.cameras.get .c1).fitted

/-- TRACK_START's execution. -/
def runTrackStart (n : Slot) (s : State) : Reply :=
  if trackStartBarred s then refuse s .refusedState
  else
    match NoVerdictAction.ofCode? (s.paramBits n 7 0 2) with
    | none => refuse s .refusedParam
    | some a =>
      let given := givenTrack n s a
      let k := given.settle
      if given.inRange && k.reaches s.tracker.cameras then
        { state := s.setTracker (s.tracker.start k),
          code := if k = given then .done else .doneAdjusted, data := pageOne (trackFields (some k)) }
      else refuse s .refusedParam

/-- An opcode write of TRACK_START. -/
def issueTrackStart (n : Slot) (rest : BitVec 24) (s : State) : State :=
  issueCommand n (opcodeWord 0x10 rest) (runTrackStart n) s

/-! ### TRACK_STOP (R129) -/

/-- The eight counters in the order of R128's table. -/
def counterFields (c : TrackCounters) : List Field :=
  [.word c.accepted, .word c.passed, .word c.rejected, .word c.dropped, .word c.overruns,
   .word c.strays, .word c.bounces, .word c.reverseIgnored]

/-- The Tracker stopped. -/
def Tracker.stop (t : Tracker) : Tracker :=
  { t with running := false, queue := [], gateActive := false,
           counters := { t.counters with
             dropped := t.counters.dropped + BitVec.ofNat 32 t.queue.length } }

/-- The BOTTLE_DROPPED report of a stop. -/
def droppedReport (t : Tracker) : Report :=
  .bottleDropped t.queue.length (t.queue.head?.map Bottle.number) (t.queue.getLast?.map Bottle.number)
    t.stop.counters.dropped

/-- TRACK_STOP's execution. -/
def runTrackStop (s : State) : Reply :=
  if s.isSafe ∨ s.tracker.running = false then refuse s .refusedState
  else
    { state := raise (droppedReport s.tracker) (s.setTracker s.tracker.stop), code := .done,
      data := pageOne (byteOf s.tracker.queue.length :: counterFields s.tracker.stop.counters) }

/-- An opcode write of TRACK_STOP. -/
def issueTrackStop (n : Slot) (rest : BitVec 24) (s : State) : State :=
  issueCommand n (opcodeWord 0x11 rest) runTrackStop s

/-! ### TRACK_QUERY (R130) -/

/-- The SUMMARY view. STOPPED and FORWARD and IDLE are 0 (log 9). -/
def summaryFields (t : Tracker) : List Field :=
  [byteOf (if t.running then 1 else 0), wordFld t.pos.toNat, byteOf (Travel.code t.lastDir)] ++
  (t.shots.toList.map Field.half) ++ counterFields t.counters ++ (t.passCredits.toList.map Field.word) ++
  (t.rejectCredits.toList.map Field.word) ++
  [byteOf t.queue.length, .half t.nextBottle, num16Opt (t.queue.head?.map Bottle.number),
   num16Opt (t.queue.getLast?.map Bottle.number), byteOf (if t.gateActive then 1 else 0),
   wordFld t.offPos.toNat]

/-- A camera in the SETTINGS view. -/
def cameraFields (e : CameraEntry) : List Field :=
  [flagFld e.fitted, byteOf (match e.port with | some p => p.num | none => 0), flagFld e.online]

/-- The SETTINGS view. -/
def settingsFields (t : Tracker) : List Field :=
  trackFields t.params ++ (t.cameras.toList.flatMap cameraFields)

/-- The defect code a slot holds. -/
def CamSlot.defectCode : CamSlot → Option (BitVec 16)
  | .pass _ d _ => some d
  | .reject _ d _ => some d
  | .awaited => none
  | .shot _ => none
  | .missed => none
  | .noVerdict _ => none
  | .notFitted => none

/-- The filler number a slot holds. -/
def CamSlot.filler : CamSlot → Option Nat
  | .pass _ _ f => some f
  | .reject _ _ f => some f
  | .awaited => none
  | .shot _ => none
  | .missed => none
  | .noVerdict _ => none
  | .notFitted => none

/-- A camera slot in the ENTRY view. -/
def slotFields (c : CamSlot) : List Field :=
  [byteOf c.code, num16Opt c.number, num16Opt c.defectCode, byteOpt c.filler]

/-- A camera slot of an absent entry. -/
def absentSlot : List Field := [byteOpt none, num16Opt none, num16Opt none, byteOpt none]

/-- The ENTRY view; every field of an absent entry is none (log 11). DESIGN CHOICE (log 14): the four
slots are laid slot by slot. -/
def entryFields : Option Bottle → List Field
  | some b =>
      [num16Opt (some b.number), wordFld b.p0.toNat, b.t0.field, byteOf b.overrun] ++
        (b.cams.toList.flatMap slotFields)
  | none =>
      [num16Opt none, wordOpt none, .long (BitVec.allOnes 64), byteOpt none] ++ absentSlot ++
        absentSlot ++ absentSlot ++ absentSlot

/-- TRACK_QUERY's execution. -/
def runTrackQuery (n : Slot) (s : State) : Reply :=
  let position := s.paramBits n 0 8 8
  match s.paramBits n 0 0 2 with
  | 1 => queryReply s n (summaryFields s.tracker)
  | 2 => queryReply s n (settingsFields s.tracker)
  | 3 =>
      if 63 < position then refuse s .refusedParam
      else queryReply s n (entryFields s.tracker.queue[position]?)
  | _ => refuse s .refusedParam

/-- An opcode write of TRACK_QUERY. -/
def issueTrackQuery (n : Slot) (rest : BitVec 24) (s : State) : State :=
  issueCommand n (opcodeWord 0x12 rest) (runTrackQuery n) s

/-! ### Resets (R131) -/

/-- The Tracker at a cabinet reset or the acceptance of a RELOAD. -/
def Tracker.resetKeepingConfig (t : Tracker) : Tracker :=
  { t with
    running := false, queue := [], shots := .all 0, nextBottle := 0, counters := .zero,
    passCredits := .all 0, rejectCredits := .all 0, gateActive := false, offPos := 0,
    cameras := t.cameras.map fun e => { e with online := true } }

/-! ### Meanings -/

/-- ENCODER_PULSE (R115). -/
def execEncoderPulse (d : Travel) (s : State) : Host.Outcome State Fault Refusal := finish (encoderEvent d s)

/-- CAMERA_TRIGGER (R121). -/
def execCameraTrigger (c : Cam) (s : State) : Host.Outcome State Fault Refusal := finish (triggerEvent c s)

/-- CAMERA_OFFLINE (R126). -/
def execCameraOffline (s : State) : Host.Outcome State Fault Refusal := finish (cameraOfflineEvent s)

/-- CAMERA_ONLINE (R127). -/
def execCameraOnline (s : State) : Host.Outcome State Fault Refusal := finish (cameraOnlineEvent s)

/-- TRACK_START (R118). -/
def execTrackStart (n : Slot) (rest : BitVec 24) (s : State) : Host.Outcome State Fault Refusal :=
  finish (issueTrackStart n rest s)

/-- TRACK_STOP (R129). -/
def execTrackStop (n : Slot) (rest : BitVec 24) (s : State) : Host.Outcome State Fault Refusal :=
  finish (issueTrackStop n rest s)

/-- TRACK_QUERY (R130). -/
def execTrackQuery (n : Slot) (rest : BitVec 24) (s : State) : Host.Outcome State Fault Refusal :=
  finish (issueTrackQuery n rest s)

end Sys2Proof.Machine
end

