-- ==== Sys2Proof/Machine/Window.lean ====
section
/-!
DEFINITION. The Service Window (spec/10): the key, grants, extension and revocation, draining, answers of
the Robot Guard, returns and settling.
-/
namespace Sys2Proof.Machine

/-! ### Changes of window state (R155) -/

/-- The Service Window replaced. -/
def setWin (w : ServiceWindow) (s : State) : State := s.setWindow w

/-- The SERVICE_STATE report of a change that leaves the window `w`. -/
def windowReport (before : WindowState) (cause : WindowCause) (w : ServiceWindow) : Report :=
  .serviceState before w.state cause w.session w.key w.grants w.robotSet

/-- The window becomes `w` by a change of state, with its report. -/
def changeWindow (cause : WindowCause) (w : ServiceWindow) (s : State) : State :=
  raise (windowReport s.window.state cause w) (setWin w s)

/-! ### Draining (R151) -/

/-- The message to the Robot Guard for each robot of the set, in ascending order. -/
def forRobotSet (rs : PerRobot (Option RobotOutcome)) (msg : Robot → TransferMsg) : List TransferMsg :=
  (allRobots.filter fun r => (rs.get r).isSome).map msg

/-- Messages to the Robot Guard join its channel. -/
def sendTransfers (ms : List TransferMsg) (s : State) : State :=
  s.setMail { s.mail with transfers := s.mail.transfers ++ ms }

/-- The window at the entry to DRAINING: timer stopped, refusal outstanding, returns sent. -/
def ServiceWindow.drained (w : ServiceWindow) : ServiceWindow :=
  { w with state := .draining, deadline := none, refusal := true,
           robotSet := w.robotSet.map fun o => o.map fun _ => .returnSent }

/-- The entry to DRAINING (R151). -/
def drain (cause : WindowCause) (s : State) : State :=
  sendTransfers (forRobotSet s.window.robotSet .giveBack) (changeWindow cause s.window.drained s)

/-- One of the events of R150: an OPEN window drains, another is left as it is. -/
def drainIfOpen (cause : WindowCause) (s : State) : State :=
  if s.window.state = .opened then drain cause s else s

/-! ### Settling (R153) -/

/-- No robot of the set has outcome RETURN_SENT. -/
def ServiceWindow.returnsTaken (w : ServiceWindow) : Bool :=
  w.robotSet.toList.all fun o => decide (o ≠ some .returnSent)

/-- The three conditions of settling hold in a DRAINING window. -/
def ServiceWindow.settles (w : ServiceWindow) : Bool :=
  decide (w.state = .draining) && !w.refusal && !w.inFlight && w.returnsTaken

/-- The state in which a window without a session stands. -/
def idleState (key : Bool) : WindowState := if key then .keyed else .closed

/-- The settling: the report shows the Grant Table and the robot set before they are emptied (R155). -/
def settle (s : State) : State :=
  let w := { s.window with state := idleState s.window.key }
  setWin { w with grants := [], robotSet := .all none }
    (raise (windowReport s.window.state .settled w) (setWin w s))

/-- The test at each event that can complete the conditions. -/
def settleTest (s : State) : State := if s.window.settles then settle s else s

/-! ### The key (R145) -/

/-- The recorded level. -/
def recordKey (level : Bool) (s : State) : State := setWin { s.window with key := level } s

/-- A change of SVC_KEY to `level`; a level that is already recorded is no change. -/
def keyEvent (level : Bool) (s : State) : State :=
  if s.window.key = level then s
  else
    let s1 := recordKey level s
    match s.window.state, level with
    | .closed, true => changeWindow .keyOn { s1.window with state := .keyed } s1
    | .keyed, false => changeWindow .keyOff { s1.window with state := .closed } s1
    | .opened, false => drain .keyOff s1
    | .closed, false => s1
    | .keyed, true => s1
    | .opened, true => s1
    | .draining, _ => s1

/-! ### SERVICE_GRANT (R146, R147) -/

/-- The rights a code names: true is RW. -/
def grantRights? (c : Nat) : Option Bool :=
  match c with
  | 1 => some false
  | 2 => some true
  | _ => none

/-- The entry of the map in force that a grant may name: enabled, and not CONTROL. -/
def RegionMap.grantable (mp : RegionMap) (i : Nat) : Bool :=
  match mp.entries[i]? with
  | none => false
  | some e => e.enabled && decide (RegionKind.ofCode? e.kindCode ≠ some .control)

/-- Grant entry i of the parameters, if it passes check 3. -/
def givenGrant (n : Slot) (s : State) (i : Nat) : Option Grant :=
  let region := s.paramBits n (2 + i) 0 8
  match grantRights? (s.paramBits n (2 + i) 8 2) with
  | none => none
  | some rw => if region ≤ 15 ∧ s.map.grantable region = true then some { region := region, rw := rw } else none

/-- The grant entries 1 to `count`, if every one passes. -/
def givenGrants (n : Slot) (s : State) (count : Nat) : Option (List Grant) :=
  (List.range count).mapM (givenGrant n s)

/-- The robot set of the parameters: bit 8 + r for robot r. -/
def givenRobots (n : Slot) (s : State) : PerRobot (Option RobotOutcome) :=
  let bit (i : Nat) : Option RobotOutcome :=
    if (s.param n 1).getLsbD (8 + i) then some .requested else none
  ⟨bit 1, bit 2, bit 3, bit 4, bit 5, bit 6⟩

/-- The robot set names a robot outside 1 to 6. -/
def namesOtherRobot (n : Slot) (s : State) : Bool :=
  (s.param n 1).getLsbD 8 || (s.param n 1).getLsbD 15

/-- The window opened by an accepted grant of `d` seconds. -/
def ServiceWindow.granted (w : ServiceWindow) (now : Micros) (d : Nat) (gs : List Grant)
    (rs : PerRobot (Option RobotOutcome)) : ServiceWindow :=
  { w with state := .opened, session := w.session + 1, grants := gs, robotSet := rs,
           deadline := some (now + BitVec.ofNat 48 (d * 1000000)) }

/-- An accepted SERVICE_GRANT (R147). -/
def openWindow (d : Nat) (gs : List Grant) (rs : PerRobot (Option RobotOutcome)) (s : State) : State :=
  sendTransfers (forRobotSet rs .request)
    (changeWindow .grant (s.window.granted s.now d gs rs) s)

/-- The data of a SERVICE_GRANT result. -/
def grantData (d : Nat) (w : ServiceWindow) : Option (List Word) :=
  pageOne ([.half w.session, halfOf d] ++ grantFields w.grants ++ robotSetFields w.robotSet)

/-- SERVICE_GRANT's execution (R146); refused while a load runs (R169). -/
def runServiceGrant (n : Slot) (s : State) : Reply :=
  let duration := s.paramWord n 0
  let count := s.paramBits n 1 0 8
  if s.isSafe || s.loader.load.isSome || decide (s.window.state ≠ .keyed) then refuse s .refusedState
  else if duration = 0 ∨ 4 < count ∨ namesOtherRobot n s = true then refuse s .refusedParam
  else
    match givenGrants n s count with
    | none => refuse s .refusedParam
    | some gs =>
      let d := min duration s.window.maxDuration
      let s1 := openWindow d gs (givenRobots n s) s
      { state := s1, code := if d = duration then .done else .doneAdjusted,
        data := grantData d s1.window }

/-- An opcode write of SERVICE_GRANT. -/
def issueServiceGrant (n : Slot) (rest : BitVec 24) (s : State) : State :=
  issueCommand n (opcodeWord 0x40 rest) (runServiceGrant n) s

/-! ### SERVICE_EXTEND, SERVICE_REVOKE and the timer (R149, R150) -/

/-- The microseconds left to the deadline (R149). DESIGN CHOICE (log 50): past a deadline whose expiry is
not yet taken there are 0 left, as at it. -/
def ServiceWindow.remaining (w : ServiceWindow) (now : Micros) : Nat :=
  match w.deadline with
  | none => 0
  | some d => if atOrPast now d then 0 else elapsed d now

/-- SERVICE_EXTEND's execution. -/
def runServiceExtend (n : Slot) (s : State) : Reply :=
  if s.isSafe || decide (s.window.state ≠ .opened) then refuse s .refusedState
  else
    let sum := s.window.remaining s.now + s.paramBits n 0 0 16 * 1000000
    let left := min sum (s.window.maxDuration * 1000000)
    { state := setWin { s.window with deadline := some (s.now + BitVec.ofNat 48 left) } s,
      code := if left = sum then .done else .doneAdjusted,
      data := pageOne [.half s.window.session, wordFld (left / 1000)] }

/-- An opcode write of SERVICE_EXTEND. -/
def issueServiceExtend (n : Slot) (rest : BitVec 24) (s : State) : State :=
  issueCommand n (opcodeWord 0x41 rest) (runServiceExtend n) s

/-- SERVICE_REVOKE's execution. -/
def runServiceRevoke (s : State) : Reply :=
  if s.isSafe || decide (s.window.state ≠ .opened) then refuse s .refusedState
  else { state := drain .revoke s, code := .done, data := pageOne [.half s.window.session] }

/-- An opcode write of SERVICE_REVOKE. -/
def issueServiceRevoke (n : Slot) (rest : BitVec 24) (s : State) : State :=
  issueCommand n (opcodeWord 0x42 rest) runServiceRevoke s

/-- The window timer runs in OPEN and has reached its deadline. -/
def windowTimerDue (s : State) : Bool :=
  decide (s.window.state = .opened) &&
    match s.window.deadline with
    | none => false
    | some d => atOrPast s.now d

/-- WINDOW_TIMER_EXPIRY, where it is due (R149). -/
def windowTimerEvent (s : State) : State := if windowTimerDue s then drain .expired s else s

/-- SERVICE_LINK_LOSS: the oldest loss notice is taken (R150). -/
def linkLossEvent (s : State) : State :=
  match s.mail.serviceLoss with
  | [] => s
  | _ :: rest => drainIfOpen .linkLost (s.setMail { s.mail with serviceLoss := rest })

/-! ### Answers and returns (R147, R151) -/

/-- The outcome of a robot of the set replaced. -/
def setOutcome (r : Robot) (o : RobotOutcome) (s : State) : State :=
  match s.window.robotSet.get r with
  | none => s
  | some _ => setWin { s.window with robotSet := s.window.robotSet.set r (some o) } s

/-- The outcome that an answer gives a robot: REQUESTED and PENDING follow it, the rest stand. For
TAKEN that is the model's choice (DESIGN CHOICE, log 36). -/
def answered (old new : RobotOutcome) : RobotOutcome :=
  match old with
  | .requested => new
  | .pending => new
  | .taken => .taken
  | .returnSent => .returnSent
  | .returned => .returned
  | .cancelled => .cancelled

/-- An answer of the Robot Guard (R147). DESIGN CHOICE (log 36): one for a robot outside the set does
nothing. -/
def takeAnswer (r : Robot) (new : RobotOutcome) (s : State) : State :=
  match s.window.robotSet.get r with
  | none => s
  | some old => setWin { s.window with robotSet := s.window.robotSet.set r (some (answered old new)) } s

/-- TRANSFER_ANSWER: the oldest answer is taken. -/
def answerEvent (s : State) : State :=
  match s.mail.answers with
  | [] => s
  | .taken r :: rest => takeAnswer r .taken (s.setMail { s.mail with answers := rest })
  | .pending r :: rest => takeAnswer r .pending (s.setMail { s.mail with answers := rest })

/-- A pending transfer is cancelled (R103). -/
def cancelTransfer (r : Robot) (s : State) : State :=
  setRobot r { s.robot r with transferPending := false } s

/-- The taking of a return for robot r (R103), with the outcome that the Service Window records in the
same event (R151). -/
def takeReturn (r : Robot) (s : State) : State :=
  match (s.robot r).owner with
  | .service => setOutcome r .returned (changeRobot r (RobotChange.giveBack r s.now) s)
  | .line =>
    if (s.robot r).transferPending then setOutcome r .cancelled (cancelTransfer r s) else s

/-- ROBOT_RETURN: the oldest message of the Service Window is taken, where it is a return. DESIGN CHOICE
(log 47): where it is the last, the robot's ROBOT_STATE (R103) is raised before the window's SERVICE_STATE
(R153). -/
def robotReturnEvent (s : State) : State :=
  match s.mail.transfers with
  | .giveBack r :: rest => settleTest (takeReturn r (s.setMail { s.mail with transfers := rest }))
  | .request _ :: _ => s
  | [] => s

/-! ### Resets (R157) -/

/-- The Service Window at a cabinet reset. DESIGN CHOICE (log 37): the level last recorded is the one
that the reset reads on SVC_KEY. -/
def ServiceWindow.cabinetReset (w : ServiceWindow) : ServiceWindow :=
  { w with state := idleState w.key, grants := [], robotSet := .all none, deadline := none,
           refusal := false }

/-! ### Meanings -/

/-- SERVICE_KEY (R145). -/
def execServiceKey (level : Bool) (s : State) : Host.Outcome State Fault Refusal :=
  finish (keyEvent level s)

/-- SERVICE_GRANT (R146). -/
def execServiceGrant (n : Slot) (rest : BitVec 24) (s : State) : Host.Outcome State Fault Refusal :=
  finish (issueServiceGrant n rest s)

/-- SERVICE_EXTEND (R149). -/
def execServiceExtend (n : Slot) (rest : BitVec 24) (s : State) : Host.Outcome State Fault Refusal :=
  finish (issueServiceExtend n rest s)

/-- SERVICE_REVOKE (R150). -/
def execServiceRevoke (n : Slot) (rest : BitVec 24) (s : State) : Host.Outcome State Fault Refusal :=
  finish (issueServiceRevoke n rest s)

/-- WINDOW_TIMER_EXPIRY (R149). -/
def execWindowTimerExpiry (s : State) : Host.Outcome State Fault Refusal := finish (windowTimerEvent s)

/-- SERVICE_LINK_LOSS (R150). -/
def execServiceLinkLoss (s : State) : Host.Outcome State Fault Refusal := finish (linkLossEvent s)

/-- TRANSFER_ANSWER (R147). -/
def execTransferAnswer (s : State) : Host.Outcome State Fault Refusal := finish (answerEvent s)

/-- ROBOT_RETURN (R103). -/
def execRobotReturn (s : State) : Host.Outcome State Fault Refusal := finish (robotReturnEvent s)

end Sys2Proof.Machine
end

