-- ==== Sys2Proof/Machine/RegionMap.lean ====
section
/-!
DEFINITION. The Region Map (spec/02): lookup, rights, stamping, denials and their limiters, the
validation of a stored map.
-/
namespace Sys2Proof.Machine

/-! ### Lookup (R20) -/

/-- Where a request falls: its region or open space, with the kind, weight, rights and offset. -/
structure Place where
  region : RegionRef
  kind : RegionKind
  offset : Nat
  weight : Nat
  rights : RightsPair
  deriving DecidableEq, Repr

/-- The enabled entry holds the address. -/
def RegionEntry.holds (e : RegionEntry) (a : Nat) : Bool :=
  e.enabled && decide (e.base ≤ a ∧ a < e.base + e.size)

/-- The place of an address in open space. -/
def RegionMap.openPlace (mp : RegionMap) (a : Nat) : Place :=
  { region := .openSpace, kind := .plain, offset := a, weight := 1, rights := mp.openSpace }

/-- The place of an address in entry i. -/
def RegionEntry.place (e : RegionEntry) (i a : Nat) : Place :=
  { region := .entry i, kind := (RegionKind.ofCode? e.kindCode).getD .plain, offset := a - e.base,
    weight := e.weight, rights := { read := e.readRights, write := e.writeRights } }

/-- The first entry from index i on that holds the address. -/
def findPlace (a : Nat) : Nat → List RegionEntry → Option Place
  | _, [] => none
  | i, e :: es => if e.holds a then some (e.place i a) else findPlace a (i + 1) es

/-- The place of an address in the map. -/
def RegionMap.place (mp : RegionMap) (a : Nat) : Place :=
  (findPlace a 0 mp.entries).getD (mp.openPlace a)

/-! ### Shape (R3) -/

/-- The address is a multiple of the length. -/
def requestAligned (r : Request) : Bool := decide (r.addr.toNat % r.len.words = 0)

/-- The last word lies in another region than the first, or one of them in none. -/
def requestCrosses (r : Request) (mp : RegionMap) : Bool :=
  decide ((mp.place r.addr.toNat).region ≠ (mp.place (r.addr.toNat + r.len.words - 1)).region)

/-! ### Rights (R21, R148) -/

/-- The master is in a rights set. -/
def inRights (set : BitVec 5) (m : Master) : Bool := set.getLsbD m.num

/-- The set of a pair for a direction. -/
def RightsPair.forDir (p : RightsPair) : Dir → BitVec 5
  | .read => p.read
  | .write => p.write

/-- A grant of the Grant Table that names the region adds the direction. -/
def ServiceWindow.grants? (w : ServiceWindow) (region : RegionRef) (d : Dir) : Bool :=
  w.grants.any fun g =>
    decide (region = .entry g.region) &&
      match d with
      | .read => true
      | .write => g.rw

/-- The cause for which a request of `m` in a place is denied at step 3, if it is denied. -/
def deniedRight (w : ServiceWindow) (m : Master) (d : Dir) (p : Place) : Option DenialCause :=
  let own := inRights (p.rights.forDir d) m
  match m with
  | .service =>
    match w.state with
    | .draining => some .window
    | .opened => if own || w.grants? p.region d then none else some .rights
    | .closed => if own then none else some .rights
    | .keyed => if own then none else some .rights
  | .line => if own then none else some .rights
  | .switch => if own then none else some .rights
  | .camera => if own then none else some .rights
  | .robotlink => if own then none else some .rights

/-! ### Stamping (R26) -/

/-- A written word at an offset of a stamped record. -/
def stampWord (st : Stamp) (offset : Nat) (w : WriteWord) : WriteWord :=
  if offset % 8 = 6 then ownWord st.wordA else if offset % 8 = 7 then ownWord st.wordB else w

/-- The words of a write from `offset` on, stamped. -/
def stampWords (st : Stamp) : Nat → List WriteWord → List WriteWord
  | _, [] => []
  | offset, w :: ws => stampWord st offset w :: stampWords st (offset + 1) ws

/-! ### Denials (R30 to R33) -/

/-- The limiter's window, 100 ms. -/
def limiterWindow : Micros := 100000

/-- The report of a limiter (R33, R154). -/
def limiterReport (m : Master) (p : Particulars) (covers total : Nat) (w : ServiceWindow) : Report :=
  if p.cause = .window then .serviceDenied m p covers total w.state w.session
  else .accessDenied m p covers total

/-- A master's limiter replaced. -/
def setLimiter (m : Master) (l : Limiter) (s : State) : State := s.setLimiters (s.limiters.set m l)

/-- A denial is counted and offered to the limiter (R30, R31). -/
def countDenial (m : Master) (p : Particulars) (s : State) : State :=
  let l := s.limiters.get m
  let total := satAdd32 l.total 1
  match l.mode with
  | .quiet =>
      raise (limiterReport m p 1 total s.window)
        (setLimiter m { total := total, mode := .muted (s.now + limiterWindow) 0 none } s)
  | .muted e n _ => setLimiter m { total := total, mode := .muted e (satInc16 n) (some p) } s

/-- The limiter's window end is reached on M. -/
def limiterDue (s : State) (m : Master) : Bool :=
  match (s.limiters.get m).mode with
  | .quiet => false
  | .muted e _ _ => atOrPast s.now e

/-- A window end that is reached (R32). -/
def endLimiterWindow (m : Master) (n : Nat) (latest : Option Particulars) (s : State) : State :=
  let total := (s.limiters.get m).total
  match latest with
  | none => setLimiter m { total := total, mode := .quiet } s
  | some p =>
    if 0 < n then
      raise (limiterReport m p n total s.window)
        (setLimiter m { total := total, mode := .muted (s.now + limiterWindow) 0 none } s)
    else setLimiter m { total := total, mode := .quiet } s

/-- LIMITER_WINDOW_END, where it is due. -/
def limiterWindowEvent (m : Master) (s : State) : State :=
  match (s.limiters.get m).mode with
  | .quiet => s
  | .muted e n latest => if atOrPast s.now e then endLimiterWindow m n latest s else s

/-- LIMITER_WINDOW_END (R32). -/
def execLimiterWindowEnd (m : Master) (s : State) : Host.Outcome State Fault Refusal :=
  finish (limiterWindowEvent m s)

/-! ### Validation at load (R28, R29) -/

/-- Two entries share a word. -/
def RegionEntry.overlaps (a b : RegionEntry) : Bool :=
  decide (a.base < b.base + b.size ∧ b.base < a.base + a.size)

/-- The kinds of which the map holds at most one (R18). -/
def RegionKind.single : RegionKind → Bool
  | .plain => false
  | .stamped => false
  | .orders => true
  | .status => true
  | .verdicts => true
  | .ports => true
  | .control => true
  | .reports => true

/-- The bound on the size of a kind holds (R28). -/
def RegionKind.sizeOk (size : Nat) : RegionKind → Bool
  | .plain => true
  | .stamped => true
  | .verdicts => true
  | .orders => decide (256 ≤ size)
  | .status => decide (256 ≤ size)
  | .ports => decide (256 ≤ size)
  | .reports => decide (256 ≤ size)
  | .control => decide (size = 256)

/-- An enabled entry passes R28 against the entries of lower index. -/
def RegionEntry.valid (e : RegionEntry) (lower : List RegionEntry) : Bool :=
  match RegionKind.ofCode? e.kindCode with
  | none => false
  | some k =>
    decide (e.size ≠ 0 ∧ e.base + e.size ≤ 16777216 ∧ 1 ≤ e.weight ∧ e.weight ≤ 4) &&
      k.sizeOk e.size &&
      lower.all fun o =>
        !o.enabled || (!o.overlaps e && !(k.single && decide (RegionKind.ofCode? o.kindCode = some k)))

/-- An entry as loaded, after the entries of lower index. -/
def loadEntry (lower : List RegionEntry) (e : RegionEntry) : RegionEntry :=
  if e.enabled && !e.valid lower then { e with enabled := false } else e

/-- The entries as loaded, in index order. -/
def loadEntries (stored : List RegionEntry) : List RegionEntry :=
  stored.foldl (fun lower e => lower ++ [loadEntry lower e]) []

/-- The CONTROL entry with LINE's rights (R29). -/
def settleControl (e : RegionEntry) : RegionEntry :=
  if e.enabled && decide (RegionKind.ofCode? e.kindCode = some .control) then
    { e with writeRights := 0b00001, readRights := e.readRights ||| 0b00001 }
  else e

/-- The new map's entries from an accepted region group, and whether they were adjusted. -/
def validateEntries (stored : List RegionEntry) : List RegionEntry × Bool :=
  let loaded := loadEntries stored
  let mp : RegionMap := { entries := loaded, openSpace := RegionMap.anchor.openSpace }
  if (mp.entryOf .control).isSome && (mp.entryOf .reports).isSome then
    let settled := loaded.map settleControl
    (settled, decide (settled ≠ stored))
  else (RegionMap.anchor.entries, true)

end Sys2Proof.Machine
end

