-- ==== Sys2Proof/Machine/Pacing.lean ====
section
/-!
DEFINITION. The Pacing Unit (spec/03): cost, holding, refill, PACE_SET, delivered settings.
-/
namespace Sys2Proof.Machine

/-- The refill interval I in µs (R36). -/
def PaceSetting.interval (p : PaceSetting) : Nat := (8 + p.a) * 2 ^ p.b

/-- The cost of a request in beats (R37). -/
def requestCost (len : BurstLen) (weight : Nat) : Nat := len.words * weight

/-- A master's record in the Pacing Unit replaced. -/
def setPace (m : Master) (p : Pace) (s : State) : State := s.setPacing (s.pacing.set m p)

/-! ### Admission (R38) -/

/-- Step 5 holds a request: the master has an account in debt. -/
def Pace.holds (p : Pace) : Bool :=
  match p.account with
  | none => false
  | some a => decide (a.credit < 0)

/-- The charge of an admitted request; an unpaced master is charged nothing. -/
def Pace.charge (p : Pace) (cost : Nat) : Pace :=
  match p.account with
  | none => p
  | some a => { p with account := some { a with credit := a.credit - cost } }

/-! ### Refill (R40, R42, R43) -/

/-- The refill timer has expired. -/
def refillDue (s : State) (m : Master) : Bool :=
  match (s.pacing.get m).account with
  | none => false
  | some a => reached s.now a.timer (s.pacing.get m).inForce.interval

/-- An account refilled under a setting, with its next interval begun (R40). DESIGN CHOICE (log 44): where an
arrival and the expiry come together and the refill meets K, the credit depends on which is taken first, as
R38 and R40 give it. -/
def Account.refill (a : Account) (p : PaceSetting) (now : Micros) : Account :=
  { credit := min (a.credit + p.q) p.k, timer := now }

/-- The expiry of a refill timer: a buffered setting is applied with it. -/
def Pace.expire (p : Pace) (a : Account) (now : Micros) : Pace :=
  match p.buffered with
  | none => { p with account := some (a.refill p.inForce now) }
  | some b =>
    if b.paced then { p with inForce := b, buffered := none, account := some (a.refill b now) }
    else { p with inForce := b, buffered := none, account := none }

/-! ### Settings taken at once (R44, R45) -/

/-- The account that a setting begins with: the full cap, where it is PACED. -/
def PaceSetting.newAccount (p : PaceSetting) (now : Micros) : Option Account :=
  if p.paced then some { credit := p.k, timer := now } else none

/-- A setting comes into force with a fresh account. -/
def Pace.take (p : Pace) (setting : PaceSetting) (now : Micros) : Pace :=
  { p with inForce := setting, buffered := none, account := setting.newAccount now }

/-- The delivered setting comes into force (R46). -/
def Pace.resetToDelivered (now : Micros) (p : Pace) : Pace := p.take p.delivered now

/-- A setting that a load delivers (R45, R47). -/
def Pace.deliver (p : Pace) (setting : PaceSetting) (now : Micros) : Pace :=
  { p.take setting now with delivered := setting }

/-! ### PACE_SET (R41) -/

/-- Q and K clamped into their ranges. -/
def PaceSetting.clamp (p : PaceSetting) : PaceSetting :=
  { p with q := clampNat p.q 1 64, k := clampNat p.k 1 1024 }

/-- A setting given to a master: it waits for the next refill where the master is paced, and acts at
once where it is not. -/
def Pace.give (p : Pace) (setting : PaceSetting) (now : Micros) : Pace :=
  if p.account.isSome then { p with buffered := some setting }
  else if setting.paced then p.take setting now
  else p

/-- The fields of a setting: mode, A, B, Q, K. -/
def PaceSetting.fields (p : PaceSetting) : List Field :=
  [byteOf (paceModeCode p.paced), byteOf p.a, byteOf p.b, byteOf p.q, halfOf p.k]

/-- The data of a PACE_SET result (R41). -/
def paceData (m : Master) (p : Pace) : Option (List Word) :=
  pageOne ([byteOf m.num] ++ p.inForce.fields ++ [flagFld p.buffered.isSome] ++
    (match p.buffered with
      | some b => b.fields
      | none => [byteOpt none, byteOpt none, byteOpt none, byteOpt none, halfOpt none]) ++
    [intHalfOpt (p.account.map Account.credit)])

/-- The PACED setting of the parameters. -/
def givenPace (n : Slot) (s : State) : PaceSetting :=
  { paced := true, a := s.paramBits n 1 0 8, b := s.paramBits n 1 8 8, q := s.paramWord n 2,
    k := s.paramWord n 3 }

/-- A PACE_SET that gives master m a setting. -/
def doPaceSet (m : Master) (setting : PaceSetting) (code : ResultCode) (s : State) : Reply :=
  let p := (s.pacing.get m).give setting s.now
  { state := setPace m p s, code := code, data := paceData m p }

/-- The UNPACED setting that a PACE_SET gives: the parameters it holds are free values of their ranges,
which have no effect (log 21). -/
def givenUnpaced (s : State) : PaceSetting :=
  let v := Config.unpacedParam s.now.toNat
  { paced := false, a := v 0 % 8, b := v 1 % 8, q := 1 + v 2 % 64, k := 1 + v 3 % 1024 }

/-- PACE_SET's execution (R41). -/
def runPaceSet (n : Slot) (s : State) : Reply :=
  if s.isSafe then refuse s .refusedState
  else
    match Master.ofNum? (s.paramBits n 0 0 8) with
    | none => refuse s .refusedParam
    | some m =>
      match s.paramBits n 0 8 2 with
      | 1 =>
        let given := givenPace n s
        if 7 < given.a ∨ 7 < given.b then refuse s .refusedParam
        else doPaceSet m given.clamp (if given.clamp = given then .done else .doneAdjusted) s
      | 2 => doPaceSet m (givenUnpaced s) .done s
      | _ => refuse s .refusedParam

/-- An opcode write of PACE_SET. -/
def issuePaceSet (n : Slot) (rest : BitVec 24) (s : State) : State :=
  issueCommand n (opcodeWord 0x31 rest) (runPaceSet n) s

/-- PACE_SET (R41). -/
def execPaceSet (n : Slot) (rest : BitVec 24) (s : State) : Host.Outcome State Fault Refusal :=
  finish (issuePaceSet n rest s)

/-! ### Resets (R46, R47) -/

/-- The Pacing Unit at a cabinet reset or the acceptance of a RELOAD. -/
def resetPacing (s : State) : State := s.setPacing (s.pacing.map (Pace.resetToDelivered s.now))

end Sys2Proof.Machine
end

