-- ==== Sys2Proof/Machine/Control.lean ====
section
/-!
DEFINITION. The Control Decoder (spec/11 sections 11.1 to 11.4): writes of the command page, the
keepalive, the take index, opcodes that name no command.
-/
namespace Sys2Proof.Machine

/-! ### The keepalive (R161, R162) -/

/-- The Control Decoder sends the Robot Guard a keepalive notice. -/
def sendKeepalive (k : KeepaliveMsg) (s : State) : State :=
  s.setMail { s.mail with keepalive := s.mail.keepalive ++ [k] }

/-- A keepalive change to `value` (R162). -/
def keepaliveChange (value : Word) (s : State) : State :=
  let k := { s.keepalive with last := value }
  match k.state with
  | .unarmed => s.setKeepalive k
  | .running => s.setKeepalive { k with timer := some s.now }
  | .lapsed => sendKeepalive .resume (s.setKeepalive { k with state := .running, timer := some s.now })

/-- A write of the keepalive word with all enables set. -/
def keepaliveValue (value : Word) (s : State) : State :=
  if value = s.keepalive.last then s else keepaliveChange value s

/-- KEEPALIVE_SET's execution (R161). -/
def runKeepaliveSet (n : Slot) (s : State) : Reply :=
  let t := s.paramWord n 0
  if s.isSafe then refuse s .refusedState
  else if s.keepalive.state ≠ .unarmed then refuse s .refusedOnce
  else if t < 10 ∨ 10000 < t then refuse s .refusedParam
  else
    { state := s.setKeepalive
        { s.keepalive with state := .running, timeout := some t, timer := some s.now },
      code := .done, data := pageOne [halfOf t] }

/-- An opcode write of KEEPALIVE_SET. -/
def issueKeepaliveSet (n : Slot) (rest : BitVec 24) (s : State) : State :=
  issueCommand n (opcodeWord 0x30 rest) (runKeepaliveSet n) s

/-- The keepalive timer runs and has reached the timeout. -/
def keepaliveDue (s : State) : Bool :=
  decide (s.keepalive.state = .running) &&
    timerDue s.now s.keepalive.timer (s.keepalive.timeout.getD 0 * 1000)

/-- The keepalive lapses (R162). -/
def lapseKeepalive (s : State) : State :=
  sendKeepalive .lapse
    (raise (.keepaliveLapsed (s.keepalive.timeout.getD 0) s.keepalive.last)
      (s.setKeepalive { s.keepalive with state := .lapsed, timer := none }))

/-- KEEPALIVE_LAPSED, where the timer has expired. -/
def keepaliveLapsedEvent (s : State) : State := if keepaliveDue s then lapseKeepalive s else s

/-! ### The take index (R163) -/

/-- A write of the take index with all enables set. -/
def takeIndexValue (value : Word) (s : State) : State :=
  if value.toNat < s.map.ringCapacity then s.setWriter { s.writer with take := value.toNat } else s

/-! ### Opcodes that name no command (R159) -/

/-- An opcode write whose opcode names no command. -/
def issueUnknown (n : Slot) (word : Word) (s : State) : State :=
  issueCommand n word (fun s => refuse s .unknown) s

/-! ### Writes of the command page (R158, R159) -/

/-- The parameter copy of a slot with word i written. -/
def writeParam (n : Slot) (i : Nat) (w : WriteWord) (s : State) : State :=
  let c := s.slots.get n
  s.setSlots (s.slots.set n { c with params := c.params.set i (mergeBytes (c.params.getD i 0) w) })

/-- One word that LINE writes at an offset of the command page. `alone` says that the burst is a single
word; `issue` is what an opcode word does. -/
def pageWord (issue : Slot → Word → State → State) (alone : Bool) (offset : Nat) (w : WriteWord)
    (s : State) : State :=
  let full := decide (w.enables = allEnables)
  if offset = 64 then (if full then keepaliveValue w.data s else s)
  else if offset = 65 then (if full then takeIndexValue w.data s else s)
  else
    match Slot.ofNum? (offset / 16) with
    | none => s
    | some n =>
      if offset % 16 < 14 then writeParam n (offset % 16) w s
      else if offset % 16 = 15 then (if alone && full then issue n w.data s else s)
      else s

/-- The words of a write by LINE from `offset` on, in ascending order. -/
def pageWords (issue : Slot → Word → State → State) (alone : Bool) : Nat → List WriteWord → State → State
  | _, [], s => s
  | offset, w :: ws, s => pageWords issue alone (offset + 1) ws (pageWord issue alone offset w s)

/-- A write admitted in the CONTROL region: the page is not decoded while LOADING, and of LINE's writes
alone. -/
def pageWrite (issue : Slot → Word → State → State) (m : Master) (offset : Nat) (len : BurstLen)
    (ws : List WriteWord) (s : State) : State :=
  if m = .line ∧ s.isLoading = false then pageWords issue (decide (len = .one)) offset ws s else s

/-! ### Resets -/

/-- The keepalive unarmed, its timer stopped and its last value 0 (R162). DESIGN CHOICE (log 48): its
timeout, of which the rule says nothing, is none again too, as at power-on. -/
def resetKeepalive (s : State) : State := s.setKeepalive .reset

/-! ### Meanings -/

/-- KEEPALIVE_SET (R161). -/
def execKeepaliveSet (n : Slot) (rest : BitVec 24) (s : State) : Host.Outcome State Fault Refusal :=
  finish (issueKeepaliveSet n rest s)

/-- KEEPALIVE_WRITE (R162): not decoded while LOADING (R158). -/
def execKeepaliveWrite (value : Word) (s : State) : Host.Outcome State Fault Refusal :=
  finish (if s.isLoading then s else keepaliveValue value s)

/-- KEEPALIVE_LAPSED (R162). -/
def execKeepaliveLapsed (s : State) : Host.Outcome State Fault Refusal := finish (keepaliveLapsedEvent s)

/-- TAKE_INDEX_WRITE (R163): not decoded while LOADING (R158). -/
def execTakeIndexWrite (value : Word) (s : State) : Host.Outcome State Fault Refusal :=
  finish (if s.isLoading then s else takeIndexValue value s)

/-- UNKNOWN_OPCODE (R159): a word whose opcode names a command, or is 0, is no such event. -/
def execUnknownOpcode (n : Slot) (word : Word) (s : State) : Host.Outcome State Fault Refusal :=
  if unknownWf word then finish (issueUnknown n word s) else .refused .malformed

end Sys2Proof.Machine
end

