-- ==== Sys2Proof/Machine/Transit.lean ====
section
/-!
DEFINITION. The Transit Path (spec/01): kind handling, pacing and admission of a request, re-examination,
denial, memory completions, the staging queue's completions, the Service Window's refusal, and RELOAD's
acceptance, which re-examines held requests.
-/
namespace Sys2Proof.Machine

/-! ### Ports and completions (R1, R5, R14) -/

/-- A master port's state replaced. -/
def setMasterPort (m : Master) (p : PortState) (s : State) : State :=
  s.setTransit { s.transit with ports := s.transit.ports.set m p }

/-- A completion is delivered and the port returns to EMPTY. DESIGN CHOICE (log 51): the lane holds the
completion it carried last, so that of two that one step delivers to a master the second alone stands in the
state after it. -/
def deliver (m : Master) (c : Completion) (s : State) : State :=
  s.setTransit { s.transit with ports := s.transit.ports.set m .empty,
                                completions := s.transit.completions.set m (some c) }

/-- Zero data words for a read, none for a write. -/
def zeroData (d : Dir) (len : BurstLen) : List Word :=
  match d with
  | .read => List.replicate len.words 0
  | .write => []

/-- The particulars of a denied request (R30). -/
def particularsOf (r : Request) (cause : DenialCause) (region : Option RegionRef) : Particulars :=
  { cause := cause, dir := r.dir, addr := r.addr, len := r.len, region := region }

/-- A request is denied (R5): its completion, the owner's report of a refusal, the denial count. DESIGN
CHOICE (log 38): the owner's report is raised before the limiter's. -/
def deny (m : Master) (r : Request) (cause : DenialCause) (region : Option RegionRef)
    (report : Option Report) (s : State) : State :=
  let s1 := deliver m { status := .denied, data := zeroData r.dir r.len } s
  let s2 := match report with
    | some rep => raise rep s1
    | none => s1
  countDenial m (particularsOf r cause region) s2

/-! ### Kind handling (R4 step 4, R22 to R26) -/

/-- What the owner of a kind prepares: a refusal with the report that it raises, or the words that go to
memory and the effect that the admission has. -/
inductive Handling where
  | refuse (report : Option Report)
  | accept (words : List WriteWord) (effect : State → State)

/-- A write in the ORDERS region (R105 to R110). -/
def handleOrder (m : Master) (r : Request) (offset : Nat) (s : State) : Handling :=
  if offset < 48 then
    match robotOfOffset offset with
    | none => .accept r.words id
    | some rb =>
      match judgeOrder (s.robot rb) m r.len r.words with
      | .refused reason =>
          .refuse (some (orderRefusedReport rb (s.robot rb) m offset r.words reason))
      | .passed mode => .accept (orderWords rb mode r.words s) (passOrder rb mode r.words)
  else .accept r.words id

/-- A write by its kind (R22). -/
def handleWrite (issue : Slot → Word → State → State) (m : Master) (r : Request) (p : Place)
    (s : State) : Handling :=
  match p.kind with
  | .plain => .accept r.words id
  | .stamped => .accept (stampWords s.clock.stamp p.offset r.words) id
  | .orders => handleOrder m r p.offset s
  | .status =>
      if p.offset < 48 then
        .accept (stampWords s.clock.stamp p.offset r.words) (statusWrite m p.offset r.len r.words)
      else .accept r.words id
  | .verdicts =>
      .accept (stampWords s.clock.stamp p.offset r.words)
        (verdictWrite m r.addr p.offset r.len r.words)
  | .ports => .accept r.words (if m = .switch then decodeMailbox p.offset r.words else id)
  | .control => .accept r.words (pageWrite issue m p.offset r.len r.words)
  | .reports => .refuse none

/-- A request by its direction: reads are refused by no kind and reach memory unchanged. -/
def handle (issue : Slot → Word → State → State) (m : Master) (r : Request) (p : Place) (s : State) :
    Handling :=
  match r.dir with
  | .read => .accept [] id
  | .write => handleWrite issue m r p s

/-! ### Admission (R4) -/

/-- The transaction of an admitted request. -/
def txnOf (r : Request) (p : Place) (words : List WriteWord) : Txn :=
  { dir := r.dir, addr := r.addr, len := r.len, words := words, region := p.region, kind := p.kind,
    offset := p.offset }

/-- Service in flight becomes yes at the admission of a request of SERVICE (R152). -/
def noteAdmission (m : Master) (s : State) : State :=
  if m = .service then setWin { s.window with inFlight := true } s else s

/-- The admission event before the owner's effects: the charge, the port, service in flight. -/
def enterWaiting (m : Master) (t : Txn) (cost : Nat) (s : State) : State :=
  noteAdmission m (setMasterPort m (.waiting t) (setPace m ((s.pacing.get m).charge cost) s))

/-- Steps 5 and 6 of R4. -/
def paceAndAdmit (m : Master) (r : Request) (p : Place) (words : List WriteWord)
    (effect : State → State) (s : State) : State :=
  if (s.pacing.get m).holds then setMasterPort m (.held r) s
  else effect (enterWaiting m (txnOf r p words) (requestCost r.len p.weight) s)

/-- Steps 2 to 6 of R4. -/
def examine (issue : Slot → Word → State → State) (m : Master) (r : Request) (s : State) : State :=
  let p := s.map.place r.addr.toNat
  match deniedRight s.window m r.dir p with
  | some cause => deny m r cause (some p.region) none s
  | none =>
    match handle issue m r p s with
    | .refuse report => deny m r .kind (some p.region) report s
    | .accept words effect => paceAndAdmit m r p words effect s

/-- A HELD request is re-examined (R6). -/
def reexamine (issue : Slot → Word → State → State) (m : Master) (s : State) : State :=
  match s.transit.ports.get m with
  | .held r => examine issue m r s
  | .empty => s
  | .waiting _ => s
  | .inMemory _ => s

/-- Every HELD request is re-examined, in the order of the ports. DESIGN CHOICE (log 42): each is an event of
its own within the one that calls for it, so that a robot it moves has its reports then. -/
def reexamineAll (issue : Slot → Word → State → State) (s : State) : State :=
  masters.foldl (fun s m => reexamine issue m s) s

/-! ### RELOAD (R169) -/

/-- The Service Window is OPEN or DRAINING. -/
def WindowState.inSession : WindowState → Bool
  | .opened => true
  | .draining => true
  | .closed => false
  | .keyed => false

/-- RELOAD is refused. -/
def reloadBarred (s : State) : Bool :=
  s.loader.load.isSome || s.tracker.running || s.window.state.inSession ||
    s.robots.table.toList.any fun e => e.state.working

/-- The resets that the acceptance of a RELOAD makes, and the start of the load. The notices on their way
to the Hall Clock stay (log 40). -/
def reloadResets (s : State) : State :=
  let s1 := (resetPacing s).setRobots s.robots.resetKeepingSettings
  let s2 := s1.setSwitch s.switch.resetKeepingConfig
  let s3 := s2.setTracker s.tracker.resetKeepingConfig
  let s4 := (resetKeepalive s3).setMail { s.mail.dropRobotGuard with cameras := [] }
  let s5 := s4.setWindow { s.window with refusal := false }
  s5.setLoader { s.loader with load := some .reload, cause := .reload }

/-- An opcode write of RELOAD; `reexam` re-examines the HELD requests against the old map (R47). -/
def issueReload (reexam : State → State) (n : Slot) (rest : BitVec 24) (s : State) : State :=
  let word := opcodeWord 0x60 rest
  if s.isLoading then s
  else if (s.slots.get n).awaiting then raise (.commandOverrun n word (s.slots.get n).issued) s
  else
    let s1 := beginIssue n word s
    if reloadBarred s1 then giveResult n .refusedState none s1
    else reexam (reloadResets (giveResult n .done none s1))

/-! ### Opcodes (R159) -/

/-- What an issued command does. -/
def issueInstr (reload : Slot → BitVec 24 → State → State) (i : Instr) (s : State) : State :=
  match i with
  | .robotArm n rest => issueRobotArm n rest s
  | .robotClear n rest => issueRobotClear n rest s
  | .robotHold n rest => issueRobotHold n rest s
  | .robotRelease n rest => issueRobotRelease n rest s
  | .robotEnvelope n rest => issueRobotEnvelope n rest s
  | .robotQuery n rest => issueRobotQuery n rest s
  | .quarantineSet n rest => issueQuarantineSet n rest s
  | .trackStart n rest => issueTrackStart n rest s
  | .trackStop n rest => issueTrackStop n rest s
  | .trackQuery n rest => issueTrackQuery n rest s
  | .timeSet n rest => issueTimeSet n rest s
  | .timeQuery n rest => issueTimeQuery n rest s
  | .keepaliveSet n rest => issueKeepaliveSet n rest s
  | .paceSet n rest => issuePaceSet n rest s
  | .serviceGrant n rest => issueServiceGrant n rest s
  | .serviceExtend n rest => issueServiceExtend n rest s
  | .serviceRevoke n rest => issueServiceRevoke n rest s
  | .switchQuery n rest => issueSwitchQuery n rest s
  | .reload n rest => reload n rest s
  | .unknownOpcode n word => issueUnknown n word s
  | .requestArrival .. | .memoryCompletion .. | .internalWriteCompletion .. | .serviceRefusal
  | .refillExpiry .. | .limiterWindowEnd .. | .hallPulse | .correctionAdjustment | .correctionPeriod
  | .pulseWatchExpiry | .holdoverLimit | .clockSourceNotice | .timeSetLapsed | .switchTimeout
  | .heartbeatTimeout .. | .pickupTimeout .. | .fillTimeout .. | .robotLinkNotice | .fillerCredit
  | .keepaliveNotice | .transferRequest | .robotReturn | .encoderPulse .. | .cameraTrigger ..
  | .cameraOffline | .cameraOnline | .serviceKey .. | .windowTimerExpiry | .serviceLinkLoss
  | .transferAnswer | .keepaliveWrite .. | .keepaliveLapsed | .takeIndexWrite .. | .loadEnd ..
  | .powerOn .. | .cabinetReset => s

/-- The opcode word that LINE writes to a slot: an opcode of 0 issues nothing. -/
def issueOpcode (reload : Slot → BitVec 24 → State → State) (n : Slot) (w : Word) (s : State) : State :=
  match commandOf n w with
  | none => s
  | some i => issueInstr reload i s

/-- Opcodes while a RELOAD re-examines: a further RELOAD is refused there, since a load is in progress. -/
def issueWithin : Slot → Word → State → State := issueOpcode (issueReload id)

/-- RELOAD with its re-examinations. -/
def issueReloadFull : Slot → BitVec 24 → State → State := issueReload (reexamineAll issueWithin)

/-- Opcodes of LINE's admitted writes. -/
def issueFull : Slot → Word → State → State := issueOpcode issueReloadFull

/-! ### Arrival (R1, R3, R4) -/

/-- The arrival of a request: step 1, then the rest. -/
def arrive (m : Master) (r : Request) (s : State) : State :=
  if !requestAligned r then deny m r .alignment none none s
  else if requestCrosses r s.map then deny m r .crossing none none s
  else examine issueFull m r s

/-- A master's lane replaced. -/
def setLane (m : Master) (l : List Request) (s : State) : State :=
  s.setTransit { s.transit with lanes := s.transit.lanes.set m l }

/-- A master presents a request: an EMPTY port with nothing on its lane takes it, otherwise it stays on
the lane behind what waits there (R1). -/
def presentRequest (m : Master) (r : Request) (s : State) : State :=
  match s.transit.ports.get m, s.transit.lanes.get m with
  | .empty, [] => arrive m r s
  | .empty, q :: qs => setLane m (q :: qs ++ [r]) s
  | .held _, l => setLane m (l ++ [r]) s
  | .waiting _, l => setLane m (l ++ [r]) s
  | .inMemory _, l => setLane m (l ++ [r]) s

/-- The event before ends with the arbiter's look, and the request that was next on the lane of `m` is
taken by an EMPTY port; by another it is left on the lane (R1, R10). -/
def takeOrLeave (m : Master) (s : State) (r : Request) : State :=
  presentRequest m r (arbitrate s)

/-- The requests on the lane of `m` are taken while its port is EMPTY. -/
def serveLane (m : Master) (s : State) : State :=
  match s.transit.ports.get m with
  | .empty => (s.transit.lanes.get m).foldl (takeOrLeave m) (setLane m [] s)
  | .held _ => s
  | .waiting _ => s
  | .inMemory _ => s

/-- A port that is EMPTY again takes the next request of its lane at that moment (R1), as an arrival that
follows the event; the ports in ascending order (log 1). -/
def serveLanes (s : State) : State := masters.foldl (fun s m => serveLane m s) s

/-- The end of an event that can deliver a completion: the lanes are served, then the arbiter looks. -/
def finishLanes (s : State) : Host.Outcome State Fault Refusal := finish (serveLanes s)

/-! ### Delivery (R14, R15, R27) -/

/-- The data of an OKAY read as it is delivered. -/
def deliveredData (m : Master) (t : Txn) (data : List Word) (s : State) : List Word :=
  match t.kind with
  | .orders => if m = .robotlink ∧ t.offset < 48 then shownOrders s t.offset data else data
  | .ports => if m = .line then shownMailbox s t.offset data else data
  | .plain => data
  | .stamped => data
  | .status => data
  | .verdicts => data
  | .control => data
  | .reports => data

/-- The step that an owner takes at the delivery of an OKAY read: LINE's read clears latches (R75). -/
def noteRead (m : Master) (t : Txn) (s : State) : State :=
  if m = .line ∧ t.kind = .ports then clearLatchesFrom t.offset t.len.words s else s

/-- The memory port becomes free. -/
def freePort (s : State) : State := s.setTransit { s.transit with memPort := .free }

/-- The end of SERVICE's transaction in flight (R152). -/
def noteDelivery (m : Master) (s : State) : State :=
  if m = .service then settleTest (setWin { s.window with inFlight := false } s) else s

/-- An OKAY answer (R14). -/
def deliverOkay (m : Master) (t : Txn) (data : List Word) (s : State) : State :=
  match t.dir with
  | .write => deliver m { status := .okay, data := [] } s
  | .read => noteRead m t (deliver m { status := .okay, data := deliveredData m t data s } s)

/-- An error answer (R15). -/
def deliverFault (m : Master) (t : Txn) (s : State) : State :=
  raise (.memoryFault m t.dir t.addr t.len t.region)
    (deliver m { status := .fault, data := zeroData t.dir t.len } s)

/-- The memory controller's answer to the transaction of a master port. DESIGN CHOICE (log 39): where the
delivery of a FAULT settles the window, MEMORY_FAULT is raised before SERVICE_STATE. -/
def completeTxn (m : Master) (t : Txn) (ok : Bool) (data : List Word) (s : State) : State :=
  noteDelivery m
    (if ok then deliverOkay m t data (freePort s) else deliverFault m t (freePort s))

/-- The transaction at the memory controller, if a master port's is there. -/
def Transit.current (t : Transit) : Option (Master × Txn) :=
  match t.memPort with
  | .free => none
  | .internal => none
  | .master m =>
    match t.ports.get m with
    | .inMemory x => some (m, x)
    | .empty => none
    | .held _ => none
    | .waiting _ => none

/-- The data of an OKAY answer to a read are as many words as its length (R9). -/
def answerFits (t : Txn) (ok : Bool) (data : List Word) : Bool :=
  match t.dir with
  | .read => !ok || decide (data.length = t.len.words)
  | .write => true

/-! ### Internal writes (R13) -/

/-- The entry that leaves the staging queue: the written index moves, or the slot becomes FREE. -/
def noteLeaving (e : StagingEntry) (s : State) : State :=
  if e.current then
    match e.body with
    | .record _ _ =>
        s.setWriter { s.writer with written := (s.writer.written + 1) % s.map.ringCapacity }
    | .result n _ _ _ _ => setAwaiting n false s
  else s

/-- The head leaves the staging queue: a failed entry counts as one lost record, and a waiting result
joins. -/
def leaveStaging (e : StagingEntry) (rest : List StagingEntry) (s : State) : State :=
  let s1 := noteLeaving e (s.setStaging rest)
  joinWaiting (if e.failed then loseRecord s1 else s1)

/-- The answer to a write of the head entry. -/
def completeInternal (e : StagingEntry) (rest : List StagingEntry) (ok : Bool) (s : State) : State :=
  let e' := { e with failed := e.failed || !ok }
  if e.twoWrites && !e.firstDone && !e.cut then s.setStaging ({ e' with firstDone := true } :: rest)
  else leaveStaging e' rest s

/-- The memory controller's answer to an internal write. -/
def internalAnswer (ok : Bool) (s : State) : State :=
  match s.transit.memPort, s.staging with
  | .internal, e :: rest => completeInternal e rest ok (freePort s)
  | .internal, [] => s
  | .free, _ => s
  | .master _, _ => s

/-! ### The Service Window's refusal (R7, R151) -/

/-- A held SERVICE request is completed DENIED with cause WINDOW. -/
def refuseHeld (s : State) : State :=
  match s.transit.ports.get .service with
  | .held r => deny .service r .window (some (s.map.place r.addr.toNat).region) none s
  | .empty => s
  | .waiting _ => s
  | .inMemory _ => s

/-- SERVICE_REFUSAL, where a refusal is outstanding: the Pacing Unit takes it. -/
def refusalEvent (s : State) : State :=
  if s.window.refusal then
    let s1 := refuseHeld s
    settleTest (setWin { s1.window with refusal := false } s1)
  else s

/-! ### Refill (R40) -/

/-- REFILL_EXPIRY, where it is due: refill, then re-examination. -/
def refillEvent (m : Master) (s : State) : State :=
  let p := s.pacing.get m
  match p.account with
  | none => s
  | some a =>
    if refillDue s m then reexamine issueFull m (setPace m (p.expire a s.now) s) else s

/-! ### Meanings -/

/-- REQUEST_ARRIVAL (R4). -/
def execRequestArrival (m : Master) (r : Request) (s : State) : Host.Outcome State Fault Refusal :=
  if r.wf then finishLanes (presentRequest m r s) else .refused .malformed

/-- MEMORY_COMPLETION (R14); the answer to a request sent before a power-on is discarded (R16). -/
def execMemoryCompletion (origin : AnswerOrigin) (ok : Bool) (data : List Word) (s : State) :
    Host.Outcome State Fault Refusal :=
  match origin, s.transit.current with
  | .beforePowerOn, _ => .next s
  | .current, none => .next s
  | .current, some (m, t) =>
    if answerFits t ok data then finishLanes (completeTxn m t ok data s) else .refused .malformed

/-- INTERNAL_WRITE_COMPLETION (R13); the answer to a write from before a power-on is discarded. -/
def execInternalWriteCompletion (origin : AnswerOrigin) (ok : Bool) (s : State) :
    Host.Outcome State Fault Refusal :=
  match origin with
  | .beforePowerOn => .next s
  | .current => finish (internalAnswer ok s)

/-- SERVICE_REFUSAL (R7). -/
def execServiceRefusal (s : State) : Host.Outcome State Fault Refusal :=
  finishLanes (refusalEvent s)

/-- REFILL_EXPIRY (R40). -/
def execRefillExpiry (m : Master) (s : State) : Host.Outcome State Fault Refusal :=
  finishLanes (refillEvent m s)

/-- RELOAD (R169). -/
def execReload (n : Slot) (rest : BitVec 24) (s : State) : Host.Outcome State Fault Refusal :=
  finishLanes (issueReloadFull n rest s)

end Sys2Proof.Machine
end

