-- ==== Sys2Proof/Machine/Loader.lean ====
section
/-!
DEFINITION. The Configuration Loader (spec/11 sections 11.6, 11.7): the store and its groups, the end of
a load, START, cabinet reset and power-on.
-/
namespace Sys2Proof.Machine

/-! ### The store (R166, spec/11 section 11.9) -/

/-- The store's words as read; those beyond the list's end are 0. -/
abbrev Store := List (BitVec 16)

/-- Word i of the store. -/
def storeWord (ws : Store) (i : Nat) : BitVec 16 := ws.getD i 0

/-- Bits `lo` to `lo + w - 1` of word i, as a number. -/
def storeBits (ws : Store) (i lo w : Nat) : Nat := ((storeWord ws i).extractLsb' lo w).toNat

/-- The length L. -/
def storeLength (ws : Store) : Nat := (storeWord ws 2).toNat

/-- The 16-bit sum of words 0 to L − 1. -/
def storeSum (ws : Store) : BitVec 16 := (ws.take (storeLength ws)).foldl (· + ·) 0

/-- The store is good: it answers, and signature, version, length and sum are right. -/
def storeGood (store : Option Store) : Bool :=
  match store with
  | none => false
  | some ws =>
    decide (storeWord ws 0 = 0x4636 ∧ storeWord ws 1 = 1 ∧ 64 ≤ storeLength ws ∧
      storeLength ws ≤ 2048 ∧ storeSum ws = 0)

/-- The accept code of group g. -/
def acceptCode (ws : Store) (g : Nat) : BitVec 2 := (storeWord ws 3).extractLsb' (2 * g) 2

/-- The last word of group g. -/
def groupEnd (g : Nat) : Nat :=
  match g with
  | 0 => 127
  | 1 => 4
  | 2 => 14
  | 3 => 22
  | 4 => 24
  | 5 => 35
  | 6 => 36
  | _ => 37

/-- The words of group g lie below L − 1. -/
def groupFits (ws : Store) (g : Nat) : Bool := decide (groupEnd g + 1 < storeLength ws)

/-- A good store applies group g. -/
def groupApplied (ws : Store) (g : Nat) : Bool := decide (acceptCode ws g = 1) && groupFits ws g

/-- Group g is coded 01 and its words reach L − 1 or beyond. -/
def groupOverlong (ws : Store) (g : Nat) : Bool := decide (acceptCode ws g = 1) && !groupFits ws g

/-! ### The groups, each with whether a value was settled -/

/-- Region entry i as stored (group 0). -/
def storedEntry (ws : Store) (i : Nat) : RegionEntry :=
  let b := 64 + 4 * i
  { enabled := (storeWord ws b).getLsbD 15, base := (storeWord ws (b + 1)).toNat * 256,
    size := (storeWord ws (b + 2)).toNat * 256, kindCode := (storeWord ws b).extractLsb' 0 4,
    readRights := (storeWord ws (b + 3)).extractLsb' 0 5,
    writeRights := (storeWord ws (b + 3)).extractLsb' 8 5, weight := storeBits ws b 4 3 }

/-- The region group: sixteen entries, validated (R28, R29). -/
def loadRegions (ws : Store) : List RegionEntry × Bool :=
  validateEntries ((List.range 16).map (storedEntry ws))

/-- The open-space group (group 1). -/
def loadOpenSpace (ws : Store) : RightsPair :=
  { read := (storeWord ws 4).extractLsb' 0 5, write := (storeWord ws 4).extractLsb' 8 5 }

/-- The pacing entry of master i as stored (group 2). -/
def storedPace (ws : Store) (i : Nat) : PaceSetting :=
  { paced := (storeWord ws (5 + 2 * i)).getLsbD 15, a := storeBits ws (5 + 2 * i) 8 3,
    b := storeBits ws (5 + 2 * i) 11 3, q := storeBits ws (5 + 2 * i) 0 7,
    k := (storeWord ws (6 + 2 * i)).toNat }

/-- The pacing group as stored. -/
def storedPaces (ws : Store) : PerMaster PaceSetting :=
  ⟨storedPace ws 0, storedPace ws 1, storedPace ws 2, storedPace ws 3, storedPace ws 4⟩

/-- The pacing group, clamped (R45). -/
def loadPaces (ws : Store) : PerMaster PaceSetting × Bool :=
  let stored := storedPaces ws
  let settled := stored.map PaceSetting.clamp
  (settled, decide (settled ≠ stored))

/-- A stored number of a switch port that names none and is not 0. -/
def badPort (n : Nat) : Bool := decide (8 < n)

/-- The robot setup group, settled (group 3, R81). PRESUMED (log 53): the link port of the lowest-numbered
robot of a word stands in its lowest bits. -/
def loadRobots (ws : Store) : RobotSettings × Bool :=
  let port (i lo : Nat) : Nat := storeBits ws i lo 4
  let heartbeat := (storeWord ws 17).toNat
  let pickup := (storeWord ws 18).toNat
  let fill := (storeWord ws 19).toNat
  let limit := (storeWord ws 20).toNat
  let tolerance := (storeWord ws 21).toNat
  let flow := (storeWord ws 22).toNat
  ({ linkPort := ⟨SwPort.ofNum? (port 15 0), SwPort.ofNum? (port 15 4), SwPort.ofNum? (port 15 8),
       SwPort.ofNum? (port 15 12), SwPort.ofNum? (port 16 0), SwPort.ofNum? (port 16 4)⟩,
     heartbeatTimeout := clampNat heartbeat 20 2000, pickupTimeout := clampNat pickup 50 5000,
     fillTimeout := clampNat fill 1 60, limit := min limit 15, tolerance := clampNat tolerance 1 100,
     serviceFlow := min flow 1000 },
   badPort (port 15 0) || badPort (port 15 4) || badPort (port 15 8) || badPort (port 15 12) ||
     badPort (port 16 0) || badPort (port 16 4) ||
     decide (clampNat heartbeat 20 2000 ≠ heartbeat ∨ clampNat pickup 50 5000 ≠ pickup ∨
       clampNat fill 1 60 ≠ fill ∨ 15 < limit ∨ clampNat tolerance 1 100 ≠ tolerance ∨ 1000 < flow))

/-- A camera's fitted flag and switch port. -/
structure CamConfig where
  fitted : Bool
  port : Option SwPort
  deriving DecidableEq, Repr

/-- The camera group, settled (group 4, R117). PRESUMED (log 53): camera 1's port stands in the lowest bits of
word 24. -/
def loadCams (ws : Store) : PerCam CamConfig × Bool :=
  let cam (i : Nat) : CamConfig :=
    { fitted := (storeWord ws 23).getLsbD i, port := SwPort.ofNum? (storeBits ws 24 (4 * i) 4) }
  (⟨cam 0, cam 1, cam 2, cam 3⟩,
   (List.range 4).any fun i => badPort (storeBits ws 24 (4 * i) 4))

/-- The role a code names. -/
def Role.ofCode? (c : Nat) : Option Role :=
  match c with
  | 0 => some .unused
  | 1 => some .uplink
  | 2 => some .timeSource
  | 3 => some .robotLink
  | 4 => some .camera
  | 5 => some .service
  | _ => none

/-- A port's role and burst threshold. -/
structure PortConfig where
  role : Role
  threshold : Nat
  deriving DecidableEq, Repr

/-- The configuration of the switch: its ports and the switch timeout. -/
structure SwitchConfig where
  ports : PerPort PortConfig
  timeout : Nat
  deriving DecidableEq, Repr

/-- The stored role code of port i + 1. PRESUMED (log 53): the lowest-numbered port of a word stands in its
lowest bits. -/
def storedRole (ws : Store) (i : Nat) : Nat := storeBits ws (25 + i / 4) (4 * (i % 4)) 4

/-- The switch group, settled (group 5, R67). -/
def loadSwitch (ws : Store) : SwitchConfig × Bool :=
  let threshold (i : Nat) : Nat := (storeWord ws (27 + i)).toNat
  let port (i : Nat) : PortConfig :=
    { role := (Role.ofCode? (storedRole ws i)).getD .unused, threshold := max (threshold i) 1 }
  let timeout := (storeWord ws 35).toNat
  ({ ports := ⟨port 0, port 1, port 2, port 3, port 4, port 5, port 6, port 7⟩,
     timeout := clampNat timeout 50 5000 },
   ((List.range 8).any fun i => (Role.ofCode? (storedRole ws i)).isNone || decide (threshold i = 0)) ||
     decide (clampNat timeout 50 5000 ≠ timeout))

/-- The Hall Clock group, clamped (group 6, R60). -/
def loadHoldover (ws : Store) : Nat × Bool :=
  let v := (storeWord ws 36).toNat
  (clampNat v 10 3600, decide (clampNat v 10 3600 ≠ v))

/-- The service group, clamped (group 7, R156). -/
def loadDuration (ws : Store) : Nat × Bool :=
  let v := (storeWord ws 37).toNat
  (clampNat v 1 3600, decide (clampNat v 1 3600 ≠ v))

/-! ### What a load delivers (R166, R167) -/

/-- The settings that a load delivers to the blocks. -/
structure Delivery where
  entries : List RegionEntry
  openSpace : RightsPair
  paces : PerMaster PaceSetting
  robots : RobotSettings
  cams : PerCam CamConfig
  switch : SwitchConfig
  holdover : Nat
  maxDuration : Nat
  deriving DecidableEq, Repr

/-- The anchor map and every default: what SAFE gives. -/
def Delivery.anchor : Delivery :=
  { entries := RegionMap.anchor.entries, openSpace := RegionMap.anchor.openSpace, paces := .all .reset,
    robots := .reset, cams := .all { fitted := true, port := none },
    switch := { ports := .all { role := .unused, threshold := 500 }, timeout := 500 },
    holdover := 600, maxDuration := 3600 }

/-- A group's values where it is applied, the default where it is not. -/
def groupOr {α : Type} (ws : Store) (g : Nat) (v d : α) : α := if groupApplied ws g then v else d

/-- What a good store delivers. -/
def Delivery.ofStore (ws : Store) : Delivery :=
  { entries := groupOr ws 0 (loadRegions ws).1 Delivery.anchor.entries,
    openSpace := groupOr ws 1 (loadOpenSpace ws) Delivery.anchor.openSpace,
    paces := groupOr ws 2 (loadPaces ws).1 Delivery.anchor.paces,
    robots := groupOr ws 3 (loadRobots ws).1 Delivery.anchor.robots,
    cams := groupOr ws 4 (loadCams ws).1 Delivery.anchor.cams,
    switch := groupOr ws 5 (loadSwitch ws).1 Delivery.anchor.switch,
    holdover := groupOr ws 6 (loadHoldover ws).1 Delivery.anchor.holdover,
    maxDuration := groupOr ws 7 (loadDuration ws).1 Delivery.anchor.maxDuration }

/-- A value of an applied group was settled. -/
def settledGroup (ws : Store) : Bool :=
  groupOr ws 0 (loadRegions ws).2 false || groupOr ws 2 (loadPaces ws).2 false ||
    groupOr ws 3 (loadRobots ws).2 false || groupOr ws 4 (loadCams ws).2 false ||
    groupOr ws 5 (loadSwitch ws).2 false || groupOr ws 6 (loadHoldover ws).2 false ||
    groupOr ws 7 (loadDuration ws).2 false

/-- A group coded 01 of a good store is not applied for its length. -/
def overlongGroup (ws : Store) : Bool := (List.range 8).any (groupOverlong ws)

/-- The accept code shown for a group whose code is not to be shown: a free value other than 01 (log 7). -/
def hiddenCode (g : Nat) : BitVec 2 := if Config.unappliedCode g = 1 then 0 else Config.unappliedCode g

/-- The accept code of group g as applied (R167). -/
def shownCode (running : Bool) (store : Option Store) (g : Nat) : BitVec 2 :=
  match store with
  | none => hiddenCode g
  | some ws =>
    if storeGood store = false then hiddenCode g
    else if running && groupApplied ws g then 1
    else if acceptCode ws g = 1 then hiddenCode g
    else acceptCode ws g

/-- What the end of a load finds: the condition, what it delivers, ADJUSTED and the codes. -/
structure LoadResult where
  condition : Condition
  delivery : Delivery
  adjusted : Bool
  codes : List (BitVec 2)
  deriving DecidableEq, Repr

/-- The judgement of a load (R166, R167). -/
def judgeLoad (selfCheckPass : Bool) (store : Option Store) : LoadResult :=
  let good := storeGood store
  let running := selfCheckPass && good
  let ws := store.getD []
  { condition := if running then .running else .safe,
    delivery := if running then .ofStore ws else .anchor,
    adjusted := good && (overlongGroup ws || (selfCheckPass && settledGroup ws)),
    codes := (List.range 8).map (shownCode running store) }

/-! ### The settings take effect (R18, R45, R60, R67, R81, R117, R156) -/

/-- The Switch Watch with a new configuration (R67). DESIGN CHOICE (log 52): where a load ends in SAFE, a
switch that became ALIVE while a RELOAD's load ran keeps its state, its running timer and its table, though
R68 has the switch stay UNKNOWN in SAFE. -/
def SwitchWatch.configure (w : SwitchWatch) (c : SwitchConfig) : SwitchWatch :=
  let port (p : SwPort) : PortEntry :=
    { w.table.get p with role := (c.ports.get p).role, threshold := (c.ports.get p).threshold }
  { w with table := ⟨port .p1, port .p2, port .p3, port .p4, port .p5, port .p6, port .p7, port .p8⟩,
           timeout := c.timeout }

/-- A camera of that port is online by the Switch Watch's view (R117). -/
def State.portOnline (s : State) (o : Option SwPort) : Bool :=
  match o with
  | none => true
  | some p => decide ((s.port p).role ≠ .camera) || s.inService p

/-- A camera with a new configuration. -/
def CamConfig.entry (s : State) (c : CamConfig) : CameraEntry :=
  { fitted := c.fitted, port := c.port, online := s.portOnline c.port }

/-- The pacing settings delivered. -/
def deliverPaces (d : PerMaster PaceSetting) (s : State) : State :=
  let p (m : Master) : Pace := (s.pacing.get m).deliver (d.get m) s.now
  s.setPacing ⟨p .line, p .switch, p .camera, p .robotlink, p .service⟩

/-- The new map and the owners' settings take effect together. -/
def applyDelivery (d : Delivery) (s : State) : State :=
  let s1 := deliverPaces d.paces (s.setMap { entries := d.entries, openSpace := d.openSpace })
  let s2 := s1.setSwitch (s.switch.configure d.switch)
  let s3 := s2.setRobots { s.robots with settings := d.robots, limit := d.robots.limit }
  let s4 := s3.setTracker { s.tracker with cameras := d.cams.map (CamConfig.entry s2) }
  let s5 := s4.setClock { s.clock with holdoverLimit := d.holdover }
  s5.setWindow { s.window with maxDuration := d.maxDuration }

/-! ### START (R167, R168) -/

/-- The START report of this moment, with the lost count. -/
def startReport (s : State) : Report :=
  .start s.loader.cause s.loader.selfCheck s.loader.codes s.loader.adjusted s.isSafe s.writer.lost

/-- START is raised as the first record of the ring; lost becomes 0 once its count is in the report. -/
def raiseStart (s : State) : State :=
  raise (startReport s) (s.setWriter { s.writer with lost := 0 })

/-! ### The end of a load (R167) -/

/-- Every parameter copy becomes 0 (R169). -/
def clearParams (s : State) : State :=
  s.setSlots (s.slots.map fun c => { c with params := List.replicate 14 0 })

/-- The timers of a robot judged against the new timeouts (R81). -/
def judgeRobot (r : Robot) (s : State) : State :=
  fillTimeoutEvent r (pickupTimeoutEvent r (heartbeatTimeoutEvent r s))

/-- Running timers are judged against their new timeouts from their original starts (R60, R67, R81). -/
def judgeTimers (s : State) : State := forRobots judgeRobot (switchTimeoutEvent (holdoverLimitEvent s))

/-- The loader at the end of a load. -/
def Loader.ended (l : Loader) (kind : LoadKind) (pass : Bool) (res : LoadResult) : Loader :=
  { l with condition := res.condition, load := none, selfCheck := pass,
           cause := match kind with | .powerOn => .powerOn | .reload => .reload
           codes := res.codes, adjusted := res.adjusted }

/-- The end event of a load, its parts in the order of log 17. DESIGN CHOICE (log 20): a load that ends in
SAFE leaves a robot that was armed while a RELOAD's load ran in its state. DESIGN CHOICE (log 42): a robot that a timer moves and then a HELD
record again has the ROBOT_STATE report of each change as that change leaves it. -/
def endLoad (kind : LoadKind) (pass : Bool) (store : Option Store) (s : State) : State :=
  let res := judgeLoad pass store
  let s1 := applyDelivery res.delivery (s.setLoader (s.loader.ended kind pass res))
  reexamineAll issueFull (judgeTimers (clearParams (raiseStart (resetRing s1))))

/-- LOAD_END, where a load is in progress. -/
def loadEndEvent (pass : Bool) (store : Option Store) (s : State) : State :=
  match s.loader.load with
  | none => s
  | some kind => endLoad kind pass store s

/-! ### Cabinet reset (R17, R168) -/

/-- The staging entries that a cabinet reset keeps: the head, where its write is in memory. -/
def keptStaging (s : State) : List StagingEntry :=
  match s.transit.memPort, s.staging with
  | .internal, e :: _ => [{ e with current := false, cut := true }]
  | .internal, [] => []
  | .free, _ => []
  | .master _, _ => []

/-- The entries and waiting results that a cabinet reset removes. -/
def removedCount (s : State) : Nat :=
  s.staging.length - (keptStaging s).length + s.slots.toList.countP fun c => c.waiting.isSome

/-- The staging queue, the slots, the ring and the pointer at a cabinet reset. DESIGN CHOICE (log 55): a slot
keeps its opcode word at issue, of which R168 says nothing. -/
def resetTraffic (s : State) : State :=
  let s1 := s.setWriter { s.writer with lost := satAdd32 s.writer.lost (removedCount s), put := 0,
                                        written := 0, take := 0, losing := false }
  let s2 := (s1.setStaging (keptStaging s)).setTransit { s.transit with pointer := .service }
  s2.setSlots (s.slots.map fun c =>
    { c with awaiting := false, params := List.replicate 14 0, waiting := none })

/-- The blocks' own cabinet resets (R34, R46, R80, R104, R131, R157, R162). DESIGN CHOICE (log 40): the
Switch Watch's notices on their way to the Hall Clock are not discarded. -/
def resetBlocks (s : State) : State :=
  let s1 := (resetPacing s).setLimiters (.all .reset)
  let s2 := s1.setSwitch s.switch.resetKeepingConfig
  let s3 := s2.setRobots s.robots.resetKeepingSettings
  let s4 := s3.setTracker s.tracker.resetKeepingConfig
  let s5 := s4.setWindow s.window.cabinetReset
  (resetKeepalive s5).setMail
    { s.mail.dropRobotGuard with cameras := [], serviceLoss := [], answers := [] }

/-- START with cause CABINET_RESET, and a RELOAD load abandoned; while LOADING the load runs on. DESIGN CHOICE
(log 43): the self-check shown is that of the last load that ended, not that of a load abandoned. -/
def startAfterReset (s : State) : State :=
  if s.isLoading then s
  else raiseStart (s.setLoader { s.loader with load := none, cause := .cabinetReset })

/-- CRST. -/
def cabinetResetEvent (s : State) : State :=
  reexamineAll issueFull (startAfterReset (resetTraffic (resetBlocks s)))

/-! ### Power-on (R16) -/

/-- The state right after the release of PORST, the requests that waited on the lanes still there. -/
def powerOnEvent (key : Bool) (s : State) : State :=
  { State.reset with
    pending := s.pending, ties := s.ties,
    transit := { Transit.reset with lanes := s.transit.lanes },
    window := { ServiceWindow.reset with key := key, state := idleState key } }

/-! ### Meanings -/

/-- LOAD_END (R167). -/
def execLoadEnd (pass : Bool) (store : Option Store) (s : State) : Host.Outcome State Fault Refusal :=
  if storeWf store then finishLanes (loadEndEvent pass store s) else .refused .malformed

/-- POWER_ON (R16): the requests that waited on the lanes are taken at once, as their ports are EMPTY. -/
def execPowerOn (key : Bool) (s : State) : Host.Outcome State Fault Refusal :=
  finishLanes (powerOnEvent key s)

/-- CABINET_RESET (R168). -/
def execCabinetReset (s : State) : Host.Outcome State Fault Refusal :=
  finishLanes (cabinetResetEvent s)

end Sys2Proof.Machine
end

