-- ==== Sys2Proof/Machine/Flags.lean ====
section
/-!
DEFINITION. The output lines, each a function of the state at the end of an event: GATE (R144), ALARM (R165),
ATTN (R163). The lines PERMIT1 to PERMIT6 (R84) are `permitLine` of the robots' file.
-/
namespace Sys2Proof.Machine

/-- GATE is on while the reject gate is ACTIVE (R144). -/
def gateLine (s : State) : Bool := s.tracker.gateActive

/-- A robot is FAULTED or SILENT. -/
def RobotState.alarming : RobotState → Bool
  | .silent => true
  | .faulted => true
  | .offline => false
  | .starting => false
  | .ready => false
  | .ordered => false
  | .filling => false
  | .held => false

/-- ALARM (R165). The keepalive is LAPSED in the Control Decoder, or in the Robot Guard's view of it
(R96; log 19). -/
def alarmLine (s : State) : Bool :=
  (s.robots.table.toList.any fun e => e.state.alarming) || decide (s.keepalive.state = .lapsed) ||
    s.robots.lapsed || decide (s.clock.state = .drifting) || decide (s.switch.state = .silent) ||
    s.isSafe

/-- ATTN is on while visible records stand in the ring (R163). -/
def attnLine (s : State) : Bool := decide (0 < visible s.map.ringCapacity s.writer)

end Sys2Proof.Machine
end

