-- ==== Sys2Proof/Machine/Dispatch.lean ====
section
/-!
DEFINITION. One command, one meaning: `exec` dispatches each row of spec/opcode_table.json.
-/
namespace Sys2Proof.Machine

/-- The effect of a command on everything but the queue of waiting commands. -/
def exec (i : Instr) (s : State) : Host.Outcome State Fault Refusal :=
  match i with
  | .requestArrival m r => Sys2Proof.Machine.execRequestArrival m r s
  | .memoryCompletion origin ok data => Sys2Proof.Machine.execMemoryCompletion origin ok data s
  | .internalWriteCompletion origin ok => Sys2Proof.Machine.execInternalWriteCompletion origin ok s
  | .serviceRefusal => Sys2Proof.Machine.execServiceRefusal s
  | .refillExpiry m => Sys2Proof.Machine.execRefillExpiry m s
  | .paceSet slot rest => Sys2Proof.Machine.execPaceSet slot rest s
  | .limiterWindowEnd m => Sys2Proof.Machine.execLimiterWindowEnd m s
  | .hallPulse => Sys2Proof.Machine.execHallPulse s
  | .correctionAdjustment => Sys2Proof.Machine.execCorrectionAdjustment s
  | .correctionPeriod => Sys2Proof.Machine.execCorrectionPeriod s
  | .pulseWatchExpiry => Sys2Proof.Machine.execPulseWatchExpiry s
  | .holdoverLimit => Sys2Proof.Machine.execHoldoverLimit s
  | .clockSourceNotice => Sys2Proof.Machine.execClockSourceNotice s
  | .timeSet slot rest => Sys2Proof.Machine.execTimeSet slot rest s
  | .timeSetLapsed => Sys2Proof.Machine.execTimeSetLapsed s
  | .timeQuery slot rest => Sys2Proof.Machine.execTimeQuery slot rest s
  | .switchTimeout => Sys2Proof.Machine.execSwitchTimeout s
  | .switchQuery slot rest => Sys2Proof.Machine.execSwitchQuery slot rest s
  | .heartbeatTimeout r => Sys2Proof.Machine.execHeartbeatTimeout r s
  | .pickupTimeout r => Sys2Proof.Machine.execPickupTimeout r s
  | .fillTimeout r => Sys2Proof.Machine.execFillTimeout r s
  | .robotLinkNotice => Sys2Proof.Machine.execRobotLinkNotice s
  | .fillerCredit => Sys2Proof.Machine.execFillerCredit s
  | .keepaliveNotice => Sys2Proof.Machine.execKeepaliveNotice s
  | .transferRequest => Sys2Proof.Machine.execTransferRequest s
  | .robotReturn => Sys2Proof.Machine.execRobotReturn s
  | .robotArm slot rest => Sys2Proof.Machine.execRobotArm slot rest s
  | .robotClear slot rest => Sys2Proof.Machine.execRobotClear slot rest s
  | .robotHold slot rest => Sys2Proof.Machine.execRobotHold slot rest s
  | .robotRelease slot rest => Sys2Proof.Machine.execRobotRelease slot rest s
  | .robotQuery slot rest => Sys2Proof.Machine.execRobotQuery slot rest s
  | .quarantineSet slot rest => Sys2Proof.Machine.execQuarantineSet slot rest s
  | .robotEnvelope slot rest => Sys2Proof.Machine.execRobotEnvelope slot rest s
  | .encoderPulse d => Sys2Proof.Machine.execEncoderPulse d s
  | .cameraTrigger k => Sys2Proof.Machine.execCameraTrigger k s
  | .cameraOffline => Sys2Proof.Machine.execCameraOffline s
  | .cameraOnline => Sys2Proof.Machine.execCameraOnline s
  | .trackStart slot rest => Sys2Proof.Machine.execTrackStart slot rest s
  | .trackStop slot rest => Sys2Proof.Machine.execTrackStop slot rest s
  | .trackQuery slot rest => Sys2Proof.Machine.execTrackQuery slot rest s
  | .serviceKey level => Sys2Proof.Machine.execServiceKey level s
  | .serviceGrant slot rest => Sys2Proof.Machine.execServiceGrant slot rest s
  | .serviceExtend slot rest => Sys2Proof.Machine.execServiceExtend slot rest s
  | .serviceRevoke slot rest => Sys2Proof.Machine.execServiceRevoke slot rest s
  | .windowTimerExpiry => Sys2Proof.Machine.execWindowTimerExpiry s
  | .serviceLinkLoss => Sys2Proof.Machine.execServiceLinkLoss s
  | .transferAnswer => Sys2Proof.Machine.execTransferAnswer s
  | .keepaliveSet slot rest => Sys2Proof.Machine.execKeepaliveSet slot rest s
  | .keepaliveWrite value => Sys2Proof.Machine.execKeepaliveWrite value s
  | .keepaliveLapsed => Sys2Proof.Machine.execKeepaliveLapsed s
  | .takeIndexWrite value => Sys2Proof.Machine.execTakeIndexWrite value s
  | .unknownOpcode slot word => Sys2Proof.Machine.execUnknownOpcode slot word s
  | .reload slot rest => Sys2Proof.Machine.execReload slot rest s
  | .loadEnd selfCheckPass store => Sys2Proof.Machine.execLoadEnd selfCheckPass store s
  | .powerOn key => Sys2Proof.Machine.execPowerOn key s
  | .cabinetReset => Sys2Proof.Machine.execCabinetReset s

end Sys2Proof.Machine
end

