-- ==== Sys2Proof/Machine/Idle.lean ====
section
/-!
DEFINITION. What the block does on its own when no command waits (log 1, log 2): an expired timer or a
notice on its way is taken; when none is due, one microsecond passes.
-/
namespace Sys2Proof.Machine

/-- An event where it is due. -/
def dueIf (b : Bool) (c : Instr) : List Instr := if b then [c] else []

/-- The timers of the Hall Clock and of the switch that have expired. -/
def dueClock (s : State) : List Instr :=
  dueIf s.clock.adjustmentDue .correctionAdjustment ++ dueIf s.clock.periodDue .correctionPeriod ++
  dueIf s.clock.watchDue .pulseWatchExpiry ++ dueIf s.clock.limitDue .holdoverLimit ++
  dueIf s.clock.lapseDue .timeSetLapsed ++ dueIf (switchTimeoutDue s) .switchTimeout

/-- The timers of a robot that have expired. -/
def dueRobot (s : State) (r : Robot) : List Instr :=
  dueIf (heartbeatDue s r) (.heartbeatTimeout r) ++ dueIf (pickupDue s r) (.pickupTimeout r) ++
  dueIf (fillDue s r) (.fillTimeout r)

/-- The timers of a master that have expired. -/
def dueMaster (s : State) (m : Master) : List Instr :=
  dueIf (refillDue s m) (.refillExpiry m) ++ dueIf (limiterDue s m) (.limiterWindowEnd m)

/-- The oldest message of the Service Window to the Robot Guard. -/
def dueTransfer (s : State) : List Instr :=
  match s.mail.transfers with
  | [] => []
  | .request _ :: _ => [.transferRequest]
  | .giveBack _ :: _ => [.robotReturn]

/-- The oldest notice to the Tracker. -/
def dueCamera (s : State) : List Instr :=
  match s.mail.cameras with
  | [] => []
  | .loss _ :: _ => [.cameraOffline]
  | .back _ :: _ => [.cameraOnline]

/-- The notices on their way. -/
def dueMail (s : State) : List Instr :=
  dueIf (!s.mail.clock.isEmpty) .clockSourceNotice ++
  dueIf (!s.mail.robotLink.isEmpty) .robotLinkNotice ++
  dueIf (!s.mail.credits.isEmpty) .fillerCredit ++
  dueIf (!s.mail.keepalive.isEmpty) .keepaliveNotice ++
  dueTransfer s ++ dueCamera s ++ dueIf (!s.mail.serviceLoss.isEmpty) .serviceLinkLoss ++
  dueIf (!s.mail.answers.isEmpty) .transferAnswer ++ dueIf s.window.refusal .serviceRefusal

/-- Every event of the block's own that is due. -/
def dueEvents (s : State) : List Instr :=
  dueClock s ++ (masters.flatMap (dueMaster s)) ++ (allRobots.flatMap (dueRobot s)) ++
  dueIf (windowTimerDue s) .windowTimerExpiry ++ dueIf (keepaliveDue s) .keepaliveLapsed ++ dueMail s

/-- The choice between `n` events that are due together: a free one (log 2). -/
def choose (s : State) (n : Nat) : Nat := Config.tieBreak s.ties % n

/-- The empty queue: an event that is due is taken, any one of them where several are due; with none due
a microsecond passes. -/
def idle (s : State) : Host.Outcome State Fault Refusal :=
  match dueEvents s with
  | [] => .next (tick s)
  | [c] => exec c s
  | c :: cs => exec (((c :: cs)[choose s (cs.length + 1)]?).getD c) (s.setTies (s.ties + 1))

end Sys2Proof.Machine
end

