-- ==== Sys2Proof/Safety.lean ====
section
/-!
DEFINITION. What claims about the block are stated in: how a step ended, what an event offered to the
Report Writer, how the arbiter looked at its end, and the invariants that every step keeps.
-/
namespace Sys2Proof.Machine

/-! ### How an event ends -/

/-- `t` holds the records of `s` after the reports `rs` were raised in this order, and no others. -/
def Reported (rs : List Report) (s t : State) : Prop :=
  t.staging = (raiseAll rs s).staging ∧ t.writer = (raiseAll rs s).writer

/-- The arbiter looked at the traffic `x` with the staging queue of `t` (R10). -/
def Arbitrated (x : Transit) (t : State) : Prop := t.transit = x.arbitrate t.staging.length

/-- After the reports `rs`, a denial of `m` with the particulars `p` was counted and offered to its
limiter (R30, R31). -/
def Denied (m : Master) (p : Particulars) (rs : List Report) (s t : State) : Prop :=
  t.limiters = (countDenial m p (raiseAll rs s)).limiters ∧
  t.staging = (countDenial m p (raiseAll rs s)).staging ∧
  t.writer = (countDenial m p (raiseAll rs s)).writer

/-- A command with opcode word `word` was issued in slot `n`, raised the reports `rs`, and answered with
`code` and `data` (R159, R160). -/
def Answered (n : Slot) (word : Word) (rs : List Report) (code : ResultCode) (data : Option (List Word))
    (s t : State) : Prop :=
  let a := giveResult n code data (raiseAll rs (beginIssue n word s))
  t.staging = a.staging ∧ t.writer = a.writer ∧ t.slots = a.slots

/-- After the reports `rs` the event left the window `w`; where the three conditions of settling hold in
DRAINING, the window settles by the key level, with its report before its tables are emptied (R153). -/
def Settled (w : ServiceWindow) (rs : List Report) (s t : State) : Prop :=
  let idle : WindowState := if w.key = true then .keyed else .closed
  if w.state = .draining ∧ w.refusal = false ∧ w.inFlight = false ∧
      ∀ r ∈ allRobots, w.robotSet.get r ≠ some .returnSent then
    t.window = { w with state := idle, grants := [], robotSet := .all none } ∧
    Reported (rs ++ [.serviceState .draining idle .settled w.session w.key w.grants w.robotSet]) s t
  else t.window = w ∧ Reported rs s t

/-- Slot `n` is decoded and FREE: an opcode written to it issues a command (R159). -/
def State.takes (s : State) (n : Slot) : Prop :=
  s.loader.condition ≠ .loading ∧ (s.slots.get n).awaiting = false

/-- A completion was delivered to `m` after the reports `rs` of its event: for SERVICE its transaction in
flight is over, and a DRAINING window may settle behind those reports (R152, R153; log 39); for another
master the window stays. -/
def Delivered (m : Master) (rs : List Report) (s t : State) : Prop :=
  if m = .service then Settled { s.window with inFlight := false } rs s t
  else t.window = s.window ∧ Reported rs s t

/-! ### How a request arrives and is admitted -/

/-- No EMPTY port has a request on its lane: a port takes its lane's next request when it returns to EMPTY
(R1). -/
def State.lanesTaken (s : State) : Prop :=
  ∀ m, s.transit.ports.get m = .empty → s.transit.lanes.get m = []

/-- The write `q` of `m` arrives at an EMPTY port, aligned, crossing no bound, in a region of kind `k`,
with its right, and the account of `m`, if it has one, is not in debt: the write passes steps 1 to 3 and
step 5 of R4. -/
structure Rightful (m : Master) (q : Request) (k : RegionKind) (s : State) : Prop where
  shape : q.wf = true
  write : q.dir = .write
  port : s.transit.ports.get m = .empty
  lanes : s.lanesTaken
  aligned : q.addr.toNat % q.len.words = 0
  inside : (s.map.place q.addr.toNat).region = (s.map.place (q.addr.toNat + q.len.words - 1)).region
  kind : (s.map.place q.addr.toNat).kind = k
  right : deniedRight s.window m .write (s.map.place q.addr.toNat) = none
  credit : ∀ a, (s.pacing.get m).account = some a → 0 ≤ a.credit

/-- The Pacing Unit after the admission of the request `q` of `m`: an account is charged the length times the
weight, and an unpaced master nothing (R37, R38). -/
def State.charged (s : State) (m : Master) (q : Request) : PerMaster Pace :=
  s.pacing.set m { s.pacing.get m with
    account := (s.pacing.get m).account.map fun a =>
      { a with credit := a.credit - (q.len.words * (s.map.place q.addr.toNat).weight : Nat) } }

/-- The transaction of the request `q` of kind `k` admitted in `s` with the words `ws` (R4). -/
def State.txn (s : State) (q : Request) (k : RegionKind) (ws : List WriteWord) : Txn :=
  { dir := q.dir, addr := q.addr, len := q.len, words := ws
    region := (s.map.place q.addr.toNat).region, kind := k, offset := (s.map.place q.addr.toNat).offset }

/-- `q` of `m` was admitted: its port is WAITING with the words `ws`, and the arbiter looked. -/
def Admitted (m : Master) (q : Request) (k : RegionKind) (ws : List WriteWord) (s t : State) : Prop :=
  Arbitrated { s.transit with ports := s.transit.ports.set m (.waiting (s.txn q k ws)) } t

/-- The words `ws` of a write at offset `o`, as `ws'` with the stamp `st` at the offsets 6 and 7 of the
8-word records (R26). -/
def Stamped (st : Stamp) (o : Nat) (ws ws' : List WriteWord) : Prop :=
  ws'.length = ws.length ∧
  ∀ (i : Nat) (w : WriteWord), ws[i]? = some w →
    ws'[i]? = some
      (if (o + i) % 8 = 6 then { data := st.wordA, enables := 0b1111 }
       else if (o + i) % 8 = 7 then { data := st.wordB, enables := 0b1111 }
       else w)

/-- `t` is `s` after REQUEST_ARRIVAL of each of the requests in turn at the port of `m`. -/
def Presented (m : Master) : List Request → State → State → Prop
  | [], s, t => t = s
  | r :: rs, s, t => ∃ u, exec (.requestArrival m r) s = .next u ∧ Presented m rs u t

/-- `t` is `s` after REQUEST_ARRIVAL, at the port of `m` as it is in `s`, of a one-word write of each of the
words in turn, from address `a` on; the traffic and the accounts stay those of `s`. -/
def WordByWord (m : Master) : Nat → List WriteWord → State → State → Prop
  | _, [], s, t => t = s
  | a, w :: ws, s, t =>
      ∃ u, exec (.requestArrival m
          { dir := .write, addr := BitVec.ofNat 24 a, len := .one, words := [w] }) s = .next u ∧
        WordByWord m (a + 1) ws { u with transit := s.transit, pacing := s.pacing } t

/-- The status record `q` of ROBOTLINK in robot r's slot was admitted, charged and stamped, and the event left
the robot's entry `e'`, raised the reports `rs` in this order and sent the answers `as` to the Service
Window; nothing else changed but what the arbiter granted (R26, R85). -/
def StatusTaken (q : Request) (r : Robot) (e' : RobotEntry) (rs : List Report) (as : List TransferReply)
    (s : State) : Prop :=
  ∃ t ws, exec (.requestArrival .robotlink q) s = .next t ∧
    Stamped s.clock.stamp (8 * (r.num - 1)) q.words ws ∧ Admitted .robotlink q .status ws s t ∧
    t = { s with
      pacing := s.charged .robotlink q
      robots := { s.robots with table := s.robots.table.set r e' }
      mail := { s.mail with answers := s.mail.answers ++ as }
      staging := t.staging, writer := t.writer, transit := t.transit } ∧
    Reported rs s t

/-- T as an accepted pulse captures it: an adjustment that is due and withholds its microsecond is
dropped where the new period begins first, and T gets the microsecond (R50, log 5). -/
def Clock.captured (k : Clock) : Micros :=
  if k.c < 0 ∧ k.adjustments < k.c.natAbs ∧
      (k.adjustments + 1) * (1000000 / k.c.natAbs) ≤ (k.m - k.periodStart).toNat
  then k.t + 1 else k.t

/-- A trusted pulse is accepted (R53): the first, or 999,000 µs of M or more after the last one. -/
def Clock.spaced (k : Clock) : Prop :=
  ∀ l, k.lastAccepted = some l → l.past = true ∨ 999000 ≤ (k.m - l.start).toNat

/-! ### Re-examinations (R17, R47) -/

/-- With one request `r` HELD, at a port that is EMPTY in `s`, the command `c` does what it does from `s`, and
then `r` is examined anew: the event goes on as REQUEST_ARRIVAL of `r` at the EMPTY port, against the map, the
accounts and the blocks that `c` leaves, before the arbiter looks at the traffic, which is `x`. Step 1 of R4,
which `r` has passed, is not repeated. -/
def ReexaminesHeld (c : Instr) (x : Transit) (s : State) : Prop :=
  ∀ (m : Master) (r : Request) (u : State),
    s.transit.ports.get m = .empty → r.wf = true → r.addr.toNat % r.len.words = 0 →
    exec c s = .next u →
    (u.map.place r.addr.toNat).region = (u.map.place (r.addr.toNat + r.len.words - 1)).region →
    exec c { s with transit := { s.transit with ports := s.transit.ports.set m (.held r) } } =
      exec (.requestArrival m r) { u with transit := x }

/-! ### The decisions of one pulse (R124, R138) -/

/-- The head `b` of the queue of `t`, with `rest` behind it, is decided at the P of `t` (R137 to R142),
which leaves the Tracker `u`, raises `rs` and sends the credits `cs`. An AWAITED slot is one without a verdict
(the model's choice, log 54). -/
def HeadDecided (k : TrackParams) (b : Bottle) (rest : List Bottle) (t u : Tracker) (rs : List Report)
    (cs : List Credit) : Prop :=
  ∃ (v : Verdict) (reason : DecisionReason) (credit : Option Credit) (off : Pos),
    (if 0 < b.overrun then v = .reject ∧ reason = .overrun
     else if (b.cams.toList.any fun c => match c with | .reject .. => true | _ => false) then
       v = .reject ∧ reason = .verdict
     else if (b.cams.toList.any fun c =>
         match c with
         | .missed => true | .shot .. => true | .noVerdict .. => true | .awaited => true | _ => false)
     then
       v = (match k.action with | .reject => .reject | .pass => .pass) ∧ reason = .noVerdict
     else v = .pass ∧ reason = .verified) ∧
    credit =
      (match reason with
        | .verdict => (b.cams.toList.findSome? CamSlot.rejectFiller).map Credit.reject
        | .verified => (b.cams.toList.findSome? CamSlot.passFiller).map Credit.pass
        | .noVerdict => none
        | .overrun => none) ∧
    off =
      (match v with
        | .pass => t.offPos
        | .reject =>
          let n := posAdd t.pos (k.gateLength + b.overrun * k.pitch)
          if t.gateActive = true ∧ ¬ 0 < posDelta n t.offPos then t.offPos else n) ∧
    u = { t with
      queue := rest, offPos := off, gateActive := t.gateActive || decide (v = .reject)
      counters := match v with
        | .pass => { t.counters with passed := t.counters.passed + 1 }
        | .reject => { t.counters with rejected := t.counters.rejected + 1 }
      passCredits := match credit with
        | some (.pass r) => t.passCredits.set r (t.passCredits.get r + 1)
        | _ => t.passCredits
      rejectCredits := match credit with
        | some (.reject r) => t.rejectCredits.set r (t.rejectCredits.get r + 1)
        | _ => t.rejectCredits } ∧
    rs =
      (match v with
        | .pass => []
        | .reject => [.bottleRejected b.number reason b.overrun b.cams (creditFiller credit)
            (b.reportedDefect reason) b.p0 off]) ∧
    cs = credit.toList

/-- P has reached the bottle's reject point (R124). -/
def Bottle.reached (b : Bottle) (k : TrackParams) (p : Pos) : Prop :=
  0 ≤ posDelta p (posAdd b.p0 k.rejectOffset)

/-- The decisions of one pulse: while the head's reject point is reached, the head is decided, in queue
order, each from the Tracker that the one before left (R124 step 2, R138). -/
inductive HeadsDecided (k : TrackParams) : Tracker → Tracker → List Report → List Credit → Prop where
  | rest (t : Tracker) : (∀ b, t.queue.head? = some b → ¬ b.reached k t.pos) → HeadsDecided k t t [] []
  | head (t u w : Tracker) (b : Bottle) (bs : List Bottle) (rs rs' : List Report)
      (cs cs' : List Credit) :
      t.queue = b :: bs → b.reached k t.pos → HeadDecided k b bs t u rs cs →
      HeadsDecided k u w rs' cs' → HeadsDecided k t w (rs ++ rs') (cs ++ cs')

/-! ### A load's region group (R28) -/

/-- `es` are the sixteen entries of the store's region group as loaded (spec/11 section 11.9): each as its
four words from word 64 on say, but disabled where it is stored so or breaks a condition of R28 against
the entries of lower index loaded enabled. -/
def RegionsLoaded (ws : Store) (es : List RegionEntry) : Prop :=
  es.length = 16 ∧
  ∀ i, i < 16 → ∃ e, es[i]? = some e ∧
    let w (j : Nat) : BitVec 16 := storeWord ws (64 + 4 * i + j)
    let code := e.kindCode.toNat
    let lower (y : RegionEntry) : Prop := (∃ j, j < i ∧ es[j]? = some y) ∧ y.enabled = true
    e = { enabled := e.enabled, kindCode := (w 0).extractLsb' 0 4
          weight := ((w 0).extractLsb' 4 3).toNat, base := 256 * (w 1).toNat
          size := 256 * (w 2).toNat, readRights := (w 3).extractLsb' 0 5
          writeRights := (w 3).extractLsb' 8 5 } ∧
    (e.enabled = true ↔ (w 0).getLsbD 15 = true ∧
      ¬ (16777216 < e.base + e.size ∨ e.size = 0 ∨ code = 0 ∨ 8 < code ∨ e.weight = 0 ∨ 4 < e.weight ∨
        (∃ y a, lower y ∧ (e.base ≤ a ∧ a < e.base + e.size) ∧ (y.base ≤ a ∧ a < y.base + y.size)) ∨
        (3 ≤ code ∧ ∃ y, lower y ∧ y.kindCode = e.kindCode) ∨
        (code ∈ [3, 4, 6, 8] ∧ e.size < 256) ∨ (code = 7 ∧ e.size ≠ 256)))

/-! ### Invariants: what every step keeps -/

/-- The port of `m` has a transaction at the memory controller (R1). -/
def State.inMemoryAt (s : State) (m : Master) : Prop := ∃ x, s.transit.ports.get m = .inMemory x

/-- The traffic is consistent and the memory port is never idle while there is work: a master port is
IN_MEMORY exactly where the memory port carries it (R9), the internal writer writes the head of a queue
that is not empty (R12), a free memory port leaves no port WAITING and nothing in the staging queue
(R10), the queue holds at most eight entries, a result waits outside it only while it is full (R11), and no EMPTY
port has a request on its lane (R1). -/
structure TrafficInv (s : State) : Prop where
  carried : ∀ m, s.inMemoryAt m ↔ s.transit.memPort = .master m
  writing : s.transit.memPort = .internal → s.staging ≠ []
  idle : s.transit.memPort = .free →
    s.staging = [] ∧ ∀ m x, s.transit.ports.get m ≠ .waiting x
  room : s.staging.length ≤ 8
  full : ∀ n, (s.slots.get n).waiting ≠ none → s.staging.length = 8
  lanes : s.lanesTaken

/-- The Bottle Queue and the reject gate: at most 64 entries with consecutive numbers up to the next one
(R120), the equality of the counters modulo 2^32 (R128), and STOPPED leaves the queue empty and the gate
IDLE (R129, R144); RUNNING only in RUNNING with no load in progress (R118, R169), with parameters that
passed TRACK_START (R118). -/
structure TrackerInv (s : State) : Prop where
  room : s.tracker.queue.length ≤ 64
  numbered : ∀ i b, s.tracker.queue[i]? = some b →
    b.number + BitVec.ofNat 16 (s.tracker.queue.length - i) = s.tracker.nextBottle
  counted : s.tracker.counters.accepted = s.tracker.counters.passed + s.tracker.counters.rejected +
    s.tracker.counters.dropped + BitVec.ofNat 32 s.tracker.queue.length
  stopped : s.tracker.running = false → s.tracker.queue = [] ∧ s.tracker.gateActive = false
  condition : s.tracker.running = true → s.loader.condition = .running ∧ s.loader.load = none
  loading : s.loader.condition = .loading → s.loader.load ≠ none
  params : s.tracker.running = true → ∃ k, s.tracker.params = some k ∧ 16 ≤ k.pitch ∧
    k.pitch ≤ 4096 ∧ 1 ≤ k.window ∧ k.window < k.pitch / 2 ∧ 1 ≤ k.gateLength ∧
    k.gateLength ≤ k.pitch ∧ k.rejectOffset ≤ 4194304

/-- The map in force: sixteen entries; each enabled one of a known kind, of weight 1 to 4 and inside the
address space; no two enabled ones sharing a word; at most one enabled entry of each of ORDERS, STATUS,
VERDICTS, PORTS, CONTROL and REPORTS; and an enabled CONTROL entry that LINE alone may write, and an
enabled REPORTS entry (R18, R28, R29). -/
structure MapInv (s : State) : Prop where
  sixteen : s.map.entries.length = 16
  valid : ∀ e ∈ s.map.entries, e.enabled = true →
    RegionKind.ofCode? e.kindCode ≠ none ∧ 0 < e.size ∧ e.base + e.size ≤ 16777216 ∧
    1 ≤ e.weight ∧ e.weight ≤ 4
  apart : s.map.entries.Pairwise fun a b => a.enabled = true → b.enabled = true →
    a.base + a.size ≤ b.base ∨ b.base + b.size ≤ a.base
  single : ∀ (i j : Nat) (a b : RegionEntry) (k : RegionKind),
    s.map.entries[i]? = some a → s.map.entries[j]? = some b → a.enabled = true → b.enabled = true →
    k ∈ [.orders, .status, .verdicts, .ports, .control, .reports] →
    RegionKind.ofCode? a.kindCode = some k → RegionKind.ofCode? b.kindCode = some k → i = j
  control : ∃ e, s.map.entryOf .control = some e ∧ e.size = 256 ∧ e.writeRights = 0b00001
  reports : ∃ e, s.map.entryOf .reports = some e ∧ 256 ≤ e.size

/-- A setting whose parameters lie in their ranges, where it is PACED (spec/03 section 3.1). -/
def PaceSetting.inRange (p : PaceSetting) : Prop :=
  p.paced = true → p.a ≤ 7 ∧ p.b ≤ 7 ∧ 1 ≤ p.q ∧ p.q ≤ 64 ∧ 1 ≤ p.k ∧ p.k ≤ 1024

/-- Pacing: every setting in range, an account exactly where the setting in force is PACED, and its
credit between −32 and K (R35). -/
structure PacingInv (s : State) : Prop where
  inForce : ∀ m, (s.pacing.get m).inForce.inRange
  delivered : ∀ m, (s.pacing.get m).delivered.inRange
  buffered : ∀ m p, (s.pacing.get m).buffered = some p → p.inRange
  account : ∀ m, (s.pacing.get m).account.isSome = (s.pacing.get m).inForce.paced
  credit : ∀ m a, (s.pacing.get m).account = some a →
    -32 ≤ a.credit ∧ a.credit ≤ (s.pacing.get m).inForce.k

/-- What holds of one robot's entry: its envelope in range and ordered (R111, R112), Fp at most 1000 and
0 outside ORDERED and FILLING (R82), the run at most 15, the timers running in their states (R83), a fill
record exactly in FILLING (R87), a hold cause only in HELD, STARTING and SILENT and always in HELD, a
fault cause exactly in FAULTED (R82), a FILL order of at most 30,000 in ORDERED, and a transfer pending
only for a LINE-owned robot that is neither READY nor OFFLINE (R102). -/
structure RobotEntry.Inv (e : RobotEntry) : Prop where
  volumes : e.envelope.vmin ≤ e.envelope.vmax ∧ e.envelope.vmax ≤ 30000
  heights : e.envelope.hmin ≤ e.envelope.hmax ∧ e.envelope.hmax ≤ 500
  flows : e.envelope.fmax ≤ 1000 ∧ 1 ≤ e.envelope.fstep ∧ e.envelope.fstep ≤ 1000
  flow : e.fp ≤ 1000
  still : e.state ∉ [.ordered, .filling] → e.fp = 0
  run : e.run ≤ 15
  heartbeat : e.heartbeatTimer ≠ none ↔ e.state ∈ [.starting, .ready, .ordered, .filling, .held]
  pickup : e.pickupTimer ≠ none ↔ e.state = .ordered
  fill : e.fillTimer ≠ none ↔ e.state = .filling
  record : e.fillRecord ≠ none ↔ e.state = .filling
  held : e.state = .held → e.hold ≠ none
  causes : e.hold ≠ none → e.state ∈ [.held, .starting, .silent]
  fault : e.fault ≠ none ↔ e.state = .faulted
  ordered : e.state = .ordered → ∃ tag v, e.order = some ⟨tag, .fill, some v⟩
  order : ∀ o, e.order = some o → (o.volume ≠ none ↔ o.mode = .fill) ∧ ∀ v, o.volume = some v → v ≤ 30000
  pending : e.transferPending = true → e.owner = .line ∧ e.state ∉ [.ready, .offline]

/-- Every robot's entry is as above, and the settings that bound a run and a flow are in range (R81). -/
structure RobotsInv (s : State) : Prop where
  robots : ∀ r, (s.robots.table.get r).Inv
  limit : s.robots.limit ≤ 15 ∧ s.robots.settings.limit ≤ 15
  serviceFlow : s.robots.settings.serviceFlow ≤ 1000

/-- The Hall Clock: F and C in their bounds (R54), the runs below their turning points (R55, R56), the
pulse watch running exactly in LOCKING and LOCKED (R58), the entry to HOLDOVER kept exactly in HOLDOVER
and DRIFTING, where C is F (R58, R64), no more adjustments in a period than |C| (R50), and the limits of a pending set
and of the holdover in their ranges (R60, R61). -/
structure ClockInv (s : State) : Prop where
  f : -200 ≤ s.clock.f ∧ s.clock.f ≤ 200
  c : -500 ≤ s.clock.c ∧ s.clock.c ≤ 500
  lockRun : s.clock.lockRun ≤ 8 ∧ (s.clock.state = .locking → s.clock.lockRun < 8)
  outlierRun : s.clock.outlierRun ≤ 2
  watch : s.clock.pulseWatch ≠ none ↔ s.clock.state ∈ [.locking, .locked]
  holdover : s.clock.holdoverStart ≠ none ↔ s.clock.state ∈ [.holdover, .drifting]
  coasting : s.clock.state ∈ [.holdover, .drifting] → s.clock.c = s.clock.f
  adjustments : s.clock.adjustments ≤ s.clock.c.natAbs
  pending : ∀ p, s.clock.pendingSet = some p → p.seconds ≤ 281474975
  limit : 10 ≤ s.clock.holdoverLimit ∧ s.clock.holdoverLimit ≤ 3600

/-- The Service Window: CLOSED with the key off, KEYED and OPEN with it on (R145, R150); a deadline
exactly in OPEN, grants and a robot set only in a session, at most four grants (R146); a refusal only in
DRAINING (R151); a session only in RUNNING with no load in progress (R146, R169). -/
structure WindowInv (s : State) : Prop where
  closed : s.window.state = .closed → s.window.key = false
  keyed : s.window.state = .keyed → s.window.key = true
  opened : s.window.state = .opened → s.window.key = true
  deadline : s.window.deadline ≠ none ↔ s.window.state = .opened
  few : s.window.grants.length ≤ 4
  session : s.window.state ∉ [.opened, .draining] →
    s.window.grants = [] ∧ ∀ r, s.window.robotSet.get r = none
  refusal : s.window.refusal = true → s.window.state = .draining
  condition : s.window.state ∈ [.opened, .draining] →
    s.loader.condition = .running ∧ s.loader.load = none
  loading : s.loader.condition = .loading → s.loader.load ≠ none

/-- The robot a message of the Service Window names. -/
def TransferMsg.robot : TransferMsg → Robot
  | .request r => r
  | .giveBack r => r

/-- The messages to the Robot Guard about robot r that are not yet taken, oldest first. -/
def State.messagesFor (s : State) (r : Robot) : List TransferMsg :=
  s.mail.transfers.filter fun x => decide (x.robot = r)

/-- Robot r is LINE's, and no transfer of it is pending. -/
def State.atHome (s : State) (r : Robot) : Prop :=
  (s.robots.table.get r).owner = .line ∧ (s.robots.table.get r).transferPending = false

/-- Robot r is of the robot set of a session, OPEN or DRAINING. -/
def State.inSet (s : State) (r : Robot) : Prop :=
  s.window.state ∈ [.opened, .draining] ∧ s.window.robotSet.get r ≠ none

/-- Ownership (R102, R103, R147, R151): a robot outside the set of a session is at home with no message
about it on its way; in OPEN its request is on its way and it is at home, or it is SERVICE's or pending;
in DRAINING its return is on its way, behind its request or with the robot SERVICE's or pending, or it is
at home with the return taken. -/
structure OwnershipInv (s : State) : Prop where
  outside : ∀ r, ¬ s.inSet r → s.messagesFor r = [] ∧ s.atHome r
  opened : ∀ r, s.inSet r → s.window.state = .opened →
    (s.messagesFor r = [.request r] ∧ s.atHome r) ∨ (s.messagesFor r = [] ∧ ¬ s.atHome r)
  draining : ∀ r, s.inSet r → s.window.state = .draining →
    (s.window.robotSet.get r = some .returnSent ∧
      ((s.messagesFor r = [.request r, .giveBack r] ∧ s.atHome r) ∨
        (s.messagesFor r = [.giveBack r] ∧ ¬ s.atHome r))) ∨
    (s.window.robotSet.get r ≠ some .returnSent ∧ s.messagesFor r = [] ∧ s.atHome r)

end Sys2Proof.Machine
end

