-- ==== Sys2Proof/Certificates/Slice0/Obligations.lean ====
section
/-!
DEFINITION. The statements for the provers: what the commands and the shared operations do, by the
numbered rules of spec/, and the invariants that every step keeps.
-/
open Sys2Proof Sys2Proof.Machine

/-- For every command c, queue rest and state s: step of s with c at the front of its queue is exec
of c on s with the rest as its queue. The queue is the model's interface, not the spec's (log 1).
Rests on section 95 (spec/95_what_each_step_holds.md). -/
def Obligations.StepRunsFrontCommand : Prop :=
  ∀ (c : Instr) (rest : List Instr) (s : State),
    step { s with pending := c :: rest } = exec c { s with pending := rest }

/-- If no command waits and no timer or notice of the block is due, step answers next with M
advanced by one modulo 2^48 and T with it, except that T stands at a microsecond that a negative
correction withholds: an adjustment point among the first |c| of the period, each K_c = 1,000,000 /
|c| microseconds. Nothing else changes but a mark of the model's own: the moments it remembers on M
are marked past where M comes round to them (log 18, the model's choice). That a step on an empty
queue is a microsecond is the model's choice too (log 1). Rests on section 4.1
(spec/04_hall_clock.md), section 4.2 (spec/04_hall_clock.md). -/
def Obligations.IdleStepTicks : Prop :=
  ∀ s : State, s.pending = [] → dueEvents s = [] →
    let now := s.clock.m + 1
    step s = .next { s with
      clock := { s.clock with
        m := now
        t := if s.clock.c < 0 ∧ s.clock.adjustments < s.clock.c.natAbs ∧
                (s.clock.adjustments + 1) * (1000000 / s.clock.c.natAbs) ≤
                  (now - s.clock.periodStart).toNat
             then s.clock.t else s.clock.t + 1
        lastAccepted := s.clock.lastAccepted.map (Moment.pass now)
        holdoverStart := s.clock.holdoverStart.map (Moment.pass now)
        lastReplaced := s.clock.lastReplaced.map (Moment.pass now) }
      switch := { s.switch with lastHeartbeat := s.switch.lastHeartbeat.map (Moment.pass now) }
      robots := { s.robots with
        table := s.robots.table.map fun e =>
          { e with lastValid := e.lastValid.map (Moment.pass now) } } }

/-- REQUEST_ARRIVAL at an EMPTY port, no EMPTY port having a request on its lane, is denied: with
cause ALIGNMENT and region none where the address is no multiple of the length, before any lookup;
else, crossing no bound, with cause WINDOW for SERVICE while DRAINING; with cause RIGHTS where the
master is not in the rights set and, for SERVICE while OPEN, no grant names the region for the
direction; with cause KIND for a write to a REPORTS region that passes step 3. The completion is
DENIED with zero read data, the port EMPTY, the denial counted; nothing else changes but what the
arbiter grants. Rests on section 1.2 (spec/01_transit_path.md), section 1.3
(spec/01_transit_path.md), section 2.2 (spec/02_region_map_and_in_flight_rewriting.md), section 2.3
(spec/02_region_map_and_in_flight_rewriting.md). -/
def Obligations.RequestDeniedAtStepsOneThreeAndFour : Prop :=
  ∀ (m : Master) (r : Request) (s : State) (cause : DenialCause) (region : Option RegionRef),
    r.wf = true → s.transit.ports.get m = .empty → s.lanesTaken →
    ((¬ r.addr.toNat % r.len.words = 0 ∧ cause = .alignment ∧ region = none) ∨
     (r.addr.toNat % r.len.words = 0 ∧
      (s.map.place r.addr.toNat).region = (s.map.place (r.addr.toNat + r.len.words - 1)).region ∧
      region = some (s.map.place r.addr.toNat).region ∧
      ((cause = .window ∧ m = .service ∧ s.window.state = .draining) ∨
       (cause = .rights ∧ ¬ (m = .service ∧ s.window.state = .draining) ∧
        inRights ((s.map.place r.addr.toNat).rights.forDir r.dir) m = false ∧
        (m = .service → s.window.state = .opened →
          ∀ g ∈ s.window.grants, (s.map.place r.addr.toNat).region = .entry g.region →
            r.dir = .write ∧ g.rw = false)) ∨
       (cause = .kind ∧ r.dir = .write ∧ (s.map.place r.addr.toNat).kind = .reports ∧
        deniedRight s.window m .write (s.map.place r.addr.toNat) = none)))) →
    ∃ t, exec (.requestArrival m r) s = .next t ∧
      t = { s with limiters := t.limiters, staging := t.staging, writer := t.writer,
                   transit := t.transit } ∧
      Denied m { cause := cause, dir := r.dir, addr := r.addr, len := r.len, region := region } []
        s t ∧
      Arbitrated { s.transit with
        completions := s.transit.completions.set m
          (some { status := .denied, data := zeroData r.dir r.len }) } t

/-- REQUEST_ARRIVAL at an EMPTY port, no EMPTY port having a request on its lane, of an aligned
request that crosses no bound, has its right, whose master is unpaced or has credit of at least 0,
and which is a read in a region of any kind or open space, a write in a PLAIN region or open space,
or a write of an ORDERS region from offset 48 on: the step answers next; the port is WAITING with
the words as presented, none for a read; a paced account is charged length times weight; service in
flight becomes yes for SERVICE; nothing else changes but what the arbiter grants. Rests on section
1.3 (spec/01_transit_path.md), section 2.3 (spec/02_region_map_and_in_flight_rewriting.md), section
3.3 (spec/03_memory_port_pacing.md), section 2.2 (spec/02_region_map_and_in_flight_rewriting.md),
section 7.1 (spec/07_fill_order_guard.md). -/
def Obligations.PlainRequestIsAdmitted : Prop :=
  ∀ (m : Master) (r : Request) (s : State),
    r.wf = true → s.transit.ports.get m = .empty → s.lanesTaken →
    r.addr.toNat % r.len.words = 0 →
    (s.map.place r.addr.toNat).region = (s.map.place (r.addr.toNat + r.len.words - 1)).region →
    (r.dir = .read ∨ (s.map.place r.addr.toNat).kind = .plain ∨
      ((s.map.place r.addr.toNat).kind = .orders ∧ 48 ≤ (s.map.place r.addr.toNat).offset)) →
    deniedRight s.window m r.dir (s.map.place r.addr.toNat) = none →
    (∀ a, (s.pacing.get m).account = some a → 0 ≤ a.credit) →
    ∃ t, exec (.requestArrival m r) s = .next t ∧
      t = { s with
        pacing := s.pacing.set m { s.pacing.get m with
          account := (s.pacing.get m).account.map fun a =>
            { a with credit := a.credit - (r.len.words * (s.map.place r.addr.toNat).weight : Nat) } }
        window := { s.window with inFlight := s.window.inFlight || decide (m = .service) }
        transit := t.transit } ∧
      Arbitrated { s.transit with
        ports := s.transit.ports.set m
          (.waiting { dir := r.dir, addr := r.addr, len := r.len, words := r.words
                      region := (s.map.place r.addr.toNat).region
                      kind := (s.map.place r.addr.toNat).kind
                      offset := (s.map.place r.addr.toNat).offset }) } t

/-- REQUEST_ARRIVAL, no EMPTY port having a request on its lane. At an EMPTY port, an aligned
request that crosses no bound, has its right and is accepted at step 4 by the owner of any kind,
whose master's account has a credit below 0: the port is HELD and nothing else changes but what the
arbiter grants: no charge, no stamp, no owner's effect. At a port that is HELD, WAITING or
IN_MEMORY: the request is not taken, it stays on the lane behind what waits there, and nothing else
changes but what the arbiter grants. Rests on section 3.3 (spec/03_memory_port_pacing.md), section
1.1 (spec/01_transit_path.md), section 1.3 (spec/01_transit_path.md). -/
def Obligations.RequestInDebtIsHeld : Prop :=
  (∀ (m : Master) (r : Request) (s : State) (words : List WriteWord) (effect : State → State)
      (a : Account),
      r.wf = true → s.transit.ports.get m = .empty → s.lanesTaken →
      r.addr.toNat % r.len.words = 0 →
      (s.map.place r.addr.toNat).region = (s.map.place (r.addr.toNat + r.len.words - 1)).region →
      deniedRight s.window m r.dir (s.map.place r.addr.toNat) = none →
      handle issueFull m r (s.map.place r.addr.toNat) s = .accept words effect →
      (s.pacing.get m).account = some a → a.credit < 0 →
      ∃ t, exec (.requestArrival m r) s = .next t ∧
        t = { s with transit := t.transit } ∧
        Arbitrated { s.transit with ports := s.transit.ports.set m (.held r) } t) ∧
  (∀ (m : Master) (r : Request) (s : State),
      r.wf = true → s.transit.ports.get m ≠ .empty → s.lanesTaken →
      ∃ t, exec (.requestArrival m r) s = .next t ∧
        t = { s with transit := t.transit } ∧
        Arbitrated { s.transit with
          lanes := s.transit.lanes.set m (s.transit.lanes.get m ++ [r]) } t)

/-- REQUEST_ARRIVAL at an EMPTY port, no EMPTY port having a request on its lane, of a rightful
write in a STAMPED region whose master is unpaced or has credit of at least 0: the write is
admitted, a paced account is charged length times weight, and the port is WAITING with, for each
word i of the burst: stamp word A where the word's offset is 6 modulo 8, stamp word B where it is 7,
both with all enables set, and otherwise the word as presented. Rests on section 2.4
(spec/02_region_map_and_in_flight_rewriting.md), section 4.3 (spec/04_hall_clock.md). -/
def Obligations.StampedWriteCarriesAdmissionStamp : Prop :=
  ∀ (m : Master) (r : Request) (s : State),
    r.wf = true → r.dir = .write → s.transit.ports.get m = .empty → s.lanesTaken →
    r.addr.toNat % r.len.words = 0 →
    (s.map.place r.addr.toNat).region = (s.map.place (r.addr.toNat + r.len.words - 1)).region →
    (s.map.place r.addr.toNat).kind = .stamped →
    deniedRight s.window m .write (s.map.place r.addr.toNat) = none →
    (∀ a, (s.pacing.get m).account = some a → 0 ≤ a.credit) →
    ∃ t ws, exec (.requestArrival m r) s = .next t ∧
      t = { s with
        pacing := s.charged m r
        window := { s.window with inFlight := s.window.inFlight || decide (m = .service) }
        transit := t.transit } ∧
      Arbitrated { s.transit with
        ports := s.transit.ports.set m
          (.waiting { dir := .write, addr := r.addr, len := r.len, words := ws,
                      region := (s.map.place r.addr.toNat).region, kind := .stamped,
                      offset := (s.map.place r.addr.toNat).offset }) } t ∧
      ws.length = r.words.length ∧
      ∀ (i : Nat) (w : WriteWord), r.words[i]? = some w →
        ws[i]? = some
          (if ((s.map.place r.addr.toNat).offset + i) % 8 = 6 then
             { data := s.clock.stamp.wordA, enables := 0b1111 }
           else if ((s.map.place r.addr.toNat).offset + i) % 8 = 7 then
             { data := s.clock.stamp.wordB, enables := 0b1111 }
           else w)

/-- MEMORY_COMPLETION for a port's transaction at the memory controller, no EMPTY port and not this
one having a request on its lane. OKAY, but for the reads in which words are substituted (LINE's in
PORTS, ROBOTLINK's in ORDERS that cover a robot slot's word 0): OKAY with memory's data for a read,
none for a write. Error: FAULT with zero data for a read, one MEMORY_FAULT report of master,
direction, address, length and region; neither a denial nor the charge is touched. In both the port
is EMPTY and the memory port free until the arbiter grants; SERVICE's in-flight flag becomes no, and
a DRAINING window whose conditions then hold settles, its report behind MEMORY_FAULT (that order is
the model's choice, log 39); nothing else changes. Third clause: where only the port of m has
requests on its lane, MEMORY_COMPLETION, REFILL_EXPIRY, SERVICE_REFUSAL, RELOAD, LOAD_END, cabinet
reset and power-on end as without them, followed by REQUEST_ARRIVAL of each of those requests in
turn: an EMPTY port takes them at that moment, as arrivals behind the event and its arbitration
(that order is the model's choice, log 1); of several completions to a master the state after holds
the last (log 51, the model's choice). Rests on section 1.1 (spec/01_transit_path.md), section 1.6
(spec/01_transit_path.md), section 1.7 (spec/01_transit_path.md), section 10.4
(spec/10_service_window.md), section 10.5 (spec/10_service_window.md), section 5.4
(spec/05_cabinet_switch_watch.md), section 7.6 (spec/07_fill_order_guard.md). -/
def Obligations.MemoryAnswerIsDelivered : Prop :=
  (∀ (m : Master) (x : Txn) (data : List Word) (s : State),
      s.transit.memPort = .master m → s.transit.ports.get m = .inMemory x →
      s.lanesTaken → s.transit.lanes.get m = [] →
      (x.dir = .read → data.length = x.len.words) →
      (x.dir = .read → ¬ (x.kind = .ports ∧ m = .line) ∧
        ¬ (x.kind = .orders ∧ m = .robotlink ∧ x.offset % 8 = 0 ∧ x.offset < 48)) →
      ∃ t, exec (.memoryCompletion .current true data) s = .next t ∧
        t = { s with window := t.window, staging := t.staging, writer := t.writer,
                     transit := t.transit } ∧
        Delivered m [] s t ∧
        Arbitrated { s.transit with
          ports := s.transit.ports.set m .empty
          memPort := .free
          completions := s.transit.completions.set m
            (some { status := .okay, data := match x.dir with | .read => data | .write => [] }) } t) ∧
  (∀ (m : Master) (x : Txn) (data : List Word) (s : State),
      s.transit.memPort = .master m → s.transit.ports.get m = .inMemory x →
      s.lanesTaken → s.transit.lanes.get m = [] →
      ∃ t, exec (.memoryCompletion .current false data) s = .next t ∧
        t = { s with window := t.window, staging := t.staging, writer := t.writer,
                     transit := t.transit } ∧
        Delivered m [.memoryFault m x.dir x.addr x.len x.region] s t ∧
        Arbitrated { s.transit with
          ports := s.transit.ports.set m .empty
          memPort := .free
          completions := s.transit.completions.set m
            (some { status := .fault, data := zeroData x.dir x.len }) } t) ∧
  (∀ (c : Instr) (m : Master) (l : List Request) (s u : State),
      (∀ m', s.transit.lanes.get m' = []) → (∀ r ∈ l, r.wf = true) →
      ((∃ m' x ok data, c = .memoryCompletion .current ok data ∧ s.transit.memPort = .master m' ∧
          s.transit.ports.get m' = .inMemory x) ∨
        (∃ m', c = .refillExpiry m') ∨ c = .serviceRefusal ∨ (∃ n rest, c = .reload n rest) ∨
        (∃ pass store, c = .loadEnd pass store) ∨ c = .cabinetReset ∨ ∃ key, c = .powerOn key) →
      exec c s = .next u →
      ∃ t, exec c { s with
          transit := { s.transit with lanes := s.transit.lanes.set m l } } = .next t ∧
        Presented m l u t)

/-- What is at the memory controller: for the internal writer an 8-word write of the head entry, a
record at its address with all enables; a result without data at its slot's word 8, words 8 to 13
with enables clear, word 14 the opcode echo, result code and issue count, word 15 the opcode word; a
result with data first words 0 to 7, then words 8 to 15; for a master port its transaction as
admitted. INTERNAL_WRITE_COMPLETION. Last write of the head: the entry leaves; the written index
advances for a record placed since the indices were last set to 0; a slot that still awaits the
result becomes FREE; an entry with a failed write counts one lost record; and where results wait in
slots, that of the lowest slot joins the tail, with the same effects. First of two writes: the entry
stays at the head, its first write made, an error remembered. Nothing else changes but what the
arbiter grants. Rests on section 1.4 (spec/01_transit_path.md), section 1.5
(spec/01_transit_path.md), section 11.1 (spec/11_control_page_reports_and_start_up.md), section 11.4
(spec/11_control_page_reports_and_start_up.md), section 11.9
(spec/11_control_page_reports_and_start_up.md). -/
def Obligations.InternalWriteCompletes : Prop :=
  (∀ (e : StagingEntry) (rest : List StagingEntry) (ok : Bool) (s : State),
      s.transit.memPort = .internal → s.staging = e :: rest →
      (e.twoWrites = true → e.firstDone = true ∨ e.cut = true) →
      let slots :=
        match e.body with
        | .record _ _ => s.slots
        | .result n _ _ _ _ =>
            if e.current = true then s.slots.set n { s.slots.get n with awaiting := false } else s.slots
      let w :=
        match e.body with
        | .record _ _ =>
            if e.current = true then
              { s.writer with written := (s.writer.written + 1) % s.map.ringCapacity }
            else s.writer
        | .result _ _ _ _ _ => s.writer
      let ends (staging : List StagingEntry) (slots' : PerSlot CommandSlot) : Prop :=
        ∃ t, exec (.internalWriteCompletion .current ok) s = .next t ∧
          Arbitrated { s.transit with memPort := .free } t ∧
          t = { s with
            staging := staging, slots := slots'
            writer := if e.failed = true ∨ ok = false then
                { w with lost := min (w.lost + 1) 4294967295, losing := true }
              else w
            transit := t.transit }
      ((∀ n, (s.slots.get n).waiting = none) → ends rest slots) ∧
      (∀ (n : Slot) (x : StagingEntry), rest.length < 8 → (s.slots.get n).waiting = some x →
        (∀ n' : Slot, n'.num < n.num → (s.slots.get n').waiting = none) →
        ends (rest ++ [x]) (slots.set n { slots.get n with waiting := none }))) ∧
  (∀ (e : StagingEntry) (rest : List StagingEntry) (ok : Bool) (s : State),
      s.transit.memPort = .internal → s.staging = e :: rest →
      e.twoWrites = true → e.firstDone = false → e.cut = false →
      ∃ t, exec (.internalWriteCompletion .current ok) s = .next t ∧
        t = { s with
          staging := { e with firstDone := true, failed := e.failed || !ok } :: rest
          transit := t.transit } ∧
        Arbitrated { s.transit with memPort := .free } t) ∧
  (∀ (e : StagingEntry) (rest : List StagingEntry) (s : State),
      s.transit.memPort = .internal → s.staging = e :: rest →
      match e.body with
      | .record r st =>
          memoryLane s = some { dir := .write, addr := e.addr, length := 8
                                words := (r.words st).map fun w => ⟨w, 0b1111⟩ }
      | .result _ code issues word none =>
          ∃ q, memoryLane s = some q ∧ q.dir = .write ∧ q.addr = e.addr + 8 ∧ q.length = 8 ∧
            (q.words.take 6).map WriteWord.enables = List.replicate 6 0 ∧
            q.words.drop 6 =
              [⟨issues ++ BitVec.ofNat 8 code.code ++ opcodeField word, 0b1111⟩, ⟨word, 0b1111⟩]
      | .result _ code issues word (some data) =>
          data.length = 14 →
          memoryLane s = some
            { dir := .write, addr := if e.firstDone = true then e.addr + 8 else e.addr, length := 8
              words := (if e.firstDone = true then
                  data.drop 8 ++ [issues ++ BitVec.ofNat 8 code.code ++ opcodeField word, word]
                else data.take 8).map fun w => ⟨w, 0b1111⟩ }) ∧
  (∀ (m : Master) (x : Txn) (s : State),
      s.transit.memPort = .master m → s.transit.ports.get m = .inMemory x →
      memoryLane s = some { dir := x.dir, addr := x.addr.toNat, length := x.len.words, words := x.words })

/-- With the memory port free and n staging entries: 6 or more entries, or at least one and no port
WAITING, grant the internal writer and leave ports and pointer; otherwise the grant goes to the
first WAITING port after the pointer in the order M0, M1, M2, M3, M4 and back, which enters
IN_MEMORY and becomes the pointer; with neither, nothing. A busy memory port grants nothing. Rests
on section 1.4 (spec/01_transit_path.md). -/
def Obligations.ArbiterChoosesByTheTable : Prop :=
  ∀ (x : Transit) (n : Nat),
    (x.memPort ≠ .free → x.arbitrate n = x) ∧
    (x.memPort = .free → (6 ≤ n ∨ (1 ≤ n ∧ ∀ m, (x.ports.get m).isWaiting = false)) →
      x.arbitrate n = { x with memPort := .internal }) ∧
    (x.memPort = .free → n = 0 → (∀ m, (x.ports.get m).isWaiting = false) → x.arbitrate n = x) ∧
    (∀ (k : Nat) (m : Master) (y : Txn), x.memPort = .free → n < 6 →
      (searchAfter x.pointer)[k]? = some m → x.ports.get m = .waiting y →
      (∀ j m', j < k → (searchAfter x.pointer)[j]? = some m' → (x.ports.get m').isWaiting = false) →
      x.arbitrate n =
        { x with ports := x.ports.set m (.inMemory y), memPort := .master m, pointer := m })

/-- A denial offered to a master's limiter: in QUIET a report is raised at once that covers 1 denial
with its particulars and the total after the increment, and the limiter is MUTED with its window end
100 ms of M later and suppressed count 0; in MUTED no report is raised, the suppressed count is
incremented, saturating at 65,535, and the particulars replace the held ones. The other masters'
limiters and all other state stay. Formalises R31. -/
def Obligations.DenialMeetsLimiter : Prop :=
  ∀ (m : Master) (p : Particulars) (s : State),
    let total := min ((s.limiters.get m).total + 1) 4294967295
    ((s.limiters.get m).mode = .quiet →
      countDenial m p s =
        { s with
          limiters := s.limiters.set m { total := total, mode := .muted (s.clock.m + 100000) 0 none }
          staging := (raise (limiterReport m p 1 total s.window) s).staging
          writer := (raise (limiterReport m p 1 total s.window) s).writer }) ∧
    (∀ e n held, (s.limiters.get m).mode = .muted e n held →
      countDenial m p s =
        { s with limiters :=
            s.limiters.set m { total := total, mode := .muted e (min (n + 1) 65535) (some p) } })

/-- LIMITER_WINDOW_END whose end M has reached: with a suppressed count above 0 one report that
covers that many denials is raised with the held particulars and the present total, the count is 0
and the limiter stays MUTED for another 100 ms; with count 0 it becomes QUIET. The total stays.
Nothing else changes but what the arbiter grants. Rests on section 2.6
(spec/02_region_map_and_in_flight_rewriting.md). -/
def Obligations.LimiterWindowEnds : Prop :=
  ∀ (m : Master) (e : Micros) (n : Nat) (held : Option Particulars) (s : State),
    (s.limiters.get m).mode = .muted e n held → atOrPast s.clock.m e = true →
    (n = 0 →
      ∃ t, exec (.limiterWindowEnd m) s = .next t ∧
        t = { s with
          limiters := s.limiters.set m { total := (s.limiters.get m).total, mode := .quiet }
          transit := t.transit } ∧ Arbitrated s.transit t) ∧
    (∀ p, 0 < n → held = some p →
      ∃ t, exec (.limiterWindowEnd m) s = .next t ∧
        t = { s with
          limiters := s.limiters.set m { total := (s.limiters.get m).total,
                                         mode := .muted (s.clock.m + 100000) 0 none }
          staging := t.staging, writer := t.writer, transit := t.transit } ∧
        Reported [limiterReport m p n (s.limiters.get m).total s.window] s t ∧
        Arbitrated s.transit t)

/-- REFILL_EXPIRY of a paced master whose interval (8 + A) times 2^B microseconds has passed, no
EMPTY port and not this one having a request on its lane. The account: without a buffered setting
the credit is the smaller of C + Q and K; a buffered PACED setting comes into force with the smaller
of C + Q' and K'; a buffered UNPACED setting comes into force and the account is removed; the timer
restarts. No request HELD: nothing else changes but what the arbiter grants. A HELD request r: the
event is REQUEST_ARRIVAL of r at the EMPTY port with that account, step 1 not repeated as r had
passed it. So r is denied with WINDOW or RIGHTS where its right is gone, with zero read data, the
denial counted and no charge; in a PLAIN place it is HELD again while the credit is below 0, and
otherwise admitted with its words as presented, charged length times weight where an account stands.
Rests on section 3.3 (spec/03_memory_port_pacing.md), section 3.4 (spec/03_memory_port_pacing.md),
section 1.3 (spec/01_transit_path.md), section 2.6 (spec/02_region_map_and_in_flight_rewriting.md),
section 3.5 (spec/03_memory_port_pacing.md), section 3.1 (spec/03_memory_port_pacing.md). -/
def Obligations.RefillAddsTheQuantum : Prop :=
  ∀ (m : Master) (a : Account) (s : State),
    (s.pacing.get m).account = some a →
    (8 + (s.pacing.get m).inForce.a) * 2 ^ (s.pacing.get m).inForce.b ≤ (s.clock.m - a.timer).toNat →
    s.lanesTaken → s.transit.lanes.get m = [] →
    let p : Pace :=
      match (s.pacing.get m).buffered with
      | none =>
          { s.pacing.get m with
            account := some { credit := min (a.credit + ((s.pacing.get m).inForce.q : Int))
                                          ((s.pacing.get m).inForce.k : Int)
                              timer := s.clock.m } }
      | some b =>
          { s.pacing.get m with
            inForce := b, buffered := none
            account := if b.paced = true then
                some { credit := min (a.credit + (b.q : Int)) (b.k : Int), timer := s.clock.m }
              else none }
    ((∀ r, s.transit.ports.get m ≠ .held r) →
      ∃ t, exec (.refillExpiry m) s = .next t ∧
        t = { s with pacing := s.pacing.set m p, transit := t.transit } ∧ Arbitrated s.transit t) ∧
    (∀ r, s.transit.ports.get m = .held r → r.wf = true → r.addr.toNat % r.len.words = 0 →
      (s.map.place r.addr.toNat).region = (s.map.place (r.addr.toNat + r.len.words - 1)).region →
      exec (.refillExpiry m) s =
        exec (.requestArrival m r) { s with
          pacing := s.pacing.set m p
          transit := { s.transit with ports := s.transit.ports.set m .empty } }) ∧
    (∀ r cause, s.transit.ports.get m = .held r →
      ((cause = .window ∧ m = .service ∧ s.window.state = .draining) ∨
       (cause = .rights ∧ ¬ (m = .service ∧ s.window.state = .draining) ∧
        inRights ((s.map.place r.addr.toNat).rights.forDir r.dir) m = false ∧
        (m = .service → s.window.state = .opened →
          ∀ g ∈ s.window.grants, (s.map.place r.addr.toNat).region = .entry g.region →
            r.dir = .write ∧ g.rw = false))) →
      ∃ t, exec (.refillExpiry m) s = .next t ∧
        t = { s with pacing := s.pacing.set m p, limiters := t.limiters, staging := t.staging,
                     writer := t.writer, transit := t.transit } ∧
        Denied m { cause := cause, dir := r.dir, addr := r.addr, len := r.len
                   region := some (s.map.place r.addr.toNat).region } [] s t ∧
        Arbitrated { s.transit with
          ports := s.transit.ports.set m .empty
          completions := s.transit.completions.set m
            (some { status := .denied, data := zeroData r.dir r.len }) } t) ∧
    (∀ r, s.transit.ports.get m = .held r →
      (s.map.place r.addr.toNat).kind = .plain →
      deniedRight s.window m r.dir (s.map.place r.addr.toNat) = none →
      ∃ t, exec (.refillExpiry m) s = .next t ∧
        ((∃ b, p.account = some b ∧ b.credit < 0) →
          t = { s with pacing := s.pacing.set m p, transit := t.transit } ∧ Arbitrated s.transit t) ∧
        ((∀ b, p.account = some b → 0 ≤ b.credit) →
          t = { s with
            pacing := s.pacing.set m { p with
              account := p.account.map fun b =>
                { b with credit := b.credit - (r.len.words * (s.map.place r.addr.toNat).weight : Nat) } }
            window := { s.window with inFlight := s.window.inFlight || decide (m = .service) }
            transit := t.transit } ∧
          Arbitrated { s.transit with
            ports := s.transit.ports.set m
              (.waiting { dir := r.dir, addr := r.addr, len := r.len
                          words := match r.dir with | .read => [] | .write => r.words
                          region := (s.map.place r.addr.toNat).region, kind := .plain
                          offset := (s.map.place r.addr.toNat).offset }) } t))

/-- PACE_SET, not SAFE, in a FREE slot. For a master without an account, mode PACED, A and B at most
7: the setting with Q clamped to 1..64 and K to 1..1024 is in force with a full account and its
timer started. For a master with an account, either mode: the setting is buffered in place of any
other, and setting, credit and timer stay. DONE, or DONE_ADJUSTED where Q or K was clamped, with
setting, buffered setting and credit. For a master without an account, mode UNPACED: no setting
changes, DONE with the same data. In SAFE REFUSED_STATE; else with a master number above 4, a mode
neither PACED nor UNPACED, or mode PACED with A or B above 7, REFUSED_PARAM; a refusal has no data
and changes no setting. Nothing else changes but what the arbiter grants. Rests on section 3.5
(spec/03_memory_port_pacing.md). -/
def Obligations.PaceSetByTheSettingInForce : Prop :=
  (∀ (n : Slot) (rest : BitVec 24) (m : Master) (s : State),
      s.takes n → s.loader.condition ≠ .safe →
      s.paramBits n 0 0 8 = m.num → s.paramBits n 0 8 2 = 1 →
      s.paramBits n 1 0 8 ≤ 7 → s.paramBits n 1 8 8 ≤ 7 →
      (s.pacing.get m).account = none →
      let q := max 1 (min (s.paramWord n 2) 64)
      let k := max 1 (min (s.paramWord n 3) 1024)
      let p : Pace :=
        { s.pacing.get m with
          inForce := { paced := true, a := s.paramBits n 1 0 8, b := s.paramBits n 1 8 8, q := q, k := k }
          buffered := none
          account := some { credit := k, timer := s.clock.m } }
      ∃ t, exec (.paceSet n rest) s = .next t ∧
        t = { s with pacing := s.pacing.set m p, slots := t.slots, staging := t.staging,
                     writer := t.writer, transit := t.transit } ∧
        Answered n (opcodeWord 0x31 rest) []
          (if q = s.paramWord n 2 ∧ k = s.paramWord n 3 then .done else .doneAdjusted) (paceData m p) s t ∧
        Arbitrated s.transit t) ∧
  (∀ (n : Slot) (rest : BitVec 24) (m : Master) (a : Account) (s : State),
      s.takes n → s.loader.condition ≠ .safe → s.paramBits n 0 0 8 = m.num →
      (s.pacing.get m).account = some a →
      (s.paramBits n 0 8 2 = 2 ∨
        (s.paramBits n 0 8 2 = 1 ∧ s.paramBits n 1 0 8 ≤ 7 ∧ s.paramBits n 1 8 8 ≤ 7)) →
      ∃ t b code, exec (.paceSet n rest) s = .next t ∧
        t = { s with
          pacing := s.pacing.set m { s.pacing.get m with buffered := some b }
          slots := t.slots, staging := t.staging, writer := t.writer, transit := t.transit } ∧
        Answered n (opcodeWord 0x31 rest) [] code
          (paceData m { s.pacing.get m with buffered := some b }) s t ∧
        Arbitrated s.transit t ∧
        (s.paramBits n 0 8 2 = 2 → b.paced = false ∧ code = .done) ∧
        (s.paramBits n 0 8 2 = 1 →
          b = { paced := true, a := s.paramBits n 1 0 8, b := s.paramBits n 1 8 8
                q := max 1 (min (s.paramWord n 2) 64), k := max 1 (min (s.paramWord n 3) 1024) } ∧
          code = (if b.q = s.paramWord n 2 ∧ b.k = s.paramWord n 3 then .done else .doneAdjusted))) ∧
  (∀ (n : Slot) (rest : BitVec 24) (s : State),
      s.takes n →
      let ends (code : ResultCode) (data : Option (List Word)) : Prop :=
        ∃ t, exec (.paceSet n rest) s = .next t ∧ Arbitrated s.transit t ∧
          t = { s with slots := t.slots, staging := t.staging, writer := t.writer
                       transit := t.transit } ∧
          Answered n (opcodeWord 0x31 rest) [] code data s t
      (∀ m : Master, s.loader.condition ≠ .safe → s.paramBits n 0 0 8 = m.num →
        s.paramBits n 0 8 2 = 2 → (s.pacing.get m).account = none →
        ends .done (paceData m (s.pacing.get m))) ∧
      (s.loader.condition = .safe → ends .refusedState none) ∧
      (s.loader.condition ≠ .safe →
        4 < s.paramBits n 0 0 8 ∨ (s.paramBits n 0 8 2 ≠ 1 ∧ s.paramBits n 0 8 2 ≠ 2) ∨
          (s.paramBits n 0 8 2 = 1 ∧ (7 < s.paramBits n 1 0 8 ∨ 7 < s.paramBits n 1 8 8)) →
        ends .refusedParam none))

/-- HALL_PULSE while some port has the role TIME_SOURCE and either such a port's link is DOWN or the
switch is SILENT increments the untrusted count; a trusted pulse fewer than 999,000 us of M after
the last accepted one increments the glitch count. Both saturate at 2^32 - 1. All else stays but
what the arbiter grants. Rests on section 4.4 (spec/04_hall_clock.md). -/
def Obligations.UntrustedAndEarlyPulsesOnlyCount : Prop :=
  ∀ s : State,
    ((∃ p, (s.switch.table.get p).role = .timeSource ∧
        ((s.switch.table.get p).linkUp = false ∨ s.switch.state = .silent)) →
      ∃ t, exec .hallPulse s = .next t ∧ Arbitrated s.transit t ∧
        t = { s with
          clock := { s.clock with untrusted := min (s.clock.untrusted + 1) 4294967295 }
          transit := t.transit }) ∧
    (∀ l, (∀ p, (s.switch.table.get p).role = .timeSource →
        (s.switch.table.get p).linkUp = true ∧ s.switch.state ≠ .silent) →
      s.clock.lastAccepted = some l → l.past = false → (s.clock.m - l.start).toNat < 999000 →
      ∃ t, exec .hallPulse s = .next t ∧ Arbitrated s.transit t ∧
        t = { s with
          clock := { s.clock with glitches := min (s.clock.glitches + 1) 4294967295 }
          transit := t.transit })

/-- HALL_PULSE trusted and accepted in LOCKING with no pending set and phase error e of T as
captured: |e| at most 1000 gives f = clamp(f - trunc(e/8), -200, 200), c = clamp(f - trunc(e/2),
-500, 500), the lock run one more where |e| is at most 20 and else 0, and LOCKED with a LOCK_RUN
report when it reaches 8; |e| above 1000 gives T - e, lock run 0, c = f and a TIME_STEPPED report. A
correction period begins, the pulse watch restarts, the accepted count rises, e is kept. Nothing
else changes but what the arbiter grants. T as the pulse captures it is T, one more where an
adjustment then due had withheld its microsecond as M passed: the new period, beginning first, drops
the adjustment (R50); that it gives the microsecond back is the model's choice (log 5). Rests on
section 4.5 (spec/04_hall_clock.md), section 4.6 (spec/04_hall_clock.md), section 4.4
(spec/04_hall_clock.md). -/
def Obligations.PulseInLocking : Prop :=
  ∀ (e : Int) (s : State),
    s.pulseTrusted = true →
    s.clock.spaced →
    s.clock.state = .locking → s.clock.pendingSet = none →
    -500000 ≤ e → e < 500000 → ((s.clock.captured.toNat : Int) - e) % 1000000 = 0 →
    let f := max (-200) (min (s.clock.f - e.tdiv 8) 200)
    let c := max (-500) (min (f - e.tdiv 2) 500)
    let run := if e.natAbs ≤ 20 then s.clock.lockRun + 1 else 0
    let base : Clock :=
      { s.clock with t := s.clock.captured, periodStart := s.clock.m, adjustments := 0, lastAccepted := some ⟨s.clock.m, false⟩
                     accepted := min (s.clock.accepted + 1) 4294967295
                     pulseWatch := some s.clock.m, lastError := e }
    ∃ t, exec .hallPulse s = .next t ∧
      t = { s with clock := t.clock, staging := t.staging, writer := t.writer,
                   transit := t.transit } ∧
      Arbitrated s.transit t ∧
      (e.natAbs ≤ 1000 →
        t.clock = { base with f := f, c := c, lockRun := run
                              state := if 8 ≤ run then .locked else .locking
                              outlierRun := if 8 ≤ run then 0 else s.clock.outlierRun } ∧
        Reported (if 8 ≤ run then [.timeState .locking .locked .lockRun f c (some e)] else [])
          { s with clock := t.clock } t) ∧
      (1000 < e.natAbs →
        t.clock = { base with t := s.clock.captured - BitVec.ofInt 48 e, lockRun := 0, c := s.clock.f
                              lastReplaced := some ⟨s.clock.m, false⟩ } ∧
        Reported [.timeStepped .phaseStep s.clock.captured (some e)] { s with clock := t.clock } t)

/-- HALL_PULSE trusted, accepted, nothing pending, e the phase error of T as captured. UNSET: T as
captured, this moment as that of the last accepted pulse, the accepted count one more, a new
correction period, no report. LOCKED, |e| at most 100: discipline, outlier run 0; above 100 with a
run of 0 or 1: the run rises, f, c, T and state stay; no report. HOLDOVER, DRIFTING, or LOCKED with
a third outlier: the clock is the one the same pulse leaves from LOCKING with both runs 0 and, but
from LOCKED, the limit timer stopped; TIME_STATE to LOCKING (PULSE_RESUMED or OUTLIERS) is raised,
then TIME_STEPPED where |e| is above 1000. Nothing else changes but what the arbiter grants. T as
the pulse captures it is T, one more where an adjustment then due had withheld its microsecond as M
passed: the new period, beginning first, drops the adjustment (R50); that it gives the microsecond
back is the model's choice (log 5). Rests on section 4.6 (spec/04_hall_clock.md), section 4.9
(spec/04_hall_clock.md), section 4.4 (spec/04_hall_clock.md), section 4.5 (spec/04_hall_clock.md).
-/
def Obligations.PulseOutsideLocking : Prop :=
  (∀ (e : Int) (s : State),
      s.pulseTrusted = true →
      s.clock.spaced →
      s.clock.state = .locked → s.clock.pendingSet = none →
      -500000 ≤ e → e < 500000 → ((s.clock.captured.toNat : Int) - e) % 1000000 = 0 →
      (e.natAbs ≤ 100 ∨ s.clock.outlierRun < 2) →
      let f := max (-200) (min (s.clock.f - e.tdiv 8) 200)
      let base : Clock :=
        { s.clock with t := s.clock.captured, periodStart := s.clock.m, adjustments := 0, lastAccepted := some ⟨s.clock.m, false⟩
                       accepted := min (s.clock.accepted + 1) 4294967295
                       pulseWatch := some s.clock.m, lastError := e }
      ∃ t, exec .hallPulse s = .next t ∧ Arbitrated s.transit t ∧
        t = { s with
          clock :=
            if e.natAbs ≤ 100 then
              { base with f := f, c := max (-500) (min (f - e.tdiv 2) 500), outlierRun := 0 }
            else { base with outlierRun := s.clock.outlierRun + 1 }
          transit := t.transit }) ∧
  (∀ (e : Int) (s : State),
      s.pulseTrusted = true →
      s.clock.spaced →
      s.clock.pendingSet = none →
      -500000 ≤ e → e < 500000 → ((s.clock.captured.toNat : Int) - e) % 1000000 = 0 →
      (s.clock.state = .holdover ∨ s.clock.state = .drifting ∨
        (s.clock.state = .locked ∧ 100 < e.natAbs ∧ s.clock.outlierRun = 2)) →
      ∃ t u, exec .hallPulse s = .next t ∧
        exec .hallPulse { s with
          clock := { s.clock with
            state := .locking, lockRun := 0, outlierRun := 0
            holdoverStart :=
              if s.clock.state = .locked then s.clock.holdoverStart else none } } = .next u ∧
        t = { s with clock := u.clock, staging := t.staging, writer := t.writer,
                     transit := t.transit } ∧
        Arbitrated s.transit t ∧
        Reported
          ([.timeState s.clock.state .locking
              (if s.clock.state = .locked then .outliers else .pulseResumed)
              u.clock.f u.clock.c (some e)] ++
            (if 1000 < e.natAbs then [.timeStepped .phaseStep s.clock.captured (some e)] else []))
          { s with clock := t.clock } t) ∧
  (∀ s : State,
      s.pulseTrusted = true → s.clock.spaced → s.clock.pendingSet = none → s.clock.state = .unset →
      ∃ t, exec .hallPulse s = .next t ∧ Arbitrated s.transit t ∧
        t = { s with
          clock := { s.clock with
            t := s.clock.captured, periodStart := s.clock.m, adjustments := 0
            lastAccepted := some ⟨s.clock.m, false⟩
            accepted := min (s.clock.accepted + 1) 4294967295 }
          transit := t.transit })

/-- HALL_PULSE trusted and accepted with S pending: T is S times 1,000,000, the state LOCKING with
both runs 0, f kept, c = f, nothing pending, the holdover timer stopped, the pulse watch started,
T's replacement noted at this M; TIME_STATE with cause SET_APPLIED is raised unless the state was
LOCKING, then TIME_STEPPED with T before as captured, both with the new T in their stamp. The last e
is kept. Nothing else changes but what the arbiter grants. T as the pulse captures it is T, one more
where an adjustment then due had withheld its microsecond as M passed: the new period, beginning
first, drops the adjustment (R50); that it gives the microsecond back is the model's choice (log 5).
Rests on section 4.7 (spec/04_hall_clock.md). -/
def Obligations.PendingSetIsAppliedAtPulse : Prop :=
  ∀ (p : PendingSet) (s : State),
    s.pulseTrusted = true →
    s.clock.spaced →
    s.clock.pendingSet = some p →
    let k : Clock :=
      { s.clock with t := BitVec.ofNat 48 (p.seconds * 1000000), state := .locking, lockRun := 0
                     outlierRun := 0, c := s.clock.f, pendingSet := none, holdoverStart := none
                     pulseWatch := some s.clock.m, lastReplaced := some ⟨s.clock.m, false⟩
                     periodStart := s.clock.m, adjustments := 0, lastAccepted := some ⟨s.clock.m, false⟩
                     accepted := min (s.clock.accepted + 1) 4294967295 }
    ∃ t, exec .hallPulse s = .next t ∧
      t = { s with clock := k, staging := t.staging, writer := t.writer, transit := t.transit } ∧
      Arbitrated s.transit t ∧
      Reported
        ((if s.clock.state = .locking then []
          else [.timeState s.clock.state .locking .setApplied s.clock.f s.clock.f none]) ++
          [.timeStepped .setApplied s.clock.captured none])
        { s with clock := k } t

/-- CORRECTION_ADJUSTMENT at the next of the first |c| multiples of trunc(1,000,000/|c|): T is one
more for c above 0 and stands below, its microsecond having been withheld as M passed; the point is
counted. CORRECTION_PERIOD, one second into a period in HOLDOVER or DRIFTING: a new one begins.
PULSE_WATCH_EXPIRY after 1,002,000 us and CLOCK_SOURCE_NOTICE of a link loss (or SILENT with a
TIME_SOURCE port, the roles being those when it is taken, and a loss counting whatever its port's
role then is: the model's choice, log 45), in LOCKING or LOCKED: HOLDOVER with c = f and its report,
and a new period. Every other such notice (a link return, SILENT ended, SILENT without a TIME_SOURCE
port, or any in UNSET, HOLDOVER or DRIFTING) is taken and changes nothing. A new period that begins
with an adjustment due drops it (R50). That the adjustment is an event behind its microsecond, so
that a dropped one gives a withheld microsecond back to T, is the model's choice (log 5).
HOLDOVER_LIMIT: DRIFTING with its report. TIME_SET_LAPSED after 2,000,000 us: the set is dropped
with its report. Nothing else changes but what the arbiter grants. Rests on section 4.1
(spec/04_hall_clock.md), section 4.2 (spec/04_hall_clock.md), section 4.6.1 (spec/04_hall_clock.md),
section 4.7 (spec/04_hall_clock.md). -/
def Obligations.ClockTimersAndNotices : Prop :=
  (∀ s : State,
      (s.clock.c ≠ 0 → s.clock.adjustments < s.clock.c.natAbs →
        (s.clock.adjustments + 1) * (1000000 / s.clock.c.natAbs) ≤
          (s.clock.m - s.clock.periodStart).toNat →
        exec .correctionAdjustment s = .next { s with
          clock := { s.clock with
            t := if 0 < s.clock.c then s.clock.t + 1 else s.clock.t
            adjustments := s.clock.adjustments + 1 } }) ∧
      (s.clock.state = .holdover ∨ s.clock.state = .drifting →
        1000000 ≤ (s.clock.m - s.clock.periodStart).toNat →
        exec .correctionPeriod s = .next { s with
          clock := { s.clock with
            t := s.clock.captured, periodStart := s.clock.m, adjustments := 0 } })) ∧
  (∀ s : State,
      let k : Clock :=
        { s.clock with t := s.clock.captured, periodStart := s.clock.m, adjustments := 0
                       state := .holdover, c := s.clock.f
                       holdoverStart := some ⟨s.clock.m, false⟩, pulseWatch := none }
      (∀ w, s.clock.state = .locking ∨ s.clock.state = .locked → s.clock.pulseWatch = some w →
        1002000 ≤ (s.clock.m - w).toNat →
        ∃ t, exec .pulseWatchExpiry s = .next t ∧ Arbitrated s.transit t ∧
          t = { s with clock := k, staging := t.staging, writer := t.writer, transit := t.transit } ∧
          Reported [.timeState s.clock.state .holdover .pulseMissing k.f k.c none]
            { s with clock := k } t) ∧
      (∀ x rest, s.clock.state = .locking ∨ s.clock.state = .locked → s.mail.clock = x :: rest →
        ((∃ p, x = .linkLoss p) ∨
          (x = .silent ∧ ∃ p, (s.switch.table.get p).role = .timeSource)) →
        ∃ t, exec .clockSourceNotice s = .next t ∧ Arbitrated s.transit t ∧
          t = { s with clock := k, mail := { s.mail with clock := rest }, staging := t.staging
                       writer := t.writer, transit := t.transit } ∧
          Reported [.timeState s.clock.state .holdover .sourceLost k.f k.c none]
            { s with clock := k } t) ∧
      (∀ x rest, s.mail.clock = x :: rest →
        (s.clock.state ∈ [.unset, .holdover, .drifting] ∨ (∃ p, x = .linkReturn p) ∨
          x = .silentEnded ∨ (x = .silent ∧ ∀ p, (s.switch.table.get p).role ≠ .timeSource)) →
        ∃ t, exec .clockSourceNotice s = .next t ∧ Arbitrated s.transit t ∧
          t = { s with mail := { s.mail with clock := rest }, transit := t.transit }) ∧
      (∀ h, s.clock.state = .holdover → s.clock.holdoverStart = some h →
        s.clock.holdoverLimit ≤ 3600 →
        (h.past = true ∨ s.clock.holdoverLimit * 1000000 ≤ (s.clock.m - h.start).toNat) →
        ∃ t, exec .holdoverLimit s = .next t ∧ Arbitrated s.transit t ∧
          t = { s with clock := { s.clock with state := .drifting }, staging := t.staging
                       writer := t.writer, transit := t.transit } ∧
          Reported [.timeState .holdover .drifting .holdoverLimit s.clock.f s.clock.c none]
            { s with clock := { s.clock with state := .drifting } } t) ∧
      (∀ p, s.clock.pendingSet = some p → 2000000 ≤ (s.clock.m - p.start).toNat →
        ∃ t, exec .timeSetLapsed s = .next t ∧ Arbitrated s.transit t ∧
          t = { s with clock := { s.clock with pendingSet := none }, staging := t.staging
                       writer := t.writer, transit := t.transit } ∧
          Reported [.timeSetLapsed p.seconds] s t))

/-- TIME_SET in a FREE slot, not SAFE, S at most 281,474,975: S is pending from this M, the result
is DONE with S and the S replaced or none, T, f, c and state stay; in SAFE the result is
REFUSED_STATE, above the bound REFUSED_PARAM, and the pending set stays. TIME_QUERY with page 0 or 1
answers DONE with that page of the clock's fields (the time in HOLDOVER rounded down to a ms: the
model's choice, log 46), with a page above 1, which names no data, REFUSED_PARAM, and changes
nothing else. Rests on section 4.7 (spec/04_hall_clock.md), section 4.8 (spec/04_hall_clock.md),
section 11.1 (spec/11_control_page_reports_and_start_up.md). -/
def Obligations.TimeSetPendsAndTimeQueryReads : Prop :=
  ∀ (n : Slot) (rest : BitVec 24) (s : State), s.takes n →
    (∃ t code data, exec (.timeSet n rest) s = .next t ∧ Arbitrated s.transit t ∧
      t = { s with clock := t.clock, slots := t.slots, staging := t.staging, writer := t.writer
                   transit := t.transit } ∧
      Answered n (opcodeWord 0x20 rest) [] code data s t ∧
      (s.loader.condition = .safe → code = .refusedState ∧ data = none ∧ t.clock = s.clock) ∧
      (s.loader.condition ≠ .safe → 281474975 < s.paramWord n 0 →
        code = .refusedParam ∧ data = none ∧ t.clock = s.clock) ∧
      (s.loader.condition ≠ .safe → s.paramWord n 0 ≤ 281474975 →
        code = .done ∧
        data = pageOne [wordFld (s.paramWord n 0),
                        wordOpt (s.clock.pendingSet.map PendingSet.seconds)] ∧
        t.clock = { s.clock with
          pendingSet := some { seconds := s.paramWord n 0, start := s.clock.m } })) ∧
    (pageField (opcodeWord 0x21 rest) ≤ 1 →
      ∃ t ws, exec (.timeQuery n rest) s = .next t ∧ Arbitrated s.transit t ∧
        t = { s with slots := t.slots, staging := t.staging, writer := t.writer
                     transit := t.transit } ∧
        Answered n (opcodeWord 0x21 rest) [] .done (some (padTo 14 ws)) s t ∧
        ws = (layWords (timeFields s.clock)).drop (14 * pageField (opcodeWord 0x21 rest)) ∧
        ws ≠ []) ∧
    (1 < pageField (opcodeWord 0x21 rest) →
      ∃ t, exec (.timeQuery n rest) s = .next t ∧ Arbitrated s.transit t ∧
        t = { s with slots := t.slots, staging := t.staging, writer := t.writer
                     transit := t.transit } ∧
        Answered n (opcodeWord 0x21 rest) [] .refusedParam none s t)

/-- REQUEST_ARRIVAL of a rightful write in the PORTS region, its account not in debt, is charged and
waits for memory as presented. One word of SWITCH at offset p (1 to 8), all enables set, updates
entry p alone: total grows by d = (count - last_count) mod 65,536, or 0 with baseline_pending,
saturating; last_count, link_now; down_latched set by DOWN, storm_latched by 1. ERROR_BURST is
raised where d exceeds the threshold, then PORT_LINK where link_now changed, neither for role
UNUSED; a changed link sends its role's notice unless SILENT. Where no word of SWITCH at offset 0 to
8 has all enables set, the partial-word count grows by the number of its words at those offsets,
saturating, and nothing is decoded; a write of another master decodes nothing and counts nothing.
But for the charge, which is the burst's, a burst of SWITCH has the effect of its words written one
at a time in ascending order. Nothing else changes but what the arbiter grants and, for SERVICE,
service in flight. Rests on section 5.2 (spec/05_cabinet_switch_watch.md), section 5.2.1
(spec/05_cabinet_switch_watch.md), section 5.2.2 (spec/05_cabinet_switch_watch.md), section 5.3
(spec/05_cabinet_switch_watch.md), section 2.3 (spec/02_region_map_and_in_flight_rewriting.md). -/
def Obligations.PortWordIsDecoded : Prop :=
  (∀ (r : Request) (w : WriteWord) (p : SwPort) (s : State),
      r.dir = .write → r.len = .one → r.words = [w] → w.enables = 0b1111 →
      s.transit.ports.switch = .empty → s.lanesTaken →
      (s.map.place r.addr.toNat).kind = .ports → (s.map.place r.addr.toNat).offset = p.num →
      deniedRight s.window .switch .write (s.map.place r.addr.toNat) = none →
      (∀ a, s.pacing.switch.account = some a → 0 ≤ a.credit) →
      let e := s.switch.table.get p
      let count : BitVec 16 := w.data.extractLsb' 16 16
      let up := w.data.getLsbD 0
      let d := if e.baselinePending = true then 0 else (count - e.lastCount).toNat
      let total := min (e.total + d) 4294967295
      ∃ t, exec (.requestArrival .switch r) s = .next t ∧
        t = { s with
          pacing := s.charged .switch r
          switch := { s.switch with
            table := s.switch.table.set p
              { e with baselinePending := false, total := total, lastCount := count, linkUp := up
                       downLatched := e.downLatched || !up
                       stormLatched := e.stormLatched || w.data.getLsbD 3 } }
          mail :=
            if up = e.linkUp ∨ s.switch.state = .silent then s.mail
            else
              match e.role with
              | .timeSource =>
                  { s.mail with clock := s.mail.clock ++ [if up then .linkReturn p else .linkLoss p] }
              | .robotLink =>
                  { s.mail with robotLink := s.mail.robotLink ++ [if up then .back p else .loss p] }
              | .camera =>
                  { s.mail with cameras := s.mail.cameras ++ [if up then .back p else .loss p] }
              | .service => if up then s.mail
                            else { s.mail with serviceLoss := s.mail.serviceLoss ++ [p] }
              | .unused => s.mail
              | .uplink => s.mail
          staging := t.staging, writer := t.writer, transit := t.transit } ∧
        Reported
          ((if e.threshold < d ∧ e.role ≠ .unused then
              [.errorBurst p e.role d e.threshold count total] else []) ++
           (if up ≠ e.linkUp ∧ e.role ≠ .unused then
              [.portLink p e.role e.linkUp up (w.data.extractLsb' 1 2) count total] else []))
          s t ∧
        Arbitrated { s.transit with
          ports := s.transit.ports.set .switch
            (.waiting { dir := .write, addr := r.addr, len := .one, words := [w]
                        region := (s.map.place r.addr.toNat).region, kind := .ports
                        offset := p.num }) } t) ∧
  (∀ (m : Master) (r : Request) (s : State),
      Rightful m r .ports s →
      let o := (s.map.place r.addr.toNat).offset
      let n := min r.words.length (9 - o)
      (m = .switch → ∀ (i : Nat) (w : WriteWord), r.words[i]? = some w → o + i ≤ 8 → w.enables ≠ 0b1111) →
      ∃ t, exec (.requestArrival m r) s = .next t ∧ Admitted m r .ports r.words s t ∧
        t = { s with
          pacing := s.charged m r
          switch := { s.switch with
            partialWords :=
              if m = .switch ∧ 0 < n then min (s.switch.partialWords + n) 4294967295
              else s.switch.partialWords }
          window := { s.window with inFlight := s.window.inFlight || decide (m = .service) }
          transit := t.transit }) ∧
  (∀ (r : Request) (s : State),
      Rightful .switch r .ports s →
      (∀ i, i < r.words.length → s.map.place (r.addr.toNat + i) =
        { s.map.place r.addr.toNat with offset := (s.map.place r.addr.toNat).offset + i }) →
      ∃ t u, exec (.requestArrival .switch r) s = .next t ∧
        WordByWord .switch r.addr.toNat r.words s u ∧
        t = { u with pacing := s.charged .switch r, transit := t.transit } ∧ Admitted .switch r .ports r.words s t)

/-- MEMORY_COMPLETION, OKAY, of LINE's read in the PORTS region, no EMPTY port and not LINE's having
a request on its lane: a word at offset 1 to 8 is delivered with link DOWN where link_now is DOWN or
down_latched is set, with the storm latch, and with memory's other bits; other words as memory
returned them. Each covered entry then has storm_latched clear and down_latched clear if link_now is
UP; the other entries keep theirs. Nothing else changes but what the arbiter grants. Rests on
section 5.4 (spec/05_cabinet_switch_watch.md). -/
def Obligations.LineReadsLatchedPortWords : Prop :=
  ∀ (x : Txn) (data : List Word) (s : State),
    s.transit.memPort = .master .line → s.transit.ports.line = .inMemory x →
    s.lanesTaken → s.transit.lanes.line = [] → x.dir = .read → x.kind = .ports → data.length = x.len.words →
    ∃ t ws, exec (.memoryCompletion .current true data) s = .next t ∧
      t = { s with switch := t.switch, transit := t.transit } ∧
      Arbitrated { s.transit with
        ports := s.transit.ports.set .line .empty
        memPort := .free
        completions := s.transit.completions.set .line (some { status := .okay, data := ws }) } t ∧
      t.switch = { s.switch with table := t.switch.table } ∧
      (∀ p, t.switch.table.get p =
        if x.offset ≤ p.num ∧ p.num < x.offset + x.len.words then
          { s.switch.table.get p with
            stormLatched := false
            downLatched := (s.switch.table.get p).downLatched && !(s.switch.table.get p).linkUp }
        else s.switch.table.get p) ∧
      ws.length = data.length ∧
      (∀ (i : Nat) (w : Word), data[i]? = some w →
        (∀ p : SwPort, p.num ≠ x.offset + i) → ws[i]? = some w) ∧
      (∀ (i : Nat) (w : Word) (p : SwPort), data[i]? = some w → p.num = x.offset + i →
        ∃ v, ws[i]? = some v ∧
          v.getLsbD 0 = ((s.switch.table.get p).linkUp && !(s.switch.table.get p).downLatched) ∧
          v.getLsbD 3 = (s.switch.table.get p).stormLatched ∧
          ∀ b, b ≠ 0 → b ≠ 3 → v.getLsbD b = w.getLsbD b)

/-- SWITCH_TIMEOUT in ALIVE, the switch timeout passed since the last heartbeat: the state is
SILENT, the timer stopped, a SWITCH_STATE report ALIVE to SILENT with the last sequence is raised
(its restart flag no and its restart count are the model's choice, log 33); the Hall Clock is sent
SILENT, then every port whose link is UP sends a loss to the block its role names, in ascending
order. The Port Table stays. REQUEST_ARRIVAL of a rightful one-word write of SWITCH at mailbox
offset 0, its account not in debt, all enables set, is charged and waits as presented: a repeated
sequence changes nothing; another becomes the last sequence, starts the heartbeat timer anew and
makes the state ALIVE. Sequence 0 after another value is a restart: baseline_pending is set in all
eight entries and the restart count rises, saturating at 65,535. From SILENT the Hall Clock is sent
SILENT-ended, then every port whose link is UP sends a return, none to the Service Window.
SWITCH_STATE is raised where the state changed or it was a restart. Nothing else changes but what
the arbiter grants. Rests on section 5.6 (spec/05_cabinet_switch_watch.md), section 5.3
(spec/05_cabinet_switch_watch.md), section 5.2 (spec/05_cabinet_switch_watch.md). -/
def Obligations.SwitchTimeoutMakesSilent : Prop :=
  (∀ (h : Micros) (s : State),
      s.switch.state = .alive → s.switch.timer = some h →
      s.switch.timeout * 1000 ≤ (s.clock.m - h).toNat →
      let upWith (r : Role) : List SwPort := allPorts.filter fun p =>
        (s.switch.table.get p).linkUp && decide ((s.switch.table.get p).role = r)
      ∃ t, exec .switchTimeout s = .next t ∧ Arbitrated s.transit t ∧
        t = { s with
          switch := { s.switch with state := .silent, timer := none }
          mail := { s.mail with
            clock := s.mail.clock ++ [.silent] ++ (upWith .timeSource).map .linkLoss
            robotLink := s.mail.robotLink ++ (upWith .robotLink).map .loss
            cameras := s.mail.cameras ++ (upWith .camera).map .loss
            serviceLoss := s.mail.serviceLoss ++ upWith .service }
          staging := t.staging, writer := t.writer, transit := t.transit } ∧
        Reported [.switchState .alive .silent false s.switch.lastSequence s.switch.restarts] s t) ∧
  (∀ (r : Request) (w : WriteWord) (s : State),
      Rightful .switch r .ports s → r.len = .one → r.words = [w] → w.enables = 0b1111 →
      (s.map.place r.addr.toNat).offset = 0 →
      let sq : BitVec 16 := w.data.extractLsb' 0 16
      let k := s.switch
      let restart : Bool :=
        match k.lastSequence with
        | none => false
        | some l => decide (sq = 0 ∧ l ≠ 0)
      let restarts := if restart = true then min (k.restarts + 1) 65535 else k.restarts
      let upWith (x : Role) : List SwPort := allPorts.filter fun p =>
        (k.table.get p).linkUp && decide ((k.table.get p).role = x)
      ∃ t, exec (.requestArrival .switch r) s = .next t ∧ Admitted .switch r .ports [w] s t ∧
        (k.lastSequence = some sq →
          t = { s with pacing := s.charged .switch r, transit := t.transit }) ∧
        (k.lastSequence ≠ some sq →
          t = { s with
            pacing := s.charged .switch r
            switch := { k with
              table := if restart = true then k.table.map fun e => { e with baselinePending := true }
                       else k.table
              state := .alive, lastSequence := some sq, timer := some s.clock.m, restarts := restarts
              lastHeartbeat := some ⟨s.clock.m, false⟩ }
            mail :=
              if k.state = .silent then
                { s.mail with
                  clock := s.mail.clock ++ [.silentEnded] ++ (upWith .timeSource).map .linkReturn
                  robotLink := s.mail.robotLink ++ (upWith .robotLink).map .back
                  cameras := s.mail.cameras ++ (upWith .camera).map .back }
              else s.mail
            staging := t.staging, writer := t.writer, transit := t.transit } ∧
          Reported
            (if k.state ≠ .alive ∨ restart = true then
              [.switchState k.state .alive restart (some sq) restarts] else [])
            s t))

/-- HEARTBEAT_TIMEOUT in STARTING, READY, ORDERED, FILLING or HELD after the heartbeat timeout:
SILENT, hold cause and order kept. PICKUP_TIMEOUT in ORDERED and FILL_TIMEOUT in FILLING after their
timeouts: FAULTED with fault cause NO_PICKUP or FILL_OVERTIME and no hold cause. Each sets fresh,
makes Fp 0 and the fill record none, stops the three timers and raises one ROBOT_STATE report. No
other robot, and nothing else but what the arbiter grants, changes. Rests on section 6.4
(spec/06_filler_robots.md), section 6.2 (spec/06_filler_robots.md). -/
def Obligations.RobotTimersExpire : Prop :=
  ∀ (r : Robot) (h : Micros) (s : State),
    let e := s.robots.table.get r
    let gone : RobotEntry :=
      { e with fresh := true, fp := 0, fillRecord := none, heartbeatTimer := none
               pickupTimer := none, fillTimer := none }
    let moves (c : Instr) (cause : RobotCause) (e' : RobotEntry) : Prop :=
      ∃ t, exec c s = .next t ∧ Arbitrated s.transit t ∧
        t = { s with robots := { s.robots with table := s.robots.table.set r e' }
                     staging := t.staging, writer := t.writer, transit := t.transit } ∧
        Reported [.robotState r e.state e'.state cause e.owner e'.hold e'.fault e.faultCode e.run
                    (e.order.map Order.tag)] s t
    (e.state ∉ [.offline, .silent, .faulted] → e.heartbeatTimer = some h →
      s.robots.settings.heartbeatTimeout * 1000 ≤ (s.clock.m - h).toNat →
      moves (.heartbeatTimeout r) .heartbeatLost { gone with state := .silent }) ∧
    (e.state = .ordered → e.pickupTimer = some h →
      s.robots.settings.pickupTimeout * 1000 ≤ (s.clock.m - h).toNat →
      moves (.pickupTimeout r) .noPickup
        { gone with state := .faulted, hold := none, fault := some .noPickup }) ∧
    (e.state = .filling → e.fillTimer = some h →
      s.robots.settings.fillTimeout * 1000000 ≤ (s.clock.m - h).toNat →
      moves (.fillTimeout r) .fillOvertime
        { gone with state := .faulted, hold := none, fault := some .fillOvertime })

/-- ROBOT_LINK_NOTICE taking a loss of port p moves every robot with link port p in STARTING, READY,
ORDERED, FILLING or HELD to SILENT with its hold cause kept; a return moves none. KEEPALIVE_NOTICE
taking a lapse makes the view LAPSED and every LINE-owned robot in READY, ORDERED or FILLING HELD
with LINE_SILENT; a resume makes it not lapsed and moves none. One ROBOT_STATE report for each robot
moved, in ascending order. The notice is gone. Nothing else changes but what the arbiter grants.
Rests on section 6.5 (spec/06_filler_robots.md), section 6.6 (spec/06_filler_robots.md). -/
def Obligations.NoticesMoveEveryRobotConcerned : Prop :=
  ∀ s : State,
    let gone (e : RobotEntry) : RobotEntry :=
      { e with fresh := true, fp := 0, fillRecord := none, pickupTimer := none, fillTimer := none }
    let silent (e : RobotEntry) : RobotEntry :=
      { gone e with state := .silent, heartbeatTimer := none }
    let held (e : RobotEntry) : RobotEntry :=
      { gone e with state := .held, hold := some .lineSilent }
    let report (cause : RobotCause) (f : RobotEntry → RobotEntry) (r : Robot) : Report :=
      let e := s.robots.table.get r
      .robotState r e.state (f e).state cause e.owner (f e).hold e.fault e.faultCode e.run
        (e.order.map Order.tag)
    let moves (c : Instr) (hit : Robot → Bool) (cause : RobotCause) (f : RobotEntry → RobotEntry)
        (lapsed : Bool) (mail : Mail) : Prop :=
      ∃ t, exec c s = .next t ∧ Arbitrated s.transit t ∧
        t = { s with robots := { s.robots with table := t.robots.table, lapsed := lapsed }
                     mail := mail, staging := t.staging, writer := t.writer
                     transit := t.transit } ∧
        (∀ r, t.robots.table.get r =
          if hit r = true then f (s.robots.table.get r) else s.robots.table.get r) ∧
        Reported ((allRobots.filter hit).map (report cause f)) s t
    (∀ p rest, s.mail.robotLink = .loss p :: rest →
      moves .robotLinkNotice
        (fun r => decide (s.robots.settings.linkPort.get r = some p) &&
          !([.offline, .silent, .faulted].contains (s.robots.table.get r).state))
        .linkLost silent s.robots.lapsed { s.mail with robotLink := rest }) ∧
    (∀ p rest, s.mail.robotLink = .back p :: rest →
      moves .robotLinkNotice (fun _ => false) .linkLost silent s.robots.lapsed
        { s.mail with robotLink := rest }) ∧
    (∀ rest, s.mail.keepalive = .lapse :: rest →
      moves .keepaliveNotice
        (fun r => decide ((s.robots.table.get r).owner = .line) &&
          [.ready, .ordered, .filling].contains (s.robots.table.get r).state)
        .keepalive held true { s.mail with keepalive := rest }) ∧
    (∀ rest, s.mail.keepalive = .resume :: rest →
      moves .keepaliveNotice (fun _ => false) .keepalive held false
        { s.mail with keepalive := rest })

/-- FILLER_CREDIT for a SERVICE-owned robot is ignored. For LINE, a pass makes the run 0; a reject
adds one, saturating at 15, and where L is above 0 and the run at or above L: in READY, ORDERED or
FILLING QUARANTINE and ROBOT_STATE are raised and the robot is HELD with QUARANTINE; in STARTING or
SILENT with no hold cause the cause becomes QUARANTINE with its report; otherwise only the run
changes. The credit is gone. Nothing else changes but what the arbiter grants. Rests on section 6.5
(spec/06_filler_robots.md). -/
def Obligations.CreditMovesQuarantineRun : Prop :=
  ∀ (r : Robot) (rest : List Credit) (s : State),
    let e := s.robots.table.get r
    let mail := { s.mail with credits := rest }
    let run := min (e.run + 1) 15
    let quarantine := Report.quarantine r run s.robots.limit (e.order.map Order.tag)
    let becomes (e' : RobotEntry) (rs : List Report) : Prop :=
      ∃ t, exec .fillerCredit s = .next t ∧ Arbitrated s.transit t ∧
        t = { s with robots := { s.robots with table := s.robots.table.set r e' }, mail := mail
                     staging := t.staging, writer := t.writer, transit := t.transit } ∧
        Reported rs s t
    (s.mail.credits = .pass r :: rest ∨ s.mail.credits = .reject r :: rest → e.owner = .service →
      becomes e []) ∧
    (s.mail.credits = .pass r :: rest → e.owner = .line → becomes { e with run := 0 } []) ∧
    (s.mail.credits = .reject r :: rest → e.owner = .line →
      if s.robots.limit = 0 ∨ run < s.robots.limit then becomes { e with run := run } []
      else if e.state ∈ [.ready, .ordered, .filling] then
        becomes
          { e with run := run, state := .held, hold := some .quarantine, fresh := true, fp := 0
                   fillRecord := none, pickupTimer := none, fillTimer := none }
          [quarantine, .robotState r e.state .held .quarantine .line (some .quarantine) e.fault
            e.faultCode run (e.order.map Order.tag)]
      else if (e.state = .starting ∨ e.state = .silent) ∧ e.hold = none then
        becomes { e with run := run, hold := some .quarantine } [quarantine]
      else becomes { e with run := run } [])

/-- In a FREE slot, not SAFE, robot r named: ROBOT_ARM takes OFFLINE and ROBOT_CLEAR FAULTED to
STARTING with the heartbeat timer started; ROBOT_HOLD takes READY, ORDERED or FILLING to HELD with
COMMAND and leaves a HELD robot as it is; ROBOT_RELEASE takes HELD to READY with run 0 unless the
owner is LINE and the view LAPSED. The result is DONE with the robot and its state after, and each
change raises ROBOT_STATE with owner, hold and fault cause after the event; that RELEASE's report
has run 0 already is the model's choice (log 22). A release with a transfer pending also takes the
robot for SERVICE: a second ROBOT_STATE, cause TRANSFER, both with owner SERVICE, and the answer
taken. In any other state of the robot the result is REFUSED_STATE with its state and nothing
changes. In SAFE all four are REFUSED_STATE, with the robot and its state where the number names
one, and outside SAFE REFUSED_PARAM without data for a number outside 1 to 6. Rests on section 6.2
(spec/06_filler_robots.md), section 6.7 (spec/06_filler_robots.md), section 6.8
(spec/06_filler_robots.md). -/
def Obligations.RobotCommandsMoveOneRobot : Prop :=
  (∀ (n : Slot) (rest : BitVec 24) (r : Robot) (s : State),
    s.takes n → s.loader.condition ≠ .safe → s.paramBits n 0 0 8 = r.num →
    let e := s.robots.table.get r
    let base : RobotEntry := { e with fresh := true, fp := 0, fillRecord := none, fault :=
      if e.state = .faulted then none else e.fault, pickupTimer := none, fillTimer := none }
    let answers (c : Instr) (code : BitVec 8) (rc : ResultCode) (rs : List Report)
        (e' : RobotEntry) : Prop :=
      ∃ t, exec c s = .next t ∧ Arbitrated s.transit t ∧
        t = { s with robots := { s.robots with table := s.robots.table.set r e' }
                     slots := t.slots, staging := t.staging, writer := t.writer
                     transit := t.transit } ∧
        Answered n (opcodeWord code rest) rs rc
          (pageOne [byteOf r.num, byteOf e'.state.code]) s t
    let moves (c : Instr) (code : BitVec 8) (cause : RobotCause) (e' : RobotEntry) : Prop :=
      answers c code .done
        [.robotState r e.state e'.state cause e.owner e'.hold e'.fault e.faultCode e'.run
          (e.order.map Order.tag)] e'
    let passed : RobotEntry :=
      { base with state := .ready, hold := none, run := 0, owner := .service, transferPending := false }
    let report (before : RobotState) (cause : RobotCause) : Report :=
      .robotState r before .ready cause .service none e.fault e.faultCode 0 (e.order.map Order.tag)
    (if e.state = .offline then
       moves (.robotArm n rest) 0x01 .arm
         { base with state := .starting, heartbeatTimer := some s.clock.m }
     else answers (.robotArm n rest) 0x01 .refusedState [] e) ∧
    (if e.state = .faulted then
       moves (.robotClear n rest) 0x02 .clear
         { base with state := .starting, heartbeatTimer := some s.clock.m }
     else answers (.robotClear n rest) 0x02 .refusedState [] e) ∧
    (if e.state ∈ [.ready, .ordered, .filling] then
       moves (.robotHold n rest) 0x03 .holdCommand
         { base with state := .held, hold := some .command }
     else if e.state = .held then answers (.robotHold n rest) 0x03 .done [] e
     else answers (.robotHold n rest) 0x03 .refusedState [] e) ∧
    (if e.state = .held ∧ ¬ (e.owner = .line ∧ s.robots.lapsed = true) then
       if e.transferPending = true then
         ∃ t, exec (.robotRelease n rest) s = .next t ∧ Arbitrated s.transit t ∧
           t = { s with robots := { s.robots with table := s.robots.table.set r passed }
                        mail := { s.mail with answers := s.mail.answers ++ [.taken r] }
                        slots := t.slots, staging := t.staging, writer := t.writer
                        transit := t.transit } ∧
           Answered n (opcodeWord 0x04 rest) [report .held .release, report .ready .transfer] .done
             (pageOne [byteOf r.num, byteOf RobotState.ready.code]) s t
       else moves (.robotRelease n rest) 0x04 .release
         { base with state := .ready, hold := none, run := 0 }
     else answers (.robotRelease n rest) 0x04 .refusedState [] e)) ∧
  (∀ (n : Slot) (rest : BitVec 24) (s : State) (c : Instr) (code : BitVec 8),
    s.takes n →
    (c, code) ∈ [(.robotArm n rest, 0x01), (.robotClear n rest, 0x02), (.robotHold n rest, 0x03),
      (.robotRelease n rest, 0x04)] →
    let refused (rc : ResultCode) (data : Option (List Word)) : Prop :=
      ∃ t, exec c s = .next t ∧ Arbitrated s.transit t ∧
        t = { s with slots := t.slots, staging := t.staging, writer := t.writer
                     transit := t.transit } ∧
        Answered n (opcodeWord code rest) [] rc data s t
    let named := s.paramBits n 0 0 8
    (∀ r : Robot, s.loader.condition = .safe → named = r.num →
      refused .refusedState (pageOne [byteOf r.num, byteOf (s.robots.table.get r).state.code])) ∧
    (named = 0 ∨ 6 < named →
      refused (if s.loader.condition = .safe then .refusedState else .refusedParam) none))

/-- QUARANTINE_SET in a FREE slot: in SAFE REFUSED_STATE, above 15 REFUSED_PARAM, and L stays in
both; otherwise L becomes the given value and the result is DONE with the old and the new L. No
robot's entry changes, whatever its run. A reject credit taken after it tests against the new L, and
with L at 0 holds no robot. L keeps its value: no other command changes it but RELOAD, the end of a
load, a cabinet reset and power-on. A cabinet reset, an accepted RELOAD and power-on return L to the
delivered value. (Said of commands in whose event no request of LINE that arrives, is HELD or waits
on its lane carries a word with the opcode of QUARANTINE_SET or RELOAD, as such a request is that
command.) Formalises R95. -/
def Obligations.QuarantineSetChangesTheLimitOnly : Prop :=
  ∀ (n : Slot) (rest : BitVec 24) (s : State), s.takes n →
    let l := s.paramBits n 0 0 8
    (∃ t code data, exec (.quarantineSet n rest) s = .next t ∧ Arbitrated s.transit t ∧
      t = { s with robots := { s.robots with limit := t.robots.limit }, slots := t.slots
                   staging := t.staging, writer := t.writer, transit := t.transit } ∧
      Answered n (opcodeWord 0x07 rest) [] code data s t ∧
      (s.loader.condition = .safe →
        code = .refusedState ∧ data = none ∧ t.robots.limit = s.robots.limit) ∧
      (s.loader.condition ≠ .safe → 15 < l →
        code = .refusedParam ∧ data = none ∧ t.robots.limit = s.robots.limit) ∧
      (s.loader.condition ≠ .safe → l ≤ 15 →
        code = .done ∧ data = pageOne [byteOf s.robots.limit, byteOf l] ∧ t.robots.limit = l)) ∧
    (∀ (r : Robot) (cs : List Credit) (u t : State), u.mail.credits = .reject r :: cs →
      exec .fillerCredit u = .next t →
      (u.robots.limit = 0 ∨ min ((u.robots.table.get r).run + 1) 15 < u.robots.limit →
        (t.robots.table.get r).state = (u.robots.table.get r).state) ∧
      ((u.robots.table.get r).owner = .line → u.robots.limit ≠ 0 →
        u.robots.limit ≤ min ((u.robots.table.get r).run + 1) 15 →
        (u.robots.table.get r).state ∈ [.ready, .ordered, .filling] →
        (t.robots.table.get r).state = .held)) ∧
    let quiet (c : Instr) (u : State) : Prop :=
      ∀ q, c = .requestArrival .line q ∨ u.transit.ports.line = .held q ∨ q ∈ u.transit.lanes.line →
        ∀ w ∈ q.words, opcodeField w.data ≠ 0x07 ∧ opcodeField w.data ≠ 0x60
    (∀ c u t, quiet c u → exec c u = .next t →
      (∀ n' rest', c ≠ .quarantineSet n' rest') → (∀ n' rest', c ≠ .reload n' rest') →
      (∀ pass store, c ≠ .loadEnd pass store) → c ≠ .cabinetReset → (∀ key, c ≠ .powerOn key) →
      t.robots.limit = u.robots.limit) ∧
    (∀ u t, quiet .cabinetReset u → exec .cabinetReset u = .next t →
      t.robots.limit = u.robots.settings.limit) ∧
    (∀ (n' : Slot) (rest' : BitVec 24) (u t : State), quiet (.reload n' rest') u →
      u.loader.load = none → exec (.reload n' rest') u = .next t → t.loader.load = some .reload →
      t.robots.limit = u.robots.settings.limit) ∧
    (∀ key u t, exec (.powerOn key) u = .next t → t.robots.limit = t.robots.settings.limit)

/-- TRANSFER_REQUEST for a LINE-owned robot: in READY or HELD the owner becomes SERVICE and the
robot enters READY; in STARTING or OFFLINE the owner becomes SERVICE and the state stays; all with
no hold cause, fresh set, Fp 0, a ROBOT_STATE report of cause TRANSFER and the answer taken. In
ORDERED, FILLING, SILENT and FAULTED transfer_pending is set, the owner stays, the answer is
pending. A SERVICE-owned robot is unchanged and answered as taken. The request is gone. Nothing else
changes but what the arbiter grants. Rests on section 6.8 (spec/06_filler_robots.md). -/
def Obligations.TransferRequestByState : Prop :=
  ∀ (r : Robot) (rest : List TransferMsg) (s : State),
    s.mail.transfers = .request r :: rest →
    let e := s.robots.table.get r
    let becomes (e' : RobotEntry) (a : TransferReply) (rs : List Report) : Prop :=
      ∃ t, exec .transferRequest s = .next t ∧ Arbitrated s.transit t ∧
        t = { s with robots := { s.robots with table := s.robots.table.set r e' }
                     mail := { s.mail with transfers := rest, answers := s.mail.answers ++ [a] }
                     staging := t.staging, writer := t.writer, transit := t.transit } ∧
        Reported rs s t
    let taken : RobotEntry :=
      { e with owner := .service, transferPending := false, hold := none, fresh := true, fp := 0 }
    let report (e' : RobotEntry) : Report :=
      .robotState r e.state e'.state .transfer .service none e.fault e.faultCode e.run
        (e.order.map Order.tag)
    (e.owner = .service → becomes e (.taken r) []) ∧
    (e.owner = .line → e.state = .ready ∨ e.state = .held →
      let e' := { taken with state := .ready, fillRecord := none, pickupTimer := none
                             fillTimer := none }
      becomes e' (.taken r) [report e']) ∧
    (e.owner = .line → e.state = .starting ∨ e.state = .offline →
      becomes taken (.taken r) [report taken]) ∧
    (e.owner = .line → e.state ∈ [.ordered, .filling, .silent, .faulted] →
      becomes { e with transferPending := true } (.pending r) [])

/-- REQUEST_ARRIVAL of a rightful write in the STATUS region, its account not in debt, is charged
and waits for memory, at offsets below 48 with the admission stamp at record offsets 6 and 7, above
as presented. Unless it is ROBOTLINK's, 8 words with all enables in robot r's slot and with a new
heartbeat value, it does nothing else. Such a record is recorded with this moment, and: OFFLINE
records it only; READY and HELD restart the timer; SILENT with its link in service enters STARTING;
STARTING restarts the timer and, envelope written and link in service, enters HELD with a kept
cause, else HELD with LINE_SILENT for LINE while LAPSED, else READY, where a pending transfer is
then taken; otherwise SILENT and STARTING stay. FAULT makes any state but OFFLINE and FAULTED
FAULTED with REPORTED and the record's code; in FAULTED it updates the code. ROBOT_STATE carries
owner, hold and fault cause after the event, and fault code, run and tag as they stand when it is
raised (log 22). Nothing else changes but what the arbiter grants. Rests on section 6.2
(spec/06_filler_robots.md), section 6.3 (spec/06_filler_robots.md), section 6.8
(spec/06_filler_robots.md), section 2.3 (spec/02_region_map_and_in_flight_rewriting.md), section 2.4
(spec/02_region_map_and_in_flight_rewriting.md). -/
def Obligations.HeartbeatActsByState : Prop :=
  (∀ (m : Master) (q : Request) (s : State),
      Rightful m q .status s →
      let o := (s.map.place q.addr.toNat).offset
      (m ≠ .robotlink ∨ q.len ≠ .eight ∨ (∃ w ∈ q.words, w.enables ≠ 0b1111) ∨ 48 ≤ o ∨
        ∃ r : Robot, r.num = o / 8 + 1 ∧
          (s.robots.table.get r).lastHeartbeat = some (StatusRecord.ofWords q.words).heartbeat) →
      ∃ t ws, exec (.requestArrival m q) s = .next t ∧ Admitted m q .status ws s t ∧
        (if o < 48 then Stamped s.clock.stamp o q.words ws else ws = q.words) ∧
        t = { s with
          pacing := s.charged m q
          window := { s.window with inFlight := s.window.inFlight || decide (m = .service) }
          transit := t.transit }) ∧
  (∀ (q : Request) (r : Robot) (s : State),
      Rightful .robotlink q .status s → q.len = .eight → (∀ w ∈ q.words, w.enables = 0b1111) →
      (s.map.place q.addr.toNat).offset = 8 * (r.num - 1) →
      let e := s.robots.table.get r
      let x := StatusRecord.ofWords q.words
      let tag := e.order.map Order.tag
      let linked : Bool :=
        match s.robots.settings.linkPort.get r with
        | none => true
        | some p => (s.switch.table.get p).linkUp && decide (s.switch.state ≠ .silent)
      let h : RobotEntry :=
        { e with lastHeartbeat := some x.heartbeat, lastValid := some ⟨s.clock.m, false⟩ }
      let g : RobotEntry := { h with heartbeatTimer := some s.clock.m }
      let still (e' : RobotEntry) : RobotEntry :=
        { e' with fresh := true, fp := 0, fillRecord := none, pickupTimer := none, fillTimer := none }
      let moves (after : RobotState) (cause : RobotCause) (e' : RobotEntry) : Prop :=
        StatusTaken q r e'
          [.robotState r e.state after cause e'.owner e'.hold e'.fault e'.faultCode e.run tag] [] s
      e.lastHeartbeat ≠ some x.heartbeat →
      (e.state = .offline → StatusTaken q r h [] [] s) ∧
      (e.state = .faulted →
        StatusTaken q r { h with faultCode := if x.condition = .fault then x.faultCode else e.faultCode }
          [] [] s) ∧
      (x.condition = .fault → e.state ≠ .offline → e.state ≠ .faulted →
        moves .faulted .faultReported
          { still h with state := .faulted, hold := none, fault := some .reported
                         faultCode := x.faultCode, heartbeatTimer := none }) ∧
      (x.condition ≠ .fault → e.state = .ready ∨ e.state = .held → StatusTaken q r g [] [] s) ∧
      (x.condition ≠ .fault → e.state = .silent →
        if linked = true then moves .starting .heartbeat { still g with state := .starting }
        else StatusTaken q r h [] [] s) ∧
      (x.condition ≠ .fault → e.state = .starting →
        if e.envelopeWritten = false ∨ linked = false then StatusTaken q r g [] [] s
        else
          (∀ c, e.hold = some c → moves .held .heartbeat { still g with state := .held }) ∧
          (e.hold = none → e.owner = .line ∧ s.robots.lapsed = true →
            moves .held .heartbeat { still g with state := .held, hold := some .lineSilent }) ∧
          (e.hold = none → ¬ (e.owner = .line ∧ s.robots.lapsed = true) →
            if e.transferPending = true then
              let e' := { still g with state := .ready, owner := .service, transferPending := false }
              let report (before : RobotState) (cause : RobotCause) : Report :=
                .robotState r before .ready cause .service none e.fault e.faultCode e.run tag
              StatusTaken q r e' [report .starting .heartbeat, report .ready .transfer] [.taken r] s
            else moves .ready .heartbeat { still g with state := .ready })))

/-- REQUEST_ARRIVAL of a valid heartbeat of robot r in ORDERED or FILLING, no FAULT: its account not
in debt: it is admitted, charged and stamped, its value recorded and the timer restarted, and: IDLE
does nothing; FILLING in ORDERED with the current tag enters FILLING, the fill record taking tag and
guarded volume and the fill timer starting; FILLING in FILLING with the current or the record's tag
does nothing; DONE and HALTED with the current tag, or in FILLING the record's, enter READY; any
other tag counts a mismatch. With a transfer pending the robot then passes to SERVICE (log 34:
before the check). For DONE, |D - V'| times 1000 above the tolerance times V' (V' of the order in
ORDERED, of the record in FILLING) raises FILL_DEVIATION and is a reject credit, ignored for
SERVICE: the run rises by one, saturating at 15; where L is above 0 and the run reaches it,
QUARANTINE is raised and the robot is HELD. Every ROBOT_STATE carries owner and hold cause after the
event, and by the model's choice (log 22) the run when it is raised: FILL_END's that before the
credit. Nothing else changes but what the arbiter grants. Rests on section 6.2
(spec/06_filler_robots.md), section 6.3 (spec/06_filler_robots.md), section 6.5
(spec/06_filler_robots.md), section 6.8 (spec/06_filler_robots.md), section 6.10
(spec/06_filler_robots.md). -/
def Obligations.FillEndIsCheckedForDeviation : Prop :=
  ∀ (q : Request) (r : Robot) (s : State),
    Rightful .robotlink q .status s → q.len = .eight → (∀ w ∈ q.words, w.enables = 0b1111) →
    (s.map.place q.addr.toNat).offset = 8 * (r.num - 1) →
    let e := s.robots.table.get r
    let x := StatusRecord.ofWords q.words
    let tag := e.order.map Order.tag
    let g : RobotEntry :=
      { e with lastHeartbeat := some x.heartbeat, lastValid := some ⟨s.clock.m, false⟩
               heartbeatTimer := some s.clock.m }
    let known := tag = some x.tag ∨ (e.state = .filling ∧ e.fillRecord.map FillRecord.tag = some x.tag)
    e.lastHeartbeat ≠ some x.heartbeat → e.state = .ordered ∨ e.state = .filling →
    (x.condition = .idle → StatusTaken q r g [] [] s) ∧
    (x.condition ∈ [.filling, .done, .halted] → ¬ known →
      StatusTaken q r { g with mismatches := min (e.mismatches + 1) 65535 } [] [] s) ∧
    (∀ o v, x.condition = .filling → e.state = .ordered → e.order = some o → o.tag = x.tag →
      o.volume = some v →
      StatusTaken q r
        { g with state := .filling, fillRecord := some { tag := x.tag, volume := v }
                 pickupTimer := none, fillTimer := some s.clock.m }
        [.robotState r .ordered .filling .pickup e.owner e.hold e.fault e.faultCode e.run tag] [] s) ∧
    (x.condition = .filling → e.state = .filling → known → StatusTaken q r g [] [] s) ∧
    (let owner : Owner := if e.transferPending = true then .service else e.owner
     let answers : List TransferReply := if e.transferPending = true then [.taken r] else []
     let ready : RobotEntry :=
       { g with state := .ready, owner := owner, transferPending := false, hold := none, fresh := true
                fp := 0, fillRecord := none, pickupTimer := none, fillTimer := none }
     let ends (e' : RobotEntry) : List Report :=
       [.robotState r e.state .ready .fillEnd owner e'.hold e.fault e.faultCode e.run tag] ++
       (if e.transferPending = true then
          [.robotState r .ready .ready .transfer owner e'.hold e.fault e.faultCode e.run tag] else [])
     (x.condition = .halted → known → StatusTaken q r ready (ends ready) answers s) ∧
     (∀ v, x.condition = .done → known →
       (e.state = .ordered → e.order.bind Order.volume = some v) →
       (e.state = .filling → e.fillRecord.map FillRecord.volume = some v) →
       let bad := s.robots.settings.tolerance * v < ((x.delivered : Int) - (v : Int)).natAbs * 1000
       let deviation :=
         Report.fillDeviation r x.tag v x.delivered s.robots.settings.tolerance owner
       let run := min (e.run + 1) 15
       let counted := { ready with run := run }
       let held := { counted with state := .held, hold := some .quarantine }
       (¬ bad → StatusTaken q r ready (ends ready) answers s) ∧
       (bad → owner = .service → StatusTaken q r ready (ends ready ++ [deviation]) answers s) ∧
       (bad → owner = .line → s.robots.limit = 0 ∨ run < s.robots.limit →
         StatusTaken q r counted (ends counted ++ [deviation]) answers s) ∧
       (bad → owner = .line → ¬ (s.robots.limit = 0 ∨ run < s.robots.limit) →
         StatusTaken q r held
           (ends held ++ [deviation, .quarantine r run s.robots.limit tag,
             .robotState r .ready .held .quarantine .line (some .quarantine) e.fault e.faultCode run
               tag]) answers s)))

/-- REQUEST_ARRIVAL of a rightful write in robot r's order slot, no EMPTY port having a request on
its lane: refused NOT_OWNER where the master is not the owner's; else SHAPE unless 8 words with all
enables; else BAD_MODE where the mode code is 0; else BUSY for FILL while FILLING and STATE for any
mode in OFFLINE, STARTING, SILENT and FAULTED and for FILL in HELD. The completion is DENIED,
ORDER_REFUSED is raised with reason, state, owner, and tag and mode where word 0 is covered (none
elsewhere; for NOT_OWNER the model's choice, log 35), then the denial is counted with cause KIND
(behind ORDER_REFUSED: the model's choice, log 38). No robot and nothing else changes but what the
arbiter grants. Rests on section 7.2 (spec/07_fill_order_guard.md), section 7.3
(spec/07_fill_order_guard.md). -/
def Obligations.OrderWriteIsRefusedByTheFirstTest : Prop :=
  ∀ (m : Master) (q : Request) (r : Robot) (k : Nat) (reason : OrderReason) (s : State),
    q.wf = true → q.dir = .write → s.transit.ports.get m = .empty → s.lanesTaken →
    q.addr.toNat % q.len.words = 0 →
    (s.map.place q.addr.toNat).region = (s.map.place (q.addr.toNat + q.len.words - 1)).region →
    (s.map.place q.addr.toNat).kind = .orders → k < 8 →
    (s.map.place q.addr.toNat).offset = 8 * (r.num - 1) + k →
    deniedRight s.window m .write (s.map.place q.addr.toNat) = none →
    let e := s.robots.table.get r
    let w0 := wordAt q.words 0
    let mode := w0.extractLsb' 16 2
    let owner : Master := match e.owner with | .line => .line | .service => .service
    (if m ≠ owner then reason = .notOwner
     else if ¬ (q.len = .eight ∧ ∀ w ∈ q.words, w.enables = 0b1111) then reason = .shape
     else if mode = 0 then reason = .badMode
     else (e.state ∈ [.offline, .starting, .silent, .faulted] ∧ reason = .state) ∨
       (e.state = .held ∧ mode = 1 ∧ reason = .state) ∨
       (e.state = .filling ∧ mode = 1 ∧ reason = .busy)) →
    ∃ t, exec (.requestArrival m q) s = .next t ∧
      t = { s with limiters := t.limiters, staging := t.staging, writer := t.writer,
                   transit := t.transit } ∧
      Denied m { cause := .kind, dir := .write, addr := q.addr, len := q.len
                 region := some (s.map.place q.addr.toNat).region }
        [.orderRefused r m reason e.state e.owner
          (if k = 0 then some (w0.extractLsb' 0 16) else none) (if k = 0 then some mode else none)]
        s t ∧
      Arbitrated { s.transit with
        completions := s.transit.completions.set m (some { status := .denied, data := [] }) } t

/-- REQUEST_ARRIVAL of a rightful FILL of robot r's owner in READY or ORDERED, 8 words, all enables,
its account not in debt, no EMPTY port having a request on its lane: V' = min(max(V, Vmin), Vmax),
F1 = min(F, effective Fmax), F' = min(F1, Fp + Fstep), H' = min(max(H, Hmin), Hmax) go to memory
with the guard word (a flag for each change, the owner) and the admission stamp; words 0 and 5 as
presented; a paced account is charged. The robot is ORDERED with this order, fresh clear, Fp = F',
the pickup timer started. ROBOT_STATE is raised from READY, in step 1 and so with the tag of the
order before this one or none, then ORDER_GUARDED where a flag is set. Nothing else changes but what
the arbiter grants. Rests on section 7.3 (spec/07_fill_order_guard.md), section 7.4
(spec/07_fill_order_guard.md), section 7.1 (spec/07_fill_order_guard.md). -/
def Obligations.FillOrderIsGuardedAndPassed : Prop :=
  ∀ (m : Master) (q : Request) (r : Robot) (w0 w1 w2 w3 w4 w5 w6 w7 : WriteWord) (s : State),
    q.dir = .write → q.len = .eight → q.words = [w0, w1, w2, w3, w4, w5, w6, w7] →
    (∀ w ∈ q.words, w.enables = 0b1111) → q.addr.toNat % 8 = 0 →
    s.transit.ports.get m = .empty → s.lanesTaken →
    (s.map.place q.addr.toNat).region = (s.map.place (q.addr.toNat + 7)).region →
    (s.map.place q.addr.toNat).kind = .orders →
    (s.map.place q.addr.toNat).offset = 8 * (r.num - 1) →
    deniedRight s.window m .write (s.map.place q.addr.toNat) = none →
    (∀ a, (s.pacing.get m).account = some a → 0 ≤ a.credit) →
    let e := s.robots.table.get r
    m = (match e.owner with | .line => .line | .service => .service) →
    w0.data.extractLsb' 16 2 = 1 → e.state = .ready ∨ e.state = .ordered →
    let tag : BitVec 16 := w0.data.extractLsb' 0 16
    let v := w1.data.toNat
    let f := w2.data.toNat
    let h := w3.data.toNat
    let fmax := match e.owner with
      | .line => e.envelope.fmax
      | .service => min e.envelope.fmax s.robots.settings.serviceFlow
    let v' := min (max v e.envelope.vmin) e.envelope.vmax
    let f1 := min f fmax
    let f' := min f1 (e.fp + e.envelope.fstep)
    let h' := min (max h e.envelope.hmin) e.envelope.hmax
    let flags : GuardFlags :=
      { volClamped := decide (v' ≠ v), flowCapped := decide (f1 < f), ramped := decide (f' < f1)
        heightClamped := decide (h' ≠ h) }
    let word (x : Word) : WriteWord := { data := x, enables := 0b1111 }
    ∃ t, exec (.requestArrival m q) s = .next t ∧
      t = { s with
        pacing := s.charged m q
        robots := { s.robots with
          table := s.robots.table.set r
            { e with state := .ordered, order := some { tag := tag, mode := .fill, volume := some v' }
                     fresh := false, fp := f', pickupTimer := some s.clock.m
                     fillTimer := if e.state = .ready then none else e.fillTimer } }
        window := { s.window with inFlight := s.window.inFlight || decide (m = .service) }
        staging := t.staging, writer := t.writer, transit := t.transit } ∧
      Arbitrated { s.transit with
        ports := s.transit.ports.set m
          (.waiting
            { dir := .write, addr := q.addr, len := .eight
              words := [w0, word (BitVec.ofNat 32 v'), word (BitVec.ofNat 32 f'),
                word (BitVec.ofNat 32 h'), word (guardWord flags e.owner), w5,
                word s.clock.stamp.wordA, word s.clock.stamp.wordB]
              region := (s.map.place q.addr.toNat).region, kind := .orders
              offset := 8 * (r.num - 1) }) } t ∧
      Reported
        ((if e.state = .ready then
            [.robotState r .ready .ordered .order e.owner e.hold e.fault e.faultCode e.run
              (e.order.map Order.tag)]
          else []) ++
         (if flags = ⟨false, false, false, false⟩ then []
          else [.orderGuarded r e.owner tag (min v 65535) (min f 65535) (min h 65535) v' f' h'
            flags])) s t

/-- REQUEST_ARRIVAL of a rightful HOLD or PARK of robot r's owner in READY, ORDERED, FILLING or
HELD, 8 words, all enables, its account not in debt: it is charged; words 0 to 3 and 5 wait for
memory as presented, word 4 as the guard word with no flag and the owner, words 6 and 7 as the
admission stamp. The current order is the order's tag and mode without a volume, fresh is clear and
Fp 0. In READY, FILLING and HELD the state, timers and fill record stay and no report is raised;
ORDERED enters READY with a ROBOT_STATE report of cause ORDER in step 1, so with the tag of the
order before this one. A pending transfer is then taken at the entry to READY: owner SERVICE, fresh
set again, a second report of cause TRANSFER with this order's tag, both with owner SERVICE, and the
answer taken. Nothing else changes but what the arbiter grants and, for SERVICE, service in flight.
Rests on section 7.3 (spec/07_fill_order_guard.md), section 7.4 (spec/07_fill_order_guard.md),
section 6.2 (spec/06_filler_robots.md), section 6.8 (spec/06_filler_robots.md). -/
def Obligations.StopOrderIsPassed : Prop :=
  ∀ (m : Master) (q : Request) (r : Robot) (w0 w1 w2 w3 w4 w5 w6 w7 : WriteWord) (mode : OrderMode)
    (s : State),
    Rightful m q .orders s → q.len = .eight → q.words = [w0, w1, w2, w3, w4, w5, w6, w7] →
    (∀ w ∈ q.words, w.enables = 0b1111) → (s.map.place q.addr.toNat).offset = 8 * (r.num - 1) →
    let e := s.robots.table.get r
    m = (match e.owner with | .line => .line | .service => .service) →
    (w0.data.extractLsb' 16 2 = 2 ∧ mode = .hold) ∨ (w0.data.extractLsb' 16 2 = 3 ∧ mode = .park) →
    e.state ∈ [.ready, .ordered, .filling, .held] →
    let tag : BitVec 16 := w0.data.extractLsb' 0 16
    let word (x : Word) : WriteWord := { data := x, enables := 0b1111 }
    let guard : Word := if e.owner = .service then 0x100 else 0
    let passes (e' : RobotEntry) (rs : List Report) (answers : List TransferReply) : Prop :=
      ∃ t, exec (.requestArrival m q) s = .next t ∧
        Admitted m q .orders
          [w0, w1, w2, w3, word guard, w5, word s.clock.stamp.wordA, word s.clock.stamp.wordB] s t ∧
        t = { s with
          pacing := s.charged m q
          robots := { s.robots with table := s.robots.table.set r e' }
          mail := { s.mail with answers := s.mail.answers ++ answers }
          window := { s.window with inFlight := s.window.inFlight || decide (m = .service) }
          staging := t.staging, writer := t.writer, transit := t.transit } ∧
        Reported rs s t
    let taken : RobotEntry :=
      { e with order := some { tag := tag, mode := mode, volume := none }, fresh := false, fp := 0 }
    let ready : RobotEntry :=
      { taken with state := .ready, hold := none, fillRecord := none, pickupTimer := none
                   fillTimer := none }
    let report (before : RobotState) (cause : RobotCause) (owner : Owner)
        (x : Option (BitVec 16)) : Report :=
      .robotState r before .ready cause owner none e.fault e.faultCode e.run x
    let old := e.order.map Order.tag
    (e.state ≠ .ordered → passes taken [] []) ∧
    (e.state = .ordered → e.transferPending = false →
      passes ready [report .ordered .order e.owner old] []) ∧
    (e.state = .ordered → e.transferPending = true →
      passes { ready with owner := .service, transferPending := false, fresh := true }
        [report .ordered .order .service old, report .ready .transfer .service (some tag)]
        [.taken r])

/-- MEMORY_COMPLETION, OKAY, of ROBOTLINK's read that covers word 0 of robot r's order slot, no
EMPTY port and not ROBOTLINK's having a request on its lane: the mode field delivered is HOLD where
fresh is set, or where the robot is neither ORDERED nor FILLING and memory's mode is not HOLD or
PARK; otherwise it is memory's. The other bits and words are memory's, the state of no robot
changes. So FILL is delivered only in ORDERED or FILLING with fresh clear. Rests on section 7.6
(spec/07_fill_order_guard.md). -/
def Obligations.RobotlinkReadsFillOnlyUnderAnOrder : Prop :=
  ∀ (x : Txn) (r : Robot) (w : Word) (rest : List Word) (s : State),
    s.transit.memPort = .master .robotlink → s.transit.ports.robotlink = .inMemory x →
    s.lanesTaken → s.transit.lanes.robotlink = [] → x.dir = .read → x.kind = .orders → x.offset = 8 * (r.num - 1) →
    (w :: rest).length = x.len.words →
    let e := s.robots.table.get r
    ∃ t v, exec (.memoryCompletion .current true (w :: rest)) s = .next t ∧
      t = { s with transit := t.transit } ∧
      t.transit.completions.robotlink = some { status := .okay, data := v :: rest } ∧
      v.extractLsb' 0 16 = w.extractLsb' 0 16 ∧ v.extractLsb' 18 14 = w.extractLsb' 18 14 ∧
      v.extractLsb' 16 2 =
        (if e.fresh = true ∨ (¬ (e.state = .ordered ∨ e.state = .filling) ∧
            w.extractLsb' 16 2 ≠ (2 : BitVec 2) ∧ w.extractLsb' 16 2 ≠ (3 : BitVec 2))
         then 2 else w.extractLsb' 16 2) ∧
      (v.extractLsb' 16 2 = (1 : BitVec 2) →
        (e.state = .ordered ∨ e.state = .filling) ∧ e.fresh = false)

/-- ROBOT_ENVELOPE in a FREE slot, not SAFE, robot r named: in ORDERED or FILLING REFUSED_STATE;
else with Vmin, Vmax clamped to 30,000, Fmax to 1000, Fstep to 1..1000, Hmin, Hmax to 500:
REFUSED_PARAM where Vmin is above Vmax or Hmin above Hmax, and otherwise the envelope is these
values, envelope_written set, the result DONE, or DONE_ADJUSTED where a value was clamped. The
result carries robot, state and envelope in force. In SAFE REFUSED_STATE, and outside SAFE
REFUSED_PARAM without data for a number outside 1 to 6. A refusal changes nothing; where the number
names a robot it carries the same fields as they stood, of which robot and state besides the
envelope are the model's choice (log 12); nothing else changes but what the arbiter grants. Rests on
section 7.5 (spec/07_fill_order_guard.md). -/
def Obligations.RobotEnvelopeIsSettledAndWritten : Prop :=
  (∀ (n : Slot) (rest : BitVec 24) (r : Robot) (s : State),
    s.takes n → s.paramBits n 0 0 8 = r.num →
    let e := s.robots.table.get r
    let p (i : Nat) : Nat := s.paramWord n i
    let v : Envelope :=
      { vmin := min (p 1) 30000, vmax := min (p 2) 30000, fmax := min (p 3) 1000
        fstep := max 1 (min (p 4) 1000), hmin := min (p 5) 500, hmax := min (p 6) 500 }
    let answers (code : ResultCode) (e' : RobotEntry) : Prop :=
      ∃ t, exec (.robotEnvelope n rest) s = .next t ∧ Arbitrated s.transit t ∧
        t = { s with robots := { s.robots with table := s.robots.table.set r e' }
                     slots := t.slots, staging := t.staging, writer := t.writer
                     transit := t.transit } ∧
        Answered n (opcodeWord 0x05 rest) [] code
          (pageOne (byteOf r.num :: byteOf e.state.code :: envelopeFields e'.envelope)) s t
    if s.loader.condition = .safe ∨ e.state = .ordered ∨ e.state = .filling then
      answers .refusedState e
    else if v.vmax < v.vmin ∨ v.hmax < v.hmin then answers .refusedParam e
    else answers
      (if v = { vmin := p 1, vmax := p 2, fmax := p 3, fstep := p 4, hmin := p 5, hmax := p 6 }
       then .done else .doneAdjusted)
      { e with envelope := v, envelopeWritten := true }) ∧
  (∀ (n : Slot) (rest : BitVec 24) (s : State),
    s.takes n → s.paramBits n 0 0 8 = 0 ∨ 6 < s.paramBits n 0 0 8 →
    ∃ t, exec (.robotEnvelope n rest) s = .next t ∧ Arbitrated s.transit t ∧
      t = { s with slots := t.slots, staging := t.staging, writer := t.writer
                   transit := t.transit } ∧
      Answered n (opcodeWord 0x05 rest) []
        (if s.loader.condition = .safe then .refusedState else .refusedParam) none s t)

/-- ENCODER_PULSE: a reverse pulse takes P back by one and sets the last direction, nothing else,
RUNNING or not; a forward pulse while STOPPED advances P and the direction alone. A forward pulse
while RUNNING, no head at its reject point: every AWAITED slot k with P past P0 + Dk + W becomes
MISSED, no other slot changes, and an ACTIVE gate whose off position P has reached becomes IDLE.
Nothing else changes but what the arbiter grants. Rests on section 8.1
(spec/08_conveyor_tracking_and_the_bottle_queue.md), section 8.6
(spec/08_conveyor_tracking_and_the_bottle_queue.md), section 9.6
(spec/09_verdicts_and_the_reject_gate.md). -/
def Obligations.EncoderPulseMovesTheBelt : Prop :=
  ∀ s : State,
    (∃ t, exec (.encoderPulse .reverse) s = .next t ∧ Arbitrated s.transit t ∧
      t = { s with tracker := { s.tracker with pos := s.tracker.pos - 1, lastDir := .reverse }
                   transit := t.transit }) ∧
    (s.tracker.running = false →
      ∃ t, exec (.encoderPulse .forward) s = .next t ∧ Arbitrated s.transit t ∧
        t = { s with tracker := { s.tracker with pos := s.tracker.pos + 1, lastDir := .forward }
                     transit := t.transit }) ∧
    (∀ k, s.tracker.running = true → s.tracker.params = some k →
      (∀ b, s.tracker.queue.head? = some b →
        posDelta (s.tracker.pos + 1) (posAdd b.p0 k.rejectOffset) < 0) →
      ∃ t q, exec (.encoderPulse .forward) s = .next t ∧ Arbitrated s.transit t ∧
        t = { s with
          tracker := { s.tracker with
            pos := s.tracker.pos + 1, lastDir := .forward, queue := q
            gateActive := s.tracker.gateActive &&
              decide (posDelta (s.tracker.pos + 1) s.tracker.offPos < 0) }
          transit := t.transit } ∧
        q.length = s.tracker.queue.length ∧
        ∀ (i : Nat) (b : Bottle), s.tracker.queue[i]? = some b →
          ∃ cams, q[i]? = some { b with cams := cams } ∧
            ∀ c, cams.get c =
              if b.cams.get c = .awaited ∧
                  0 < posDelta (s.tracker.pos + 1) (posAdd b.p0 (k.camOffset c + k.window))
              then .missed else b.cams.get c)

/-- ENCODER_PULSE forward, RUNNING: P advances, passed windows become MISSED, and while P has
reached the head's reject point, the head is decided. It is rejected with OVERRUN where its overrun
count is above 0, else with VERDICT where a slot is REJECT, else by the no-verdict action with
NO_VERDICT where a slot is MISSED, SHOT or NO_VERDICT (AWAITED too: the model's choice, log 54),
else passed as VERIFIED. Passed or rejected rises by one; a reject opens the gate until P + G +
overrun times Pt, or extends it if that lies further, and raises BOTTLE_REJECTED; VERDICT and
VERIFIED credit the filler named by the lowest such camera. The head leaves, and the next entry, if
its reject point too is reached, is decided from what that left: gate updates, reports and credits
come in queue order. A head that has not reached its point ends the decisions, whatever stands
behind it. Then the gate is tested. Nothing else changes but what the arbiter grants. Rests on
section 9.3 (spec/09_verdicts_and_the_reject_gate.md), section 9.4
(spec/09_verdicts_and_the_reject_gate.md), section 9.5 (spec/09_verdicts_and_the_reject_gate.md),
section 9.6 (spec/09_verdicts_and_the_reject_gate.md), section 8.6
(spec/08_conveyor_tracking_and_the_bottle_queue.md). -/
def Obligations.HeadIsDecidedAtRejectPoint : Prop :=
  ∀ (k : TrackParams) (s : State),
    s.tracker.running = true → s.tracker.params = some k →
    let p := s.tracker.pos + 1
    let queue := s.tracker.queue.map (Bottle.misses k p)
    ∃ (t : State) (u : Tracker) (rs : List Report) (cs : List Credit),
      exec (.encoderPulse .forward) s = .next t ∧ Arbitrated s.transit t ∧
      HeadsDecided k { s.tracker with pos := p, lastDir := .forward, queue := queue } u rs cs ∧
      t = { s with
        tracker := { u with gateActive := u.gateActive && decide (posDelta p u.offPos < 0) }
        mail := { s.mail with credits := s.mail.credits ++ cs }
        staging := t.staging, writer := t.writer, transit := t.transit } ∧
      Reported rs s t

/-- CAMERA_TRIGGER of a fitted camera 1, RUNNING, direction FORWARD: s_1 rises by one. If the tail's
P0 is less than trunc(Pt/2) counts away bounces rises; else with 64 entries the tail's overrun count
rises, saturating at 15, with overruns; else an entry joins the tail with the next bottle number, P0
= P, T0 = the stamp, slot 1 SHOT or, offline, NO_VERDICT with s_1, the others NOT_FITTED, NO_VERDICT
or AWAITED, and the next number and triggers accepted rise. Nothing else changes but what the
arbiter grants. Rests on section 8.5 (spec/08_conveyor_tracking_and_the_bottle_queue.md), section
8.4 (spec/08_conveyor_tracking_and_the_bottle_queue.md). -/
def Obligations.LeadShotOpensBouncesOrOverruns : Prop :=
  ∀ (k : TrackParams) (s : State),
    s.tracker.running = true → s.tracker.cameras.c1.fitted = true → s.tracker.lastDir = .forward →
    s.tracker.params = some k →
    let tr := s.tracker
    let n := tr.shots.c1 + 1
    let base : Tracker := { tr with shots := { tr.shots with c1 := n } }
    let other (e : CameraEntry) : CamSlot :=
      if e.fitted = false then .notFitted else if e.online = true then .awaited else .noVerdict none
    ∃ t, exec (.cameraTrigger .c1) s = .next t ∧ Arbitrated s.transit t ∧
      t = { s with tracker := t.tracker, transit := t.transit } ∧
      (∀ b, tr.queue.getLast? = some b → (posDelta tr.pos b.p0).natAbs < k.pitch / 2 →
        t.tracker = { base with counters := { tr.counters with bounces := tr.counters.bounces + 1 } }) ∧
      ((∀ b, tr.queue.getLast? = some b → k.pitch / 2 ≤ (posDelta tr.pos b.p0).natAbs) →
        (∀ init b, tr.queue = init ++ [b] → 64 ≤ tr.queue.length →
          t.tracker = { base with
            queue := init ++ [{ b with overrun := min (b.overrun + 1) 15 }]
            counters := { tr.counters with overruns := tr.counters.overruns + 1 } }) ∧
        (tr.queue.length < 64 →
          t.tracker = { base with
            queue := tr.queue ++
              [{ number := tr.nextBottle, p0 := tr.pos, t0 := s.clock.stamp, overrun := 0
                 cams :=
                   { c1 := if tr.cameras.c1.online = true then .shot n else .noVerdict (some n)
                     c2 := other tr.cameras.c2, c3 := other tr.cameras.c3
                     c4 := other tr.cameras.c4 } }]
            nextBottle := tr.nextBottle + 1
            counters := { tr.counters with accepted := tr.counters.accepted + 1 } }))

/-- CAMERA_TRIGGER of camera k: STOPPED or not fitted it is ignored, in REVERSE the reverse-ignored
counter rises. Taken, k = 2, 3 or 4, s_k rises by one; offline nothing else; online the oldest entry
whose slot k is AWAITED with P within W of P0 + Dk becomes SHOT with s_k; if none qualifies strays
rises and SHOT_STRAY is raised with camera, shot number, P and the count of AWAITED slots k. Nothing
else changes but what the arbiter grants. Rests on section 8.5
(spec/08_conveyor_tracking_and_the_bottle_queue.md). -/
def Obligations.CameraShotMatchesOldestOrStrays : Prop :=
  ∀ (c : Cam) (k : TrackParams) (s : State),
    let tr := s.tracker
    let n := tr.shots.get c + 1
    let base : Tracker := { tr with shots := tr.shots.set c n }
    let ok (b : Bottle) : Prop := b.cams.get c = .awaited ∧
      (posDelta tr.pos (posAdd b.p0 (k.camOffset c))).natAbs ≤ k.window
    ∃ t, exec (.cameraTrigger c) s = .next t ∧ Arbitrated s.transit t ∧
      t = { s with tracker := t.tracker, staging := t.staging, writer := t.writer
                   transit := t.transit } ∧
      (tr.running = false ∨ (tr.cameras.get c).fitted = false →
        t.tracker = tr ∧ Reported [] s t) ∧
      (tr.running = true → (tr.cameras.get c).fitted = true → tr.lastDir = .reverse →
        t.tracker = { tr with counters :=
          { tr.counters with reverseIgnored := tr.counters.reverseIgnored + 1 } } ∧
        Reported [] s t) ∧
      (tr.running = true → (tr.cameras.get c).fitted = true → tr.lastDir = .forward →
        tr.params = some k → c ≠ .c1 →
        ((tr.cameras.get c).online = false → t.tracker = base ∧ Reported [] s t) ∧
        ((tr.cameras.get c).online = true →
          (∀ pre b post, tr.queue = pre ++ b :: post → (∀ a ∈ pre, ¬ ok a) → ok b →
            t.tracker = { base with
              queue := pre ++ { b with cams := b.cams.set c (.shot n) } :: post } ∧
            Reported [] s t) ∧
          ((∀ b ∈ tr.queue, ¬ ok b) →
            t.tracker = { base with counters := { tr.counters with strays := tr.counters.strays + 1 } } ∧
            Reported [.shotStray c n tr.pos
              (tr.queue.countP fun b => decide (b.cams.get c = .awaited))] s t)))

/-- CAMERA_OFFLINE naming port p: every camera on p is offline, and where it is fitted and tracking
RUNNING its AWAITED and SHOT slots become NO_VERDICT, SHOT keeping its number, all other slots kept.
CAMERA_ONLINE naming p: every camera on p is online and no entry changes. The other cameras stay,
the notice is gone, nothing else changes but what the arbiter grants. Rests on section 8.7
(spec/08_conveyor_tracking_and_the_bottle_queue.md). -/
def Obligations.CameraNoticesSetOnlineFlags : Prop :=
  ∀ (p : SwPort) (rest : List LinkNotice) (s : State),
    let tr := s.tracker
    let on (c : Cam) : Prop := (tr.cameras.get c).port = some p
    (s.mail.cameras = .loss p :: rest →
      ∃ t, exec .cameraOffline s = .next t ∧ Arbitrated s.transit t ∧
        t = { s with tracker := { tr with cameras := t.tracker.cameras, queue := t.tracker.queue }
                     mail := { s.mail with cameras := rest }, transit := t.transit } ∧
        (∀ c, on c → t.tracker.cameras.get c = { tr.cameras.get c with online := false }) ∧
        (∀ c, ¬ on c → t.tracker.cameras.get c = tr.cameras.get c) ∧
        t.tracker.queue.length = tr.queue.length ∧
        ∀ (i : Nat) (b : Bottle), tr.queue[i]? = some b →
          ∃ cams, t.tracker.queue[i]? = some { b with cams := cams } ∧
            ∀ c, (on c → (tr.cameras.get c).fitted = true → tr.running = true →
                cams.get c = match b.cams.get c with
                  | .awaited => .noVerdict none
                  | .shot n => .noVerdict (some n)
                  | x => x) ∧
              (¬ (on c ∧ (tr.cameras.get c).fitted = true ∧ tr.running = true) →
                cams.get c = b.cams.get c)) ∧
    (s.mail.cameras = .back p :: rest →
      ∃ t, exec .cameraOnline s = .next t ∧ Arbitrated s.transit t ∧
        t = { s with tracker := { tr with cameras := t.tracker.cameras }
                     mail := { s.mail with cameras := rest }, transit := t.transit } ∧
        (∀ c, on c → t.tracker.cameras.get c = { tr.cameras.get c with online := true }) ∧
        (∀ c, ¬ on c → t.tracker.cameras.get c = tr.cameras.get c))

/-- TRACK_START in a FREE slot: REFUSED_STATE in SAFE, while RUNNING, during a load or with camera 1
not fitted; REFUSED_PARAM by its range checks; else the parameters with W at most trunc(Pt/2) - 1
are in force, queue, counters, shots, credits and next number are reset, tracking RUNS, DONE or
DONE_ADJUSTED. TRACK_STOP: REFUSED_STATE in SAFE or STOPPED; else the n entries leave, dropped grows
by n, the gate is IDLE, tracking STOPPED, BOTTLE_DROPPED raised, DONE with n and the counters.
Nothing else changes but what the arbiter grants. Rests on section 8.3
(spec/08_conveyor_tracking_and_the_bottle_queue.md), section 8.9
(spec/08_conveyor_tracking_and_the_bottle_queue.md), section 11.7
(spec/11_control_page_reports_and_start_up.md), section 9.4
(spec/09_verdicts_and_the_reject_gate.md). -/
def Obligations.TrackStartAndStop : Prop :=
  ∀ (n : Slot) (rest : BitVec 24) (s : State), s.takes n →
    let tr := s.tracker
    let p (i : Nat) : Nat := s.paramWord n i
    let w := min (p 1) (p 0 / 2 - 1)
    let off (c : Cam) : Nat := match c with | .c1 => 0 | .c2 => p 2 | .c3 => p 3 | .c4 => p 4
    let barred := s.loader.condition = .safe ∨ s.loader.load ≠ none ∨ tr.running = true ∨
      tr.cameras.c1.fitted = false
    let fits := 16 ≤ p 0 ∧ p 0 ≤ 4096 ∧ p 1 ≠ 0 ∧ p 2 ≤ 1048576 ∧ p 3 ≤ 1048576 ∧ p 4 ≤ 1048576 ∧
      1 ≤ p 6 ∧ p 6 ≤ p 0 ∧ p 5 ≤ 4194304 ∧
      ∀ c, (tr.cameras.get c).fitted = true → off c + w < p 5
    let answers (c : Instr) (code : BitVec 8) (rs : List Report) (rc : ResultCode)
        (data : Option (List Word)) (tr' : Tracker) : Prop :=
      ∃ t, exec c s = .next t ∧ Arbitrated s.transit t ∧
        t = { s with tracker := tr', slots := t.slots, staging := t.staging, writer := t.writer
                     transit := t.transit } ∧
        Answered n (opcodeWord code rest) rs rc data s t
    (barred → answers (.trackStart n rest) 0x10 [] .refusedState none tr) ∧
    (¬ barred → (s.paramBits n 7 0 2 ≠ 1 ∧ s.paramBits n 7 0 2 ≠ 2) ∨ ¬ fits →
      answers (.trackStart n rest) 0x10 [] .refusedParam none tr) ∧
    (∀ a : NoVerdictAction, ¬ barred → fits →
      s.paramBits n 7 0 2 = (match a with | .reject => 1 | .pass => 2) →
      let k : TrackParams :=
        { pitch := p 0, window := w, d2 := p 2, d3 := p 3, d4 := p 4, rejectOffset := p 5
          gateLength := p 6, action := a }
      answers (.trackStart n rest) 0x10 [] (if w = p 1 then .done else .doneAdjusted)
        (pageOne (trackFields (some k)))
        { tr with running := true, params := some k, queue := [], shots := .all 0, nextBottle := 0
                  counters := .zero, passCredits := .all 0, rejectCredits := .all 0
                  gateActive := false }) ∧
    (s.loader.condition = .safe ∨ tr.running = false →
      answers (.trackStop n rest) 0x11 [] .refusedState none tr) ∧
    (s.loader.condition ≠ .safe → tr.running = true →
      let counters := { tr.counters with
        dropped := tr.counters.dropped + BitVec.ofNat 32 tr.queue.length }
      answers (.trackStop n rest) 0x11
        [.bottleDropped tr.queue.length (tr.queue.head?.map Bottle.number)
          (tr.queue.getLast?.map Bottle.number) counters.dropped]
        .done (pageOne (byteOf tr.queue.length :: counterFields counters))
        { tr with running := false, queue := [], gateActive := false, counters := counters })

/-- REQUEST_ARRIVAL of a rightful write in the VERDICTS region, its account not in debt, is charged
and waits for memory with the admission stamp at record offsets 6 and 7. Another master's, or one
while STOPPED, does nothing else. CAMERA's while RUNNING: VERDICT_MALFORMED with the first of SHAPE,
ENABLES, CAMERA, NOT_FITTED, CODE and FILLER that applies, the address, the length, and camera,
verdict code and filler number where word 0 is covered and shot number where word 1 is. Else the
oldest entry whose slot holds the shot number takes it where the slot is SHOT, and the slot is PASS
or REJECT with shot, defect and filler; a PASS or REJECT slot stays and VERDICT_DUPLICATE is raised
(that its agree flag compares the verdicts and not the filler numbers is the model's choice, log
25); a NO_VERDICT slot stays and VERDICT_LATE is raised; with no such entry VERDICT_LATE for a
signed distance of 0 to 255, VERDICT_UNKNOWN for another. Nothing else changes but what the arbiter
grants and, for SERVICE, service in flight. Rests on section 9.1
(spec/09_verdicts_and_the_reject_gate.md), section 9.2 (spec/09_verdicts_and_the_reject_gate.md),
section 2.3 (spec/02_region_map_and_in_flight_rewriting.md), section 2.4
(spec/02_region_map_and_in_flight_rewriting.md). -/
def Obligations.VerdictIsTakenBySlotState : Prop :=
  (∀ (m : Master) (q : Request) (s : State),
      Rightful m q .verdicts s → m ≠ .camera ∨ s.tracker.running = false →
      ∃ t ws, exec (.requestArrival m q) s = .next t ∧ Admitted m q .verdicts ws s t ∧
        Stamped s.clock.stamp (s.map.place q.addr.toNat).offset q.words ws ∧
        t = { s with
          pacing := s.charged m q
          window := { s.window with inFlight := s.window.inFlight || decide (m = .service) }
          transit := t.transit }) ∧
  (∀ (q : Request) (s : State),
      Rightful .camera q .verdicts s → s.tracker.running = true →
      let tr := s.tracker
      let o := (s.map.place q.addr.toNat).offset
      let takes (queue : List Bottle) (rs : List Report) : Prop :=
        ∃ t ws, exec (.requestArrival .camera q) s = .next t ∧ Admitted .camera q .verdicts ws s t ∧
          Stamped s.clock.stamp o q.words ws ∧
          t = { s with pacing := s.charged .camera q, tracker := { tr with queue := queue }
                       staging := t.staging, writer := t.writer, transit := t.transit } ∧
          Reported rs s t
      let word (i : Nat) : Option Word :=
        if o % 8 ≤ i then (q.words[i - o % 8]?).map WriteWord.data else none
      let w0 := (word 0).getD 0
      let w1 := (word 1).getD 0
      let cam : BitVec 3 := w0.extractLsb' 0 3
      let code : BitVec 2 := w0.extractLsb' 4 2
      let filler : BitVec 3 := w0.extractLsb' 8 3
      let shot : BitVec 16 := w1.extractLsb' 0 16
      let defect : BitVec 16 := w1.extractLsb' 16 16
      let malformed (reason : MalformedReason) : Prop :=
        if q.len ≠ .eight then reason = .shape
        else if ¬ ∀ w ∈ q.words, w.enables = 0b1111 then reason = .enables
        else if cam.toNat = 0 ∨ 4 < cam.toNat then reason = .camera
        else (∃ k : Cam, k.num = cam.toNat ∧
          if (tr.cameras.get k).fitted = false then reason = .notFitted
          else if code = 0 ∨ code = 3 then reason = .verdictCode
          else 6 < filler.toNat ∧ reason = .filler)
      (∀ reason, malformed reason →
        takes tr.queue [.verdictMalformed reason q.addr q.len
          ((word 0).map fun w => w.extractLsb' 0 3) ((word 0).map fun w => w.extractLsb' 4 2)
          ((word 0).map fun w => w.extractLsb' 8 3) ((word 1).map fun w => w.extractLsb' 0 16)]) ∧
      (∀ (k : Cam) (v : Verdict),
        q.len = .eight → (∀ w ∈ q.words, w.enables = 0b1111) → k.num = cam.toNat →
        (tr.cameras.get k).fitted = true → code = (match v with | .pass => 1 | .reject => 2) →
        filler.toNat ≤ 6 →
        let number (b : Bottle) : Option (BitVec 16) := (b.cams.get k).number
        let δ := (tr.shots.get k - shot).toInt
        (∀ pre b post, tr.queue = pre ++ b :: post → (∀ a ∈ pre, number a ≠ some shot) →
          number b = some shot →
          (b.cams.get k = .shot shot →
            let slot : CamSlot := match v with
              | .pass => .pass shot defect filler.toNat
              | .reject => .reject shot defect filler.toNat
            takes (pre ++ { b with cams := b.cams.set k slot } :: post) []) ∧
          (∀ d f, b.cams.get k = .pass shot d f →
            takes tr.queue [.verdictDuplicate k shot b.number .pass f v filler.toNat
              (decide (v = .pass))]) ∧
          (∀ d f, b.cams.get k = .reject shot d f →
            takes tr.queue [.verdictDuplicate k shot b.number .reject f v filler.toNat
              (decide (v = .reject))]) ∧
          (b.cams.get k = .noVerdict (some shot) →
            takes tr.queue [.verdictLate k shot (tr.shots.get k) δ (some b.number) true])) ∧
        ((∀ b ∈ tr.queue, number b ≠ some shot) →
          takes tr.queue
            [if 0 ≤ δ ∧ δ ≤ 255 then .verdictLate k shot (tr.shots.get k) δ none false
             else .verdictUnknown k shot (tr.shots.get k) δ])))

/-- In a FREE slot, SAFE included: SWITCH_QUERY for port 1 to 8, ROBOT_QUERY for robot 1 to 6 and
TRACK_QUERY for a view with a position at most 63 answer DONE with words 14 p to 14 p + 13 of their
data for a page p that names data; any other page is REFUSED_PARAM, for ROBOT_QUERY with the robot
and its state, else without data. That ROBOT_QUERY's data begin with the robot number and that its
refused page carries data are the model's choices (log 12), and so is the order of the slots of the
ENTRY view (log 14). A port or robot number outside its range, or a view code of 0 or a position
above 63, is REFUSED_PARAM without data. Only the slot, the staging queue and what the arbiter
grants change. Rests on section 5.7 (spec/05_cabinet_switch_watch.md), section 6.7
(spec/06_filler_robots.md), section 8.9 (spec/08_conveyor_tracking_and_the_bottle_queue.md), section
11.1 (spec/11_control_page_reports_and_start_up.md). -/
def Obligations.QueriesAnswerAndChangeNothing : Prop :=
  ∀ (n : Slot) (rest : BitVec 24) (s : State), s.takes n →
    let answers (c : Instr) (code : BitVec 8) (rc : ResultCode) (data : Option (List Word)) : Prop :=
      ∃ t, exec c s = .next t ∧ Arbitrated s.transit t ∧
        t = { s with slots := t.slots, staging := t.staging, writer := t.writer
                     transit := t.transit } ∧
        Answered n (opcodeWord code rest) [] rc data s t
    let shows (c : Instr) (code : BitVec 8) (fs : List Field) (other : Option (List Word)) : Prop :=
      let p := pageField (opcodeWord code rest)
      (14 * p < (layWords fs).length →
        answers c code .done (some (padTo 14 ((layWords fs).drop (14 * p))))) ∧
      ((layWords fs).length ≤ 14 * p → answers c code .refusedParam other)
    (∀ p : SwPort, s.paramBits n 0 0 8 = p.num →
      shows (.switchQuery n rest) 0x50 (switchFields s p) none) ∧
    (s.paramBits n 0 0 8 = 0 ∨ 8 < s.paramBits n 0 0 8 →
      answers (.switchQuery n rest) 0x50 .refusedParam none) ∧
    (∀ r : Robot, s.paramBits n 0 0 8 = r.num →
      shows (.robotQuery n rest) 0x06 (robotFields s r)
        (pageOne [byteOf r.num, byteOf (s.robots.table.get r).state.code])) ∧
    (s.paramBits n 0 0 8 = 0 ∨ 6 < s.paramBits n 0 0 8 →
      answers (.robotQuery n rest) 0x06 .refusedParam none) ∧
    (s.paramBits n 0 0 2 = 1 → shows (.trackQuery n rest) 0x12 (summaryFields s.tracker) none) ∧
    (s.paramBits n 0 0 2 = 2 → shows (.trackQuery n rest) 0x12 (settingsFields s.tracker) none) ∧
    (s.paramBits n 0 0 2 = 3 → s.paramBits n 0 8 8 ≤ 63 →
      shows (.trackQuery n rest) 0x12 (entryFields s.tracker.queue[s.paramBits n 0 8 8]?) none) ∧
    (s.paramBits n 0 0 2 = 0 ∨ (s.paramBits n 0 0 2 = 3 ∧ 63 < s.paramBits n 0 8 8) →
      answers (.trackQuery n rest) 0x12 .refusedParam none)

/-- SERVICE_KEY on in CLOSED makes KEYED, off in KEYED makes CLOSED, each with SERVICE_STATE; in
DRAINING it is recorded only. Key off, WINDOW_TIMER_EXPIRY at the deadline, SERVICE_REVOKE in a FREE
slot not in SAFE, and SERVICE_LINK_LOSS make an OPEN window DRAINING: timer stopped, refusal
outstanding, every robot of the set RETURN_SENT with a return sent in ascending order, SERVICE_STATE
raised with the cause. A link loss in another state and SERVICE_REVOKE outside OPEN change no
window. Nothing else changes but what the arbiter grants. Rests on section 10.1
(spec/10_service_window.md), section 10.4 (spec/10_service_window.md), section 10.5
(spec/10_service_window.md). -/
def Obligations.KeyAndTheEndingsOfASession : Prop :=
  ∀ s : State,
    let w := s.window
    let goes (c : Instr) (mail : Mail) (w' : ServiceWindow) (rs : List Report) : Prop :=
      ∃ t, exec c s = .next t ∧ Arbitrated s.transit t ∧
        t = { s with window := w', mail := mail, staging := t.staging, writer := t.writer
                     transit := t.transit } ∧ Reported rs s t
    let sent := s.mail.transfers ++
      (allRobots.filter fun r => (w.robotSet.get r).isSome).map TransferMsg.giveBack
    let drained (key : Bool) : ServiceWindow :=
      { w with key := key, state := .draining, deadline := none, refusal := true
               robotSet := w.robotSet.map fun o => o.map fun _ => .returnSent }
    let report (key : Bool) (cause : WindowCause) : Report :=
      .serviceState .opened .draining cause w.session key w.grants (drained key).robotSet
    (w.key = false → w.state = .closed →
      goes (.serviceKey true) s.mail { w with key := true, state := .keyed }
        [.serviceState .closed .keyed .keyOn w.session true w.grants w.robotSet]) ∧
    (w.key = true → w.state = .keyed →
      goes (.serviceKey false) s.mail { w with key := false, state := .closed }
        [.serviceState .keyed .closed .keyOff w.session false w.grants w.robotSet]) ∧
    (∀ level, w.state = .draining →
      goes (.serviceKey level) s.mail { w with key := level } []) ∧
    (w.key = true → w.state = .opened →
      goes (.serviceKey false) { s.mail with transfers := sent } (drained false)
        [report false .keyOff]) ∧
    (∀ d, w.state = .opened → w.deadline = some d → (s.clock.m - d).toNat < 2 ^ 47 →
      goes .windowTimerExpiry { s.mail with transfers := sent } (drained w.key)
        [report w.key .expired]) ∧
    (∀ p rest, s.mail.serviceLoss = p :: rest →
      (w.state = .opened →
        goes .serviceLinkLoss { s.mail with serviceLoss := rest, transfers := sent } (drained w.key)
          [report w.key .linkLost]) ∧
      (w.state ≠ .opened →
        goes .serviceLinkLoss { s.mail with serviceLoss := rest } w [])) ∧
    (∀ (n : Slot) (rest : BitVec 24), s.takes n →
      let ok := s.loader.condition ≠ .safe ∧ w.state = .opened
      ∃ t rs code data, exec (.serviceRevoke n rest) s = .next t ∧ Arbitrated s.transit t ∧
        Answered n (opcodeWord 0x42 rest) rs code data s t ∧
        (ok → t = { s with window := drained w.key, mail := { s.mail with transfers := sent }
                           slots := t.slots, staging := t.staging, writer := t.writer
                           transit := t.transit } ∧
          rs = [report w.key .revoke] ∧ code = .done ∧ data = pageOne [.half w.session]) ∧
        (¬ ok → t = { s with slots := t.slots, staging := t.staging, writer := t.writer
                             transit := t.transit } ∧
          rs = [] ∧ code = .refusedState ∧ data = none))

/-- In a FREE slot. SERVICE_GRANT, not SAFE, no load, KEYED, duration above 0, at most 4 grants each
naming an enabled entry other than CONTROL with RO or RW, robots 1 to 6: the session number rises,
the tables take the grants and robots as REQUESTED, the window is OPEN until the duration, at most
the maximum, from now, SERVICE_STATE is raised, a transfer request goes out for each robot, DONE or
DONE_ADJUSTED. SERVICE_EXTEND in OPEN moves the deadline, at most the maximum from now; taken with
the deadline reached and the expiry not yet taken it counts from 0 left, which past the deadline is
the model's choice (log 50). In SAFE, GRANT outside KEYED or while a load runs, and EXTEND outside
OPEN, REFUSED_STATE. Else a GRANT of duration 0, above 4 grants, with a grant that names an index
above 15, a code neither RO nor RW or an entry that is disabled or CONTROL, or with a robot bit
outside 1 to 6: REFUSED_PARAM. A refusal has no data and changes nothing. Nothing else changes but
what the arbiter grants. Rests on section 10.2 (spec/10_service_window.md), section 10.4
(spec/10_service_window.md), section 11.7 (spec/11_control_page_reports_and_start_up.md). -/
def Obligations.GrantOpensAndExtendMovesTheDeadline : Prop :=
  ∀ (n : Slot) (rest : BitVec 24) (s : State), s.takes n →
    let w := s.window
    let refused (c : Instr) (code : BitVec 8) (rc : ResultCode) : Prop :=
      ∃ t, exec c s = .next t ∧ Arbitrated s.transit t ∧
        t = { s with slots := t.slots, staging := t.staging, writer := t.writer
                     transit := t.transit } ∧
        Answered n (opcodeWord code rest) [] rc none s t
    (s.loader.condition = .safe ∨ s.loader.load ≠ none ∨ w.state ≠ .keyed →
      refused (.serviceGrant n rest) 0x40 .refusedState) ∧
    (s.loader.condition = .safe ∨ w.state ≠ .opened →
      refused (.serviceExtend n rest) 0x41 .refusedState) ∧
    (s.loader.condition ≠ .safe → s.loader.load = none → w.state = .keyed →
      (s.paramWord n 0 = 0 ∨ 4 < s.paramBits n 1 0 8 ∨
        (∃ i, i < s.paramBits n 1 0 8 ∧
          (15 < s.paramBits n (2 + i) 0 8 ∨ s.paramBits n (2 + i) 8 2 ∉ [1, 2] ∨
            ∀ e, s.map.entries[s.paramBits n (2 + i) 0 8]? = some e →
              e.enabled = false ∨ RegionKind.ofCode? e.kindCode = some .control)) ∨
        (s.param n 1).getLsbD 8 = true ∨ (s.param n 1).getLsbD 15 = true) →
      refused (.serviceGrant n rest) 0x40 .refusedParam) ∧
    (∀ (gs : List Grant) (rs : PerRobot (Option RobotOutcome)),
      s.loader.condition ≠ .safe → s.loader.load = none → w.state = .keyed →
      s.paramWord n 0 ≠ 0 → gs.length = s.paramBits n 1 0 8 → gs.length ≤ 4 →
      (∀ (i : Nat) (g : Grant), gs[i]? = some g →
        g.region = s.paramBits n (2 + i) 0 8 ∧ g.region ≤ 15 ∧
        s.paramBits n (2 + i) 8 2 = (if g.rw = true then 2 else 1) ∧
        ∃ e, s.map.entries[g.region]? = some e ∧ e.enabled = true ∧
          RegionKind.ofCode? e.kindCode ≠ some .control) →
      (s.param n 1).getLsbD 8 = false → (s.param n 1).getLsbD 15 = false →
      (∀ r, rs.get r = if (s.param n 1).getLsbD (8 + r.num) then some .requested else none) →
      let d := min (s.paramWord n 0) w.maxDuration
      let w' := { w with
        state := .opened, session := w.session + 1, grants := gs, robotSet := rs
        deadline := some (s.clock.m + BitVec.ofNat 48 (d * 1000000)) }
      ∃ t, exec (.serviceGrant n rest) s = .next t ∧ Arbitrated s.transit t ∧
        t = { s with
          window := w'
          mail := { s.mail with transfers := s.mail.transfers ++
            (allRobots.filter fun r => (rs.get r).isSome).map TransferMsg.request }
          slots := t.slots, staging := t.staging, writer := t.writer, transit := t.transit } ∧
        Answered n (opcodeWord 0x40 rest)
          [.serviceState .keyed .opened .grant (w.session + 1) w.key gs rs]
          (if d = s.paramWord n 0 then .done else .doneAdjusted) (grantData d w') s t) ∧
    (∀ d, s.loader.condition ≠ .safe → w.state = .opened → w.deadline = some d →
      let remaining := if (s.clock.m - d).toNat < 2 ^ 47 then 0 else (d - s.clock.m).toNat
      let sum := remaining + s.paramBits n 0 0 16 * 1000000
      let left := min sum (w.maxDuration * 1000000)
      ∃ t, exec (.serviceExtend n rest) s = .next t ∧ Arbitrated s.transit t ∧
        t = { s with
          window := { w with deadline := some (s.clock.m + BitVec.ofNat 48 left) }
          slots := t.slots, staging := t.staging, writer := t.writer, transit := t.transit } ∧
        Answered n (opcodeWord 0x41 rest) [] (if left = sum then .done else .doneAdjusted)
          (pageOne [.half w.session, wordFld (left / 1000)]) s t)

/-- ROBOT_RETURN for a SERVICE-owned robot: the owner is LINE, nothing pending; READY, ORDERED,
FILLING and STARTING enter HELD with SERVICE_ENDED, SILENT keeps its state with that hold cause,
HELD, OFFLINE and FAULTED keep both; ROBOT_STATE of cause SERVICE_RETURN is raised and the robot's
outcome is RETURNED. For a LINE-owned robot with a pending transfer that is cleared and the outcome
is CANCELLED; without one the robot is unchanged. The message is gone, and the window settles where
that completes its conditions, its report behind ROBOT_STATE (that order is the model's choice, log
47). Nothing else changes but what the arbiter grants. Rests on section 6.8
(spec/06_filler_robots.md), section 10.5 (spec/10_service_window.md). -/
def Obligations.RobotReturnTakesTheRobotBack : Prop :=
  ∀ (r : Robot) (rest : List TransferMsg) (s : State),
    s.mail.transfers = .giveBack r :: rest →
    let e := s.robots.table.get r
    let w := s.window
    let noted (o : RobotOutcome) : ServiceWindow :=
      if (w.robotSet.get r).isSome = true then { w with robotSet := w.robotSet.set r (some o) } else w
    let back : RobotEntry := { e with owner := .line, transferPending := false }
    let e' : RobotEntry :=
      if e.state ∈ [.ready, .ordered, .filling, .starting] then
        { back with state := .held, hold := some .serviceEnded, fresh := true, fp := 0
                    fillRecord := none, pickupTimer := none, fillTimer := none }
      else if e.state = .silent then { back with hold := some .serviceEnded }
      else back
    let becomes (x : RobotEntry) (w' : ServiceWindow) (rs : List Report) : Prop :=
      ∃ t, exec .robotReturn s = .next t ∧ Arbitrated s.transit t ∧
        t = { s with robots := { s.robots with table := s.robots.table.set r x }
                     mail := { s.mail with transfers := rest }, window := t.window
                     staging := t.staging, writer := t.writer, transit := t.transit } ∧
        Settled w' rs s t
    (e.owner = .service →
      becomes e' (noted .returned)
        [.robotState r e.state e'.state .serviceReturn .line e'.hold e'.fault e.faultCode e.run
          (e.order.map Order.tag)]) ∧
    (e.owner = .line → e.transferPending = true →
      becomes { e with transferPending := false } (noted .cancelled) []) ∧
    (e.owner = .line → e.transferPending = false → becomes e w [])

/-- SERVICE_REFUSAL, a refusal outstanding, no EMPTY port having a request on its lane: with nothing
HELD at SERVICE's port the refusal is no longer outstanding and the window settles where that
completes its conditions; a HELD request, none behind it on its lane, is completed DENIED with zero
read data and cause WINDOW, counted and offered to its limiter, not charged, and then the window
settles where that completes its conditions. TRANSFER_ANSWER for a robot of the set whose outcome is
REQUESTED or PENDING makes it TAKEN or PENDING; a later outcome stands (for TAKEN, and for a robot
outside the set, the model's choice, log 36). Nothing else changes but what the arbiter grants.
Rests on section 10.5 (spec/10_service_window.md), section 10.2 (spec/10_service_window.md), section
1.3 (spec/01_transit_path.md). -/
def Obligations.RefusalAndAnswersReachTheWindow : Prop :=
  ∀ s : State,
    let w := s.window
    (w.refusal = true → s.lanesTaken → (∀ q, s.transit.ports.service ≠ .held q) →
      ∃ t, exec .serviceRefusal s = .next t ∧ Arbitrated s.transit t ∧
        t = { s with window := t.window, staging := t.staging, writer := t.writer
                     transit := t.transit } ∧
        Settled { w with refusal := false } [] s t) ∧
    (∀ q, w.refusal = true → s.transit.ports.service = .held q →
      s.lanesTaken → s.transit.lanes.service = [] →
      let u := countDenial .service { cause := .window, dir := q.dir, addr := q.addr, len := q.len
                                      region := some (s.map.place q.addr.toNat).region } s
      ∃ t, exec .serviceRefusal s = .next t ∧
        t = { s with window := t.window, limiters := u.limiters, staging := t.staging
                     writer := t.writer, transit := t.transit } ∧
        Settled { w with refusal := false } [] u t ∧
        Arbitrated { s.transit with
          ports := s.transit.ports.set .service .empty
          completions := s.transit.completions.set .service
            (some { status := .denied, data := zeroData q.dir q.len }) } t) ∧
    (∀ (r : Robot) (pending : Bool) (rest : List TransferReply),
      s.mail.answers = (if pending then TransferReply.pending r else .taken r) :: rest →
      let new : RobotOutcome := if pending then .pending else .taken
      ∃ t, exec .transferAnswer s = .next t ∧ Arbitrated s.transit t ∧
        t = { s with
          window := { w with
            robotSet :=
              if w.robotSet.get r = some .requested ∨ w.robotSet.get r = some .pending then
                w.robotSet.set r (some new)
              else w.robotSet }
          mail := { s.mail with answers := rest }, transit := t.transit })

/-- KEEPALIVE_WRITE, not LOADING: the last value repeated changes nothing; a change is recorded, in
RUNNING restarts the timer, in LAPSED makes RUNNING with a resume notice; while LOADING nothing.
KEEPALIVE_LAPSED at the timeout in RUNNING: LAPSED, timer stopped, KEEPALIVE_LAPSED raised with the
timeout and the last value, a lapse notice sent. KEEPALIVE_SET in a FREE slot: in SAFE
REFUSED_STATE, outside UNARMED REFUSED_ONCE, a timeout outside 10 to 10,000 REFUSED_PARAM, else
RUNNING with that timeout from now and DONE carrying it; a refusal changes nothing. Nothing else
changes but what the arbiter grants. Rests on section 11.3
(spec/11_control_page_reports_and_start_up.md), section 11.1
(spec/11_control_page_reports_and_start_up.md). -/
def Obligations.KeepaliveIsArmedRestartedAndLapses : Prop :=
  ∀ s : State,
    let k := s.keepalive
    let goes (c : Instr) (k' : Keepalive) (notices : List KeepaliveMsg) (rs : List Report) : Prop :=
      ∃ t, exec c s = .next t ∧ Arbitrated s.transit t ∧
        t = { s with
          keepalive := k', mail := { s.mail with keepalive := s.mail.keepalive ++ notices }
          staging := t.staging, writer := t.writer, transit := t.transit } ∧ Reported rs s t
    (∀ v, s.loader.condition = .loading → goes (.keepaliveWrite v) k [] []) ∧
    (∀ v, s.loader.condition ≠ .loading →
      (v = k.last → goes (.keepaliveWrite v) k [] []) ∧
      (v ≠ k.last → k.state = .unarmed → goes (.keepaliveWrite v) { k with last := v } [] []) ∧
      (v ≠ k.last → k.state = .running →
        goes (.keepaliveWrite v) { k with last := v, timer := some s.clock.m } [] []) ∧
      (v ≠ k.last → k.state = .lapsed →
        goes (.keepaliveWrite v)
          { k with last := v, state := .running, timer := some s.clock.m } [.resume] [])) ∧
    (∀ t0 ms, k.state = .running → k.timer = some t0 → k.timeout = some ms →
      ms * 1000 ≤ (s.clock.m - t0).toNat →
      goes .keepaliveLapsed { k with state := .lapsed, timer := none } [.lapse]
        [.keepaliveLapsed ms k.last]) ∧
    (∀ (n : Slot) (rest : BitVec 24), s.takes n →
      let p := s.paramWord n 0
      ∃ t code data, exec (.keepaliveSet n rest) s = .next t ∧ Arbitrated s.transit t ∧
        t = { s with keepalive := t.keepalive, slots := t.slots, staging := t.staging
                     writer := t.writer, transit := t.transit } ∧
        Answered n (opcodeWord 0x30 rest) [] code data s t ∧
        (t.keepalive, code, data) =
          if s.loader.condition = .safe then (k, .refusedState, none)
          else if k.state ≠ .unarmed then (k, .refusedOnce, none)
          else if p < 10 ∨ 10000 < p then (k, .refusedParam, none)
          else ({ k with state := .running, timeout := some p, timer := some s.clock.m }, .done,
                pageOne [halfOf p]))

/-- With N the ring's capacity: in NORMAL with at least 2 free slots and a free staging entry the
record joins the staging queue and put advances modulo N; with 1 free slot the OVERRUN marker does,
lost becomes 1 and the mode is LOSING; with the staging queue full lost becomes 1 and the mode is
LOSING. With no free slot the table lists no row; that it is then as with the staging queue full is
the model's choice (log 15). In LOSING with at least 2 free slots and two free staging entries a
RESUMED marker carrying lost is placed, lost is 0, the mode NORMAL, and the report is taken again;
otherwise lost rises by one, saturating. TAKE_INDEX_WRITE below N makes the value the take index, at
N or above or while LOADING nothing; nothing else changes but what the arbiter grants. Rests on
section 11.4 (spec/11_control_page_reports_and_start_up.md), section 11.1
(spec/11_control_page_reports_and_start_up.md). -/
def Obligations.ReportsAreTakenByTheRingTable : Prop :=
  ∀ (r : Report) (s : State),
    let n := s.map.ringCapacity
    let free := freeSlots n s.writer
    let begin_ (w : Writer) : Writer := { w with lost := 1, losing := true }
    let placed (x : Report) : State :=
      { s with staging := s.staging ++ [recordEntry x s]
               writer := { s.writer with put := (s.writer.put + 1) % n } }
    (s.writer.losing = false → s.staging.length < 8 → 2 ≤ free → raise r s = placed r) ∧
    (s.writer.losing = false → s.staging.length < 8 → free = 1 →
      raise r s = { placed .overrun with writer := begin_ (placed .overrun).writer }) ∧
    (s.writer.losing = false → 8 ≤ s.staging.length ∨ free = 0 →
      raise r s = { s with writer := begin_ s.writer }) ∧
    (s.writer.losing = true → 2 ≤ free → s.staging.length ≤ 6 →
      raise r s = raise r { placed (.resumed s.writer.lost) with
        writer := { s.writer with put := (s.writer.put + 1) % n, lost := 0, losing := false } }) ∧
    (s.writer.losing = true → ¬ (2 ≤ free ∧ s.staging.length ≤ 6) →
      raise r s = { s with writer :=
        { s.writer with lost := min (s.writer.lost + 1) 4294967295, losing := true } }) ∧
    (∀ v : Word,
      ∃ t, exec (.takeIndexWrite v) s = .next t ∧ Arbitrated s.transit t ∧
        t = { s with
          writer :=
            if s.loader.condition ≠ .loading ∧ v.toNat < n then { s.writer with take := v.toNat }
            else s.writer
          transit := t.transit })

/-- A result answered in slot n: the issue count is one more modulo 65,536, the opcode word kept,
the slot AWAITING, and an entry with address CONTROL base + 16 n joins the staging queue's tail, or
waits in the slot while the queue holds 8. UNKNOWN_OPCODE in a FREE slot: UNKNOWN without data. No
EMPTY port having a request on its lane: any opcode word but 0 in an AWAITING slot: one
COMMAND_OVERRUN with slot, ignored and awaited word, nothing else. While LOADING no opcode changes
anything. REQUEST_ARRIVAL of a rightful write in the CONTROL region, its account not in debt, is
charged and waits as presented and, of LINE outside LOADING: one word with all enables at a slot's
offset 15 is the command of that opcode word on the admitted state, opcode 0 nothing (that a command
is also a row of its own is log 23); at 64 and 65 it is KEEPALIVE_WRITE and TAKE_INDEX_WRITE; at a
slot's offset below 14 the enabled bytes replace those of the parameter; any other word does
nothing. But for the charge, a longer burst has the effect of its words in turn, its opcode words
issuing nothing. Another master's, or one while LOADING, does nothing. Rests on section 11.1
(spec/11_control_page_reports_and_start_up.md), section 11.3
(spec/11_control_page_reports_and_start_up.md), section 11.4
(spec/11_control_page_reports_and_start_up.md), section 2.3
(spec/02_region_map_and_in_flight_rewriting.md), section 1.5 (spec/01_transit_path.md). -/
def Obligations.UnknownOpcodesAndOverrunsAreAnswered : Prop :=
  (∀ (n : Slot) (word : Word) (s : State),
      (unknownWf word = true → s.takes n →
        ∃ t, exec (.unknownOpcode n word) s = .next t ∧ Arbitrated s.transit t ∧
          t = { s with slots := t.slots, staging := t.staging, writer := t.writer
                       transit := t.transit } ∧
          Answered n word [] .unknown none s t) ∧
      (∀ c, commandOf n word = some c → s.lanesTaken → s.loader.condition ≠ .loading →
        (s.slots.get n).awaiting = true →
        ∃ t, exec c s = .next t ∧ Arbitrated s.transit t ∧
          t = { s with staging := t.staging, writer := t.writer, transit := t.transit } ∧
          Reported [.commandOverrun n word (s.slots.get n).issued] s t) ∧
      (∀ c, commandOf n word = some c → s.lanesTaken → s.loader.condition = .loading →
        ∃ t, exec c s = .next t ∧ Arbitrated s.transit t ∧ t = { s with transit := t.transit })) ∧
  (∀ (n : Slot) (word : Word) (rs : List Report) (code : ResultCode) (data : Option (List Word))
      (s t : State),
      Answered n word rs code data s t →
      let u := raiseAll rs s
      let k := s.slots.get n
      let entry : StagingEntry :=
        { body := .result n code (k.issues + 1) word data, addr := s.map.baseOf .control + 16 * n.num
          current := true, firstDone := false, failed := false, cut := false }
      t.writer = u.writer ∧
      t.slots = s.slots.set n
        { k with awaiting := true, issues := k.issues + 1, issued := word
                 waiting := if u.staging.length < 8 then k.waiting else some entry } ∧
      t.staging = (if u.staging.length < 8 then u.staging ++ [entry] else u.staging)) ∧
  (∀ (q : Request) (w : WriteWord) (s : State),
      Rightful .line q .control s → q.len = .one → q.words = [w] → s.loader.condition ≠ .loading →
      let o := (s.map.place q.addr.toNat).offset
      let a : State := { s with
        pacing := s.charged .line q
        transit := { s.transit with
          ports := s.transit.ports.set .line (.waiting (s.txn q .control [w])) } }
      let passes : Prop :=
        ∃ t, exec (.requestArrival .line q) s = .next t ∧ Admitted .line q .control [w] s t ∧
          t = { s with pacing := s.charged .line q, transit := t.transit }
      (∀ n : Slot, w.enables = 0b1111 → o = 16 * n.num + 15 →
        (opcodeField w.data = 0 → passes) ∧
        (∀ c, commandOf n w.data = some c → exec (.requestArrival .line q) s = exec c a)) ∧
      (w.enables = 0b1111 → o = 64 →
        exec (.requestArrival .line q) s = exec (.keepaliveWrite w.data) a) ∧
      (w.enables = 0b1111 → o = 65 →
        exec (.requestArrival .line q) s = exec (.takeIndexWrite w.data) a) ∧
      (∀ (n : Slot) (i : Nat), i < 14 → o = 16 * n.num + i →
        ∃ t x, exec (.requestArrival .line q) s = .next t ∧ Admitted .line q .control [w] s t ∧
          t = { s with
            pacing := s.charged .line q
            slots := s.slots.set n { s.slots.get n with params := (s.slots.get n).params.set i x }
            transit := t.transit } ∧
          ∀ b, b < 4 → x.extractLsb' (8 * b) 8 =
            if w.enables.getLsbD b = true then w.data.extractLsb' (8 * b) 8
            else ((s.slots.get n).params.getD i 0).extractLsb' (8 * b) 8) ∧
      (66 ≤ o ∨ (o < 64 ∧ o % 16 = 14) ∨
          (w.enables ≠ 0b1111 ∧ (o = 64 ∨ o = 65 ∨ (o < 64 ∧ o % 16 = 15))) → passes)) ∧
  (∀ (q : Request) (s : State),
      Rightful .line q .control s → q.len ≠ .one → s.loader.condition ≠ .loading →
      let o := (s.map.place q.addr.toNat).offset
      (∀ i, i < q.words.length → s.map.place (q.addr.toNat + i) =
        { s.map.place q.addr.toNat with offset := o + i }) →
      ∃ t u, exec (.requestArrival .line q) s = .next t ∧
        WordByWord .line q.addr.toNat
          (q.words.zipIdx.map fun x =>
            if o + x.2 < 64 ∧ (o + x.2) % 16 = 15 then { x.1 with enables := 0 } else x.1) s u ∧
        t = { u with pacing := s.charged .line q, transit := t.transit } ∧ Admitted .line q .control q.words s t) ∧
  (∀ (m : Master) (q : Request) (s : State),
      Rightful m q .control s → m ≠ .line ∨ s.loader.condition = .loading →
      ∃ t, exec (.requestArrival m q) s = .next t ∧ Admitted m q .control q.words s t ∧
        t = { s with
          pacing := s.charged m q
          window := { s.window with inFlight := s.window.inFlight || decide (m = .service) }
          transit := t.transit })

/-- RELOAD in a FREE slot, not LOADING, no EMPTY port having a request on its lane. With a load in
progress, tracking RUNNING, the window OPEN or DRAINING, or a robot ORDERED or FILLING:
REFUSED_STATE and nothing else. Otherwise, no request being HELD (with one HELD, it is then examined
anew as an arrival at the EMPTY port, step 1 not repeated, against the old map and the accounts
reset): DONE without data; pacing takes the delivered settings; the robots, the Switch Watch's
ports, the Tracker and the keepalive take their resets, settings kept (the keepalive's timeout none
again: the model's choice, log 48); the notices to the Robot Guard and the Tracker are gone, those
to the Hall Clock stay (the model's choice, log 40); a load with cause RELOAD is in progress; map,
condition, limiters, clock and the rest stand. That a refusal standing outside DRAINING, which no
run meets, is dropped is the model's choice (log 24). The arbiter grants. LOAD_END of a store that
the two-wire line can carry, or of none, always answers next: with no load in progress, an event the
spec does not have, it changes nothing but what the arbiter grants (the model's choice, log 8); with
one, and no request HELD, it ends the load (LoadEndDeliversTheStoreOrTheAnchor says what of): the
self-check is kept, and the condition is RUNNING with a good store and a passed self-check, SAFE
without. Rests on section 11.7 (spec/11_control_page_reports_and_start_up.md), section 3.6
(spec/03_memory_port_pacing.md), section 5.8 (spec/05_cabinet_switch_watch.md), section 6.9
(spec/06_filler_robots.md), section 8.10 (spec/08_conveyor_tracking_and_the_bottle_queue.md),
section 1.8 (spec/01_transit_path.md), section 1.3 (spec/01_transit_path.md). -/
def Obligations.ReloadIsBarredOrResetsTheBlocks : Prop :=
  (∀ (n : Slot) (rest : BitVec 24) (s : State), s.takes n → s.lanesTaken →
      let barred : Prop := s.loader.load ≠ none ∨ s.tracker.running = true ∨
        s.window.state ∈ [.opened, .draining] ∨
        ∃ r, (s.robots.table.get r).state ∈ [.ordered, .filling]
      (barred →
        ∃ t, exec (.reload n rest) s = .next t ∧ Arbitrated s.transit t ∧
          t = { s with slots := t.slots, staging := t.staging, writer := t.writer
                       transit := t.transit } ∧
          Answered n (opcodeWord 0x60 rest) [] .refusedState none s t) ∧
      (¬ barred → (∀ m q, s.transit.ports.get m ≠ .held q) →
        ∃ t, exec (.reload n rest) s = .next t ∧ Arbitrated s.transit t ∧
          Answered n (opcodeWord 0x60 rest) [] .done none s t ∧
          t = { s with
            pacing := s.pacing.map fun p => { p with
              inForce := p.delivered, buffered := none
              account :=
                if p.delivered.paced = true then
                  some { credit := p.delivered.k, timer := s.clock.m }
                else none }
            robots := { s.robots with
              table := .all .reset, limit := s.robots.settings.limit, lapsed := false }
            switch := { s.switch with
              table := s.switch.table.map fun e => { e with
                linkUp := true, downLatched := !e.linkUp || e.downLatched, stormLatched := false
                lastCount := 0, baselinePending := true, total := 0 }
              state := .unknown, lastSequence := none, timer := none, restarts := 0
              partialWords := 0, lastHeartbeat := none }
            tracker := { s.tracker with
              running := false, queue := [], shots := .all 0, nextBottle := 0, counters := .zero
              passCredits := .all 0, rejectCredits := .all 0, gateActive := false, offPos := 0
              cameras := s.tracker.cameras.map fun e => { e with online := true } }
            keepalive := { state := .unarmed, timeout := none, last := 0, timer := none }
            mail := { s.mail with
              robotLink := [], credits := [], keepalive := [], transfers := [], cameras := [] }
            window := { s.window with refusal := false }
            loader := { s.loader with load := some .reload, cause := .reload }
            slots := t.slots, staging := t.staging, writer := t.writer, transit := t.transit } ∧
          ReexaminesHeld (.reload n rest) s.transit s)) ∧
  (∀ (pass : Bool) (store : Option (List (BitVec 16))) (s : State), storeWf store = true →
      ∃ t, exec (.loadEnd pass store) s = .next t ∧
        (s.loader.load = none → s.lanesTaken →
          t = { s with transit := t.transit } ∧ Arbitrated s.transit t) ∧
        (s.loader.load ≠ none → s.lanesTaken → (∀ m q, s.transit.ports.get m ≠ .held q) →
          t.loader.load = none ∧ t.loader.selfCheck = pass ∧
          t.loader.condition =
            if storeGood store = true ∧ pass = true then .running else .safe))

/-- LOAD_END with a load in progress, no request HELD and none on the lane of an EMPTY port. SAFE
where the self-check failed or the store is bad (no answer, signature, version, length or sum
wrong), else RUNNING; no load in progress, the self-check kept. SAFE gives the anchor map and every
default; RUNNING each group coded 01 whose words lie below L - 1, bit by bit and clamped (which 4
bits of a word are whose: log 53), else its defaults: the region entries, each disabled where it
breaks R28, the anchor map where then no CONTROL or no REPORTS is enabled, LINE alone writing
CONTROL and reading it too; open space; pacing, an UNPACED entry too with its A, B and clamped Q and
K (log 21); robots and cameras, a port above 8 taken as 0, each camera online where its port is 0,
not of role CAMERA or in service now (new roles, the switch state before timers are judged: log 17);
the switch; holdover limit; maximum duration. ADJUSTED is set exactly where a good store has a group
coded 01 that is too long or an applied group was settled, an UNPACED entry's clamp included (log
21); a failed self-check settles none (log 26). A running timer past its new limit expires: HOLDOVER
to DRIFTING, the switch SILENT, a robot SILENT or FAULTED. Without: those states, the robots and the
notices stand, in SAFE too (logs 20, 52), and START alone is raised (its stamp, where a timer
expires, that of before: log 17), with the lost count, in the new ring at slot 0, put, written and
take first 0 and the mode NORMAL. The other fields of clock, window, Switch Watch and Tracker,
limiters, keepalive and traffic stand. Pacing accounts begin anew, the limit in force is the
delivered one, parameter copies are 0, slots keep states and issue counts, codes show 01 exactly for
the groups applied. A request HELD is then examined anew as an arrival at the EMPTY port, step 1 not
repeated. Each log named is the model's choice. Rests on section 11.6
(spec/11_control_page_reports_and_start_up.md), section 11.7
(spec/11_control_page_reports_and_start_up.md), section 11.9
(spec/11_control_page_reports_and_start_up.md), section 2.5
(spec/02_region_map_and_in_flight_rewriting.md), section 3.6 (spec/03_memory_port_pacing.md),
section 4.6 (spec/04_hall_clock.md), section 4.10 (spec/04_hall_clock.md), section 5.1
(spec/05_cabinet_switch_watch.md), section 6.1 (spec/06_filler_robots.md), section 6.9
(spec/06_filler_robots.md), section 8.2 (spec/08_conveyor_tracking_and_the_bottle_queue.md), section
10.7 (spec/10_service_window.md). -/
def Obligations.LoadEndDeliversTheStoreOrTheAnchor : Prop :=
  ∀ (pass : Bool) (store : Option (List (BitVec 16))) (kind : LoadKind) (s : State),
    storeWf store = true → s.loader.load = some kind →
    (∀ m q, s.transit.ports.get m ≠ .held q) → s.lanesTaken →
    let ws := store.getD []
    let good := storeGood store = true ∧ pass = true
    let bits (i lo n : Nat) : Nat := ((storeWord ws i).extractLsb' lo n).toNat
    let coded (g : Nat) : Prop := bits 3 (2 * g) 2 = 1
    let last (g : Nat) : Nat := [127, 4, 14, 22, 24, 35, 36, 37].getD g 0
    let applied (g : Nat) : Prop := good ∧ coded g ∧ last g < storeLength ws - 1
    let robotPort (r : Robot) : Nat := bits (15 + (r.num - 1) / 4) (4 * ((r.num - 1) % 4)) 4
    let outside (x lo hi : Nat) : Prop := x < lo ∨ hi < x
    (storeGood store = true ↔ store = some ws ∧ storeWord ws 0 = 0x4636 ∧ storeWord ws 1 = 1 ∧
      64 ≤ storeLength ws ∧ storeLength ws ≤ 2048 ∧
      (ws.take (storeLength ws)).foldl (· + ·) 0 = 0) ∧
    ∃ t es, exec (.loadEnd pass store) s = .next t ∧ RegionsLoaded ws es ∧
      t = { s with
        map := t.map, pacing := t.pacing, robots := t.robots, clock := t.clock, switch := t.switch
        tracker := { s.tracker with cameras := t.tracker.cameras }, window := t.window
        loader := t.loader, slots := t.slots, mail := t.mail, staging := t.staging
        writer := t.writer, transit := t.transit } ∧
      (good → t.loader.condition = .running) ∧ (¬ good → t.loader.condition = .safe) ∧
      t.loader.load = none ∧ t.loader.selfCheck = pass ∧
      t.loader.cause = (match kind with | .powerOn => .powerOn | .reload => .reload) ∧
      (∀ g, g < 8 → (t.loader.codes[g]? = some 1 ↔ applied g)) ∧
      (let whole : Prop := ∀ code ∈ ([7, 8] : List (BitVec 4)),
         ∃ e ∈ es, e.enabled = true ∧ e.kindCode = code
       (applied 0 → whole → t.map.entries = es.map fun e =>
          if e.enabled = true ∧ e.kindCode = 7 then
            { e with readRights := e.readRights ||| 0b00001, writeRights := 0b00001 }
          else e) ∧
       (¬ (applied 0 ∧ whole) → t.map.entries = RegionMap.anchor.entries) ∧
       (t.loader.adjusted = true ↔ storeGood store = true ∧
         ((∃ g, g < 8 ∧ coded g ∧ storeLength ws - 1 ≤ last g) ∨
          (applied 0 ∧ ¬ whole) ∨
          (applied 0 ∧ ∃ i e, es[i]? = some e ∧
            ((e.enabled = false ∧ (storeWord ws (64 + 4 * i)).getLsbD 15 = true) ∨
             (e.enabled = true ∧ e.kindCode = 7 ∧
               (e.readRights.getLsbD 0 = false ∨ e.writeRights ≠ 0b00001)))) ∨
          (applied 2 ∧ ∃ m : Master,
            outside (bits (5 + 2 * m.num) 0 7) 1 64 ∨ outside (bits (6 + 2 * m.num) 0 16) 1 1024) ∨
          (applied 3 ∧ ((∃ r, 8 < robotPort r) ∨ outside (bits 17 0 16) 20 2000 ∨
            outside (bits 18 0 16) 50 5000 ∨ outside (bits 19 0 16) 1 60 ∨ 15 < bits 20 0 16 ∨
            outside (bits 21 0 16) 1 100 ∨ 1000 < bits 22 0 16)) ∨
          (applied 4 ∧ ∃ c : Cam, 8 < bits 24 (4 * (c.num - 1)) 4) ∨
          (applied 5 ∧ ((∃ p : SwPort, 5 < bits (25 + (p.num - 1) / 4) (4 * ((p.num - 1) % 4)) 4 ∨
            bits (26 + p.num) 0 16 = 0) ∨ outside (bits 35 0 16) 50 5000)) ∨
          (applied 6 ∧ outside (bits 36 0 16) 10 3600) ∨
          (applied 7 ∧ outside (bits 37 0 16) 1 3600)))) ∧
      (applied 1 → t.map.openSpace =
        { read := (storeWord ws 4).extractLsb' 0 5, write := (storeWord ws 4).extractLsb' 8 5 }) ∧
      (¬ applied 1 → t.map.openSpace = { read := 0b01111, write := 0b01111 }) ∧
      (∀ m, (t.pacing.get m).buffered = none ∧
        (t.pacing.get m).inForce = (t.pacing.get m).delivered ∧
        (applied 2 → (t.pacing.get m).delivered =
          { paced := (storeWord ws (5 + 2 * m.num)).getLsbD 15
            a := bits (5 + 2 * m.num) 8 3, b := bits (5 + 2 * m.num) 11 3
            q := max 1 (min (bits (5 + 2 * m.num) 0 7) 64)
            k := max 1 (min (bits (6 + 2 * m.num) 0 16) 1024) }) ∧
        (¬ applied 2 → (t.pacing.get m).delivered = .reset) ∧
        (t.pacing.get m).account =
          if (t.pacing.get m).inForce.paced = true then
            some { credit := (t.pacing.get m).inForce.k, timer := s.clock.m }
          else none) ∧
      (applied 3 →
        (∀ (r : Robot) (p : SwPort),
          t.robots.settings.linkPort.get r = some p ↔ p.num = robotPort r) ∧
        t.robots.settings = { t.robots.settings with
          heartbeatTimeout := max 20 (min (bits 17 0 16) 2000)
          pickupTimeout := max 50 (min (bits 18 0 16) 5000)
          fillTimeout := max 1 (min (bits 19 0 16) 60), limit := min (bits 20 0 16) 15
          tolerance := max 1 (min (bits 21 0 16) 100), serviceFlow := min (bits 22 0 16) 1000 }) ∧
      (¬ applied 3 → t.robots.settings = .reset) ∧
      t.robots.limit = t.robots.settings.limit ∧ t.robots.lapsed = s.robots.lapsed ∧
      (applied 4 → ∀ c : Cam,
        (t.tracker.cameras.get c).fitted = (storeWord ws 23).getLsbD (c.num - 1) ∧
        (∀ p : SwPort, (t.tracker.cameras.get c).port = some p ↔
          p.num = bits 24 (4 * (c.num - 1)) 4) ∧
        ((t.tracker.cameras.get c).port = none → (t.tracker.cameras.get c).online = true) ∧
        (∀ p, (t.tracker.cameras.get c).port = some p →
          ((t.tracker.cameras.get c).online = true ↔
            (t.switch.table.get p).role ≠ .camera ∨
            ((s.switch.table.get p).linkUp = true ∧ s.switch.state ≠ .silent)))) ∧
      (¬ applied 4 → ∀ c : Cam,
        t.tracker.cameras.get c = { fitted := true, port := none, online := true }) ∧
      (applied 5 → t.switch.timeout = max 50 (min (bits 35 0 16) 5000) ∧
        ∀ p, (t.switch.table.get p).role =
            (match bits (25 + (p.num - 1) / 4) (4 * ((p.num - 1) % 4)) 4 with
              | 1 => .uplink
              | 2 => .timeSource
              | 3 => .robotLink
              | 4 => .camera
              | 5 => .service
              | _ => .unused) ∧
          (t.switch.table.get p).threshold = max 1 (bits (26 + p.num) 0 16)) ∧
      (¬ applied 5 → t.switch.timeout = 500 ∧
        ∀ p, (t.switch.table.get p).role = .unused ∧ (t.switch.table.get p).threshold = 500) ∧
      t.clock = { s.clock with holdoverLimit := t.clock.holdoverLimit, state := t.clock.state } ∧
      (applied 6 → t.clock.holdoverLimit = max 10 (min (bits 36 0 16) 3600)) ∧
      (¬ applied 6 → t.clock.holdoverLimit = 600) ∧
      (∀ h, s.clock.state = .holdover → s.clock.holdoverStart = some h →
        t.clock.state =
          if h.past = true ∨ t.clock.holdoverLimit * 1000000 ≤ (s.clock.m - h.start).toNat then
            .drifting
          else .holdover) ∧
      (s.clock.state ≠ .holdover ∨ s.clock.holdoverStart = none → t.clock.state = s.clock.state) ∧
      t.window = { s.window with maxDuration := t.window.maxDuration } ∧
      (applied 7 → t.window.maxDuration = max 1 (min (bits 37 0 16) 3600)) ∧
      (¬ applied 7 → t.window.maxDuration = 3600) ∧
      (∀ n, (t.slots.get n) = { s.slots.get n with params := List.replicate 14 0 }) ∧
      t.writer.written = 0 ∧ t.writer.take = 0 ∧ Arbitrated s.transit t ∧
      (∀ p, t.switch.table.get p = { s.switch.table.get p with
        role := (t.switch.table.get p).role, threshold := (t.switch.table.get p).threshold }) ∧
      t.switch = { s.switch with
        table := t.switch.table, timeout := t.switch.timeout
        state := t.switch.state, timer := t.switch.timer } ∧
      (let past (timer : Option Micros) (us : Nat) : Prop :=
         ∃ h, timer = some h ∧ us ≤ (s.clock.m - h).toNat
       let g := t.robots.settings
       let switchPast : Prop :=
         s.switch.state = .alive ∧ past s.switch.timer (t.switch.timeout * 1000)
       let unheard (r : Robot) : Prop :=
         (s.robots.table.get r).state ∉ [.offline, .silent, .faulted] ∧
           past (s.robots.table.get r).heartbeatTimer (g.heartbeatTimeout * 1000)
       let overdue (r : Robot) : Prop :=
         ((s.robots.table.get r).state = .ordered ∧
           past (s.robots.table.get r).pickupTimer (g.pickupTimeout * 1000)) ∨
         ((s.robots.table.get r).state = .filling ∧
           past (s.robots.table.get r).fillTimer (g.fillTimeout * 1000000))
       (switchPast → t.switch.state = .silent ∧ t.switch.timer = none) ∧
       (¬ switchPast → t.switch.state = s.switch.state ∧ t.switch.timer = s.switch.timer ∧
         t.mail = s.mail) ∧
       (∀ r, unheard r → (t.robots.table.get r).state = .silent) ∧
       (∀ r, ¬ unheard r → overdue r → (t.robots.table.get r).state = .faulted) ∧
       (∀ r, ¬ unheard r → ¬ overdue r → t.robots.table.get r = s.robots.table.get r) ∧
       (t.clock.state = s.clock.state → ¬ switchPast → (∀ r, ¬ unheard r ∧ ¬ overdue r) →
         Reported [.start t.loader.cause pass t.loader.codes t.loader.adjusted
             (decide (t.loader.condition = .safe)) s.writer.lost]
           { s with
             map := t.map
             writer := { put := 0, written := 0, take := 0, lost := 0, losing := false }
             staging := s.staging.map fun e =>
               match e.body with
               | .record _ _ => { e with current := false }
               | .result _ _ _ _ _ => e } t)) ∧
      ReexaminesHeld (.loadEnd pass store) s.transit s ∧
      (s.staging.length < 8 → 3 ≤ t.map.ringCapacity →
        ∃ e, t.staging[s.staging.length]? = some e ∧ e.addr = t.map.baseOf .reports ∧
          e.body = .record (.start t.loader.cause pass t.loader.codes t.loader.adjusted
            (decide (t.loader.condition = .safe)) s.writer.lost) s.clock.stamp)

/-- CABINET_RESET, no request HELD and none on the lane of an EMPTY port, a ring of at least 3
slots: pacing at the delivered settings; limiters, robots, Switch Watch, Tracker, window (by the
recorded key level: the model's choice, log 37) and keepalive (its timeout none again: the model's
choice, log 48) reset with their settings kept; the slots FREE with copies 0 and issue counts kept
(the opcode word at issue too: the model's choice, log 55), the staging queue cut to a head in
memory, the pointer at SERVICE, ring indices 0, the mode NORMAL, each removed entry and waiting
result added to lost; outside LOADING any load is abandoned and START with cause CABINET_RESET and
that count joins at ring slot 0, lost 0; its self-check is that of the last load that ended, an
abandoned load's own not being known (the model's choice, log 43). With one request HELD, it is then
examined anew as an arrival at the EMPTY port, step 1 not repeated, against the reset state with its
account restored. Clock, map, condition, session number, ports and the notices to the Hall Clock
(the model's choice, log 40) stand. POWER_ON with nothing on the lanes leaves the reset state with
SVC_KEY as read (Last self-check, the accept codes and ADJUSTED have values of the model's choice,
logs 49 and 7), but for the model's own queue and tie count, which stay (the model's choice, log
29); with requests on the lane of one master they are then taken as they would arrive. Rests on
section 11.7 (spec/11_control_page_reports_and_start_up.md), section 1.8 (spec/01_transit_path.md),
section 6.9 (spec/06_filler_robots.md), section 10.7 (spec/10_service_window.md), section 3.6
(spec/03_memory_port_pacing.md), section 1.3 (spec/01_transit_path.md). -/
def Obligations.CabinetResetAndPowerOn : Prop :=
  (∀ (key : Bool) (s : State), (∀ m, s.transit.lanes.get m = []) →
    let u : State := { State.reset with
      pending := s.pending, ties := s.ties
      transit := { State.reset.transit with lanes := s.transit.lanes }
      window := { State.reset.window with
        key := key, state := if key = true then .keyed else .closed } }
    exec (.powerOn key) s = .next u ∧
    ∀ (m : Master) (l : List Request), (∀ r ∈ l, r.wf = true) →
      ∃ t, exec (.powerOn key) { s with
          transit := { s.transit with lanes := s.transit.lanes.set m l } } = .next t ∧
        Presented m l u t) ∧
  ∀ s : State, (∀ m q, s.transit.ports.get m ≠ .held q) → s.lanesTaken → 3 ≤ s.map.ringCapacity →
    let loading := s.loader.condition = .loading
    let kept : List StagingEntry :=
      if s.transit.memPort = .internal then
        (s.staging.take 1).map fun e => { e with current := false, cut := true }
      else []
    let lost := min (s.writer.lost + (s.staging.length - kept.length +
      s.slots.toList.countP fun c => c.waiting.isSome)) max32
    let start : StagingEntry :=
      { body := .record (.start .cabinetReset s.loader.selfCheck s.loader.codes s.loader.adjusted
          (decide (s.loader.condition = .safe)) lost) s.clock.stamp
        addr := s.map.baseOf .reports, current := true, firstDone := false, failed := false
        cut := false }
    ∃ t, exec .cabinetReset s = .next t ∧ Arbitrated { s.transit with pointer := .service } t ∧
      t = { s with
        pacing := s.pacing.map fun p => { p with
          inForce := p.delivered, buffered := none
          account :=
            if p.delivered.paced = true then some { credit := p.delivered.k, timer := s.clock.m }
            else none }
        limiters := .all { total := 0, mode := .quiet }
        robots := { s.robots with
          table := .all .reset, limit := s.robots.settings.limit, lapsed := false }
        switch := { s.switch with
          table := s.switch.table.map fun e => { e with
            linkUp := true, downLatched := !e.linkUp || e.downLatched, stormLatched := false
            lastCount := 0, baselinePending := true, total := 0 }
          state := .unknown, lastSequence := none, timer := none, restarts := 0
          partialWords := 0, lastHeartbeat := none }
        tracker := { s.tracker with
          running := false, queue := [], shots := .all 0, nextBottle := 0, counters := .zero
          passCredits := .all 0, rejectCredits := .all 0, gateActive := false, offPos := 0
          cameras := s.tracker.cameras.map fun e => { e with online := true } }
        window := { s.window with
          state := if s.window.key = true then .keyed else .closed, grants := []
          robotSet := .all none, deadline := none, refusal := false }
        keepalive := { state := .unarmed, timeout := none, last := 0, timer := none }
        mail := { s.mail with
          robotLink := [], credits := [], keepalive := [], transfers := [], cameras := []
          serviceLoss := [], answers := [] }
        slots := s.slots.map fun c => { c with
          awaiting := false, params := List.replicate 14 0, waiting := none }
        loader := t.loader, staging := t.staging, writer := t.writer, transit := t.transit } ∧
      (loading → t.loader = s.loader ∧ t.staging = kept ∧
        t.writer = { put := 0, written := 0, take := 0, lost := lost, losing := false }) ∧
      (¬ loading → t.loader = { s.loader with load := none, cause := .cabinetReset } ∧
        t.staging = kept ++ [start] ∧
        t.writer = { put := 1, written := 0, take := 0, lost := 0, losing := false }) ∧
      ReexaminesHeld .cabinetReset { s.transit with pointer := .service } s

/-- PERMITr is on exactly in RUNNING with the robot READY, ORDERED or FILLING: that LOADING and SAFE
come before the robot's state is the model's choice (log 20). GATE is on exactly while the reject
gate is ACTIVE, and under the Tracker's invariant only while tracking is RUNNING and the part
RUNNING. With a ring of N slots and indices below N, ATTN is on exactly where written and take
differ. ALARM is on exactly where a robot is FAULTED or SILENT, the keepalive LAPSED in the Control
Decoder or in the Robot Guard's view, the clock DRIFTING, the switch SILENT or the part in SAFE:
that either of the two LAPSED is enough is the model's choice (log 19). Rests on section 6.2
(spec/06_filler_robots.md), section 9.6 (spec/09_verdicts_and_the_reject_gate.md), section 11.4
(spec/11_control_page_reports_and_start_up.md), section 11.5
(spec/11_control_page_reports_and_start_up.md), section 6.6 (spec/06_filler_robots.md). -/
def Obligations.OutputLinesFollowTheState : Prop :=
  ∀ s : State,
    (∀ r, permitLine s r = true ↔ s.loader.condition = .running ∧
      (s.robots.table.get r).state ∈ [.ready, .ordered, .filling]) ∧
    (gateLine s = true ↔ s.tracker.gateActive = true) ∧
    (TrackerInv s → gateLine s = true →
      s.tracker.running = true ∧ s.loader.condition = .running) ∧
    (s.writer.written < s.map.ringCapacity → s.writer.take < s.map.ringCapacity →
      (attnLine s = true ↔ s.writer.written ≠ s.writer.take)) ∧
    (alarmLine s = true ↔ (∃ r, (s.robots.table.get r).state ∈ [.faulted, .silent]) ∨
      s.keepalive.state = .lapsed ∨ s.robots.lapsed = true ∨ s.clock.state = .drifting ∨
      s.switch.state = .silent ∨ s.loader.condition = .safe)

/-- From every state with the traffic invariant, a step that answers next keeps it: a master port is
IN_MEMORY exactly where the memory port carries it, an internal write has a head entry to write, a
free memory port leaves no port WAITING and no staging entry, the staging queue holds at most 8
entries, a result waits outside it only while it holds 8, and no EMPTY port has a request on its
lane. Rests on section 1.1 (spec/01_transit_path.md), section 1.4 (spec/01_transit_path.md), section
1.5 (spec/01_transit_path.md). -/
def Obligations.TrafficInvariantIsKept : Prop :=
  ∀ s t : State, TrafficInv s → step s = .next t → TrafficInv t

/-- From every state with the Tracker's invariant, a step that answers next keeps it: at most 64
entries with consecutive numbers up to the next one, accepted equal to passed plus rejected plus
dropped plus the entries in the queue modulo 2^32, STOPPED with an empty queue and an IDLE gate,
RUNNING only in RUNNING without a load and with parameters in their ranges. Rests on section 8.4
(spec/08_conveyor_tracking_and_the_bottle_queue.md), section 8.8
(spec/08_conveyor_tracking_and_the_bottle_queue.md), section 8.3
(spec/08_conveyor_tracking_and_the_bottle_queue.md), section 9.6
(spec/09_verdicts_and_the_reject_gate.md). -/
def Obligations.TrackerInvariantIsKept : Prop :=
  ∀ s t : State, TrackerInv s → step s = .next t → TrackerInv t

/-- From every state with the map's invariant, a step that answers next keeps it: sixteen entries,
the enabled ones of a known kind, weight 1 to 4, inside the address space and disjoint, at most one
enabled entry of each of ORDERS, STATUS, VERDICTS, PORTS, CONTROL and REPORTS, with an enabled
CONTROL entry that LINE alone may write and an enabled REPORTS entry. With the pacing invariant as
well, that is kept too: settings in range, an account exactly where the setting in force is PACED,
its credit from -32 to K. Rests on section 2.1 (spec/02_region_map_and_in_flight_rewriting.md),
section 2.5 (spec/02_region_map_and_in_flight_rewriting.md), section 3.1
(spec/03_memory_port_pacing.md), section 3.2 (spec/03_memory_port_pacing.md), section 3.3
(spec/03_memory_port_pacing.md). -/
def Obligations.MapAndPacingInvariantsAreKept : Prop :=
  ∀ s t : State, MapInv s → step s = .next t → MapInv t ∧ (PacingInv s → PacingInv t)

/-- From every state with the robots' invariant, a step that answers next keeps it: for each robot
an ordered envelope in range, Fp at most 1000 and 0 outside ORDERED and FILLING, the heartbeat,
pickup and fill timers running exactly in their states, a fill record exactly in FILLING, hold and
fault causes where the state has them, a FILL order of at most 30,000 in ORDERED, a transfer pending
only for a LINE-owned robot neither READY nor OFFLINE; the limits in range. The same of the
ownership invariant: a robot outside the set of an OPEN or DRAINING window is LINE's with nothing
pending and no message on its way, and one of the set has its request, its transfer or its return
under way or taken. It makes a robot SERVICE's only while the window is OPEN or DRAINING. Rests on
section 6.1 (spec/06_filler_robots.md), section 6.2 (spec/06_filler_robots.md), section 6.8
(spec/06_filler_robots.md), section 7.5 (spec/07_fill_order_guard.md), section 10.2
(spec/10_service_window.md), section 10.5 (spec/10_service_window.md). -/
def Obligations.RobotsInvariantIsKept : Prop :=
  ∀ s t : State, step s = .next t →
    (RobotsInv s → RobotsInv t) ∧ (OwnershipInv s → OwnershipInv t) ∧
    (OwnershipInv s → ∀ r, (t.robots.table.get r).owner = .service →
      t.window.state ∈ [.opened, .draining])

/-- From every state with the clock's invariant, a step that answers next keeps it: F within 200, C
within 500, the runs within their bounds, the pulse watch running exactly in LOCKING and LOCKED, C
equal to F in HOLDOVER and DRIFTING, no more adjustments than |C|, the holdover limit from 10 to
3600. The same of the window's invariant: the key off in CLOSED and on in KEYED and OPEN, a deadline
exactly in OPEN, grants and robots only in a session, a refusal only in DRAINING, a session only in
RUNNING without a load. Rests on section 4.2 (spec/04_hall_clock.md), section 4.5
(spec/04_hall_clock.md), section 4.6 (spec/04_hall_clock.md), section 10.1
(spec/10_service_window.md), section 10.2 (spec/10_service_window.md), section 10.5
(spec/10_service_window.md). -/
def Obligations.ClockAndWindowInvariantsAreKept : Prop :=
  ∀ s t : State, step s = .next t →
    (ClockInv s → ClockInv t) ∧ (WindowInv s → WindowInv t)

/-- State.reset has the traffic, Tracker, map, pacing, robot, ownership, clock and window
invariants. Rests on section 1.8 (spec/01_transit_path.md), section 2.1
(spec/02_region_map_and_in_flight_rewriting.md), section 3.6 (spec/03_memory_port_pacing.md),
section 6.9 (spec/06_filler_robots.md), section 8.10
(spec/08_conveyor_tracking_and_the_bottle_queue.md), section 10.7 (spec/10_service_window.md). -/
def Obligations.InvariantsHoldAtReset : Prop :=
  TrafficInv State.reset ∧ TrackerInv State.reset ∧ MapInv State.reset ∧ PacingInv State.reset ∧
    RobotsInv State.reset ∧ OwnershipInv State.reset ∧ ClockInv State.reset ∧ WindowInv State.reset
end

