-- ==== Sys2Proof/Laws/State.lean ====
section
/-!
SUPPORT. What each setter of the state changes and leaves: one lemma for each field and each setter,
true by rfl.
-/
namespace Sys2Proof.Machine

@[simp] theorem State.setPending_pending (s : State) (x : List Instr) : (s.setPending x).pending = x := rfl
@[simp] theorem State.setPending_ties (s : State) (x : List Instr) : (s.setPending x).ties = s.ties := rfl
@[simp] theorem State.setPending_clock (s : State) (x : List Instr) : (s.setPending x).clock = s.clock := rfl
@[simp] theorem State.setPending_switch (s : State) (x : List Instr) : (s.setPending x).switch = s.switch := rfl
@[simp] theorem State.setPending_map (s : State) (x : List Instr) : (s.setPending x).map = s.map := rfl
@[simp] theorem State.setPending_limiters (s : State) (x : List Instr) : (s.setPending x).limiters = s.limiters := rfl
@[simp] theorem State.setPending_pacing (s : State) (x : List Instr) : (s.setPending x).pacing = s.pacing := rfl
@[simp] theorem State.setPending_transit (s : State) (x : List Instr) : (s.setPending x).transit = s.transit := rfl
@[simp] theorem State.setPending_staging (s : State) (x : List Instr) : (s.setPending x).staging = s.staging := rfl
@[simp] theorem State.setPending_robots (s : State) (x : List Instr) : (s.setPending x).robots = s.robots := rfl
@[simp] theorem State.setPending_tracker (s : State) (x : List Instr) : (s.setPending x).tracker = s.tracker := rfl
@[simp] theorem State.setPending_window (s : State) (x : List Instr) : (s.setPending x).window = s.window := rfl
@[simp] theorem State.setPending_slots (s : State) (x : List Instr) : (s.setPending x).slots = s.slots := rfl
@[simp] theorem State.setPending_keepalive (s : State) (x : List Instr) : (s.setPending x).keepalive = s.keepalive := rfl
@[simp] theorem State.setPending_writer (s : State) (x : List Instr) : (s.setPending x).writer = s.writer := rfl
@[simp] theorem State.setPending_loader (s : State) (x : List Instr) : (s.setPending x).loader = s.loader := rfl
@[simp] theorem State.setPending_mail (s : State) (x : List Instr) : (s.setPending x).mail = s.mail := rfl
@[simp] theorem State.setTies_pending (s : State) (x : Nat) : (s.setTies x).pending = s.pending := rfl
@[simp] theorem State.setTies_ties (s : State) (x : Nat) : (s.setTies x).ties = x := rfl
@[simp] theorem State.setTies_clock (s : State) (x : Nat) : (s.setTies x).clock = s.clock := rfl
@[simp] theorem State.setTies_switch (s : State) (x : Nat) : (s.setTies x).switch = s.switch := rfl
@[simp] theorem State.setTies_map (s : State) (x : Nat) : (s.setTies x).map = s.map := rfl
@[simp] theorem State.setTies_limiters (s : State) (x : Nat) : (s.setTies x).limiters = s.limiters := rfl
@[simp] theorem State.setTies_pacing (s : State) (x : Nat) : (s.setTies x).pacing = s.pacing := rfl
@[simp] theorem State.setTies_transit (s : State) (x : Nat) : (s.setTies x).transit = s.transit := rfl
@[simp] theorem State.setTies_staging (s : State) (x : Nat) : (s.setTies x).staging = s.staging := rfl
@[simp] theorem State.setTies_robots (s : State) (x : Nat) : (s.setTies x).robots = s.robots := rfl
@[simp] theorem State.setTies_tracker (s : State) (x : Nat) : (s.setTies x).tracker = s.tracker := rfl
@[simp] theorem State.setTies_window (s : State) (x : Nat) : (s.setTies x).window = s.window := rfl
@[simp] theorem State.setTies_slots (s : State) (x : Nat) : (s.setTies x).slots = s.slots := rfl
@[simp] theorem State.setTies_keepalive (s : State) (x : Nat) : (s.setTies x).keepalive = s.keepalive := rfl
@[simp] theorem State.setTies_writer (s : State) (x : Nat) : (s.setTies x).writer = s.writer := rfl
@[simp] theorem State.setTies_loader (s : State) (x : Nat) : (s.setTies x).loader = s.loader := rfl
@[simp] theorem State.setTies_mail (s : State) (x : Nat) : (s.setTies x).mail = s.mail := rfl
@[simp] theorem State.setClock_pending (s : State) (x : Clock) : (s.setClock x).pending = s.pending := rfl
@[simp] theorem State.setClock_ties (s : State) (x : Clock) : (s.setClock x).ties = s.ties := rfl
@[simp] theorem State.setClock_clock (s : State) (x : Clock) : (s.setClock x).clock = x := rfl
@[simp] theorem State.setClock_switch (s : State) (x : Clock) : (s.setClock x).switch = s.switch := rfl
@[simp] theorem State.setClock_map (s : State) (x : Clock) : (s.setClock x).map = s.map := rfl
@[simp] theorem State.setClock_limiters (s : State) (x : Clock) : (s.setClock x).limiters = s.limiters := rfl
@[simp] theorem State.setClock_pacing (s : State) (x : Clock) : (s.setClock x).pacing = s.pacing := rfl
@[simp] theorem State.setClock_transit (s : State) (x : Clock) : (s.setClock x).transit = s.transit := rfl
@[simp] theorem State.setClock_staging (s : State) (x : Clock) : (s.setClock x).staging = s.staging := rfl
@[simp] theorem State.setClock_robots (s : State) (x : Clock) : (s.setClock x).robots = s.robots := rfl
@[simp] theorem State.setClock_tracker (s : State) (x : Clock) : (s.setClock x).tracker = s.tracker := rfl
@[simp] theorem State.setClock_window (s : State) (x : Clock) : (s.setClock x).window = s.window := rfl
@[simp] theorem State.setClock_slots (s : State) (x : Clock) : (s.setClock x).slots = s.slots := rfl
@[simp] theorem State.setClock_keepalive (s : State) (x : Clock) : (s.setClock x).keepalive = s.keepalive := rfl
@[simp] theorem State.setClock_writer (s : State) (x : Clock) : (s.setClock x).writer = s.writer := rfl
@[simp] theorem State.setClock_loader (s : State) (x : Clock) : (s.setClock x).loader = s.loader := rfl
@[simp] theorem State.setClock_mail (s : State) (x : Clock) : (s.setClock x).mail = s.mail := rfl
@[simp] theorem State.setSwitch_pending (s : State) (x : SwitchWatch) : (s.setSwitch x).pending = s.pending := rfl
@[simp] theorem State.setSwitch_ties (s : State) (x : SwitchWatch) : (s.setSwitch x).ties = s.ties := rfl
@[simp] theorem State.setSwitch_clock (s : State) (x : SwitchWatch) : (s.setSwitch x).clock = s.clock := rfl
@[simp] theorem State.setSwitch_switch (s : State) (x : SwitchWatch) : (s.setSwitch x).switch = x := rfl
@[simp] theorem State.setSwitch_map (s : State) (x : SwitchWatch) : (s.setSwitch x).map = s.map := rfl
@[simp] theorem State.setSwitch_limiters (s : State) (x : SwitchWatch) : (s.setSwitch x).limiters = s.limiters := rfl
@[simp] theorem State.setSwitch_pacing (s : State) (x : SwitchWatch) : (s.setSwitch x).pacing = s.pacing := rfl
@[simp] theorem State.setSwitch_transit (s : State) (x : SwitchWatch) : (s.setSwitch x).transit = s.transit := rfl
@[simp] theorem State.setSwitch_staging (s : State) (x : SwitchWatch) : (s.setSwitch x).staging = s.staging := rfl
@[simp] theorem State.setSwitch_robots (s : State) (x : SwitchWatch) : (s.setSwitch x).robots = s.robots := rfl
@[simp] theorem State.setSwitch_tracker (s : State) (x : SwitchWatch) : (s.setSwitch x).tracker = s.tracker := rfl
@[simp] theorem State.setSwitch_window (s : State) (x : SwitchWatch) : (s.setSwitch x).window = s.window := rfl
@[simp] theorem State.setSwitch_slots (s : State) (x : SwitchWatch) : (s.setSwitch x).slots = s.slots := rfl
@[simp] theorem State.setSwitch_keepalive (s : State) (x : SwitchWatch) : (s.setSwitch x).keepalive = s.keepalive := rfl
@[simp] theorem State.setSwitch_writer (s : State) (x : SwitchWatch) : (s.setSwitch x).writer = s.writer := rfl
@[simp] theorem State.setSwitch_loader (s : State) (x : SwitchWatch) : (s.setSwitch x).loader = s.loader := rfl
@[simp] theorem State.setSwitch_mail (s : State) (x : SwitchWatch) : (s.setSwitch x).mail = s.mail := rfl
@[simp] theorem State.setMap_pending (s : State) (x : RegionMap) : (s.setMap x).pending = s.pending := rfl
@[simp] theorem State.setMap_ties (s : State) (x : RegionMap) : (s.setMap x).ties = s.ties := rfl
@[simp] theorem State.setMap_clock (s : State) (x : RegionMap) : (s.setMap x).clock = s.clock := rfl
@[simp] theorem State.setMap_switch (s : State) (x : RegionMap) : (s.setMap x).switch = s.switch := rfl
@[simp] theorem State.setMap_map (s : State) (x : RegionMap) : (s.setMap x).map = x := rfl
@[simp] theorem State.setMap_limiters (s : State) (x : RegionMap) : (s.setMap x).limiters = s.limiters := rfl
@[simp] theorem State.setMap_pacing (s : State) (x : RegionMap) : (s.setMap x).pacing = s.pacing := rfl
@[simp] theorem State.setMap_transit (s : State) (x : RegionMap) : (s.setMap x).transit = s.transit := rfl
@[simp] theorem State.setMap_staging (s : State) (x : RegionMap) : (s.setMap x).staging = s.staging := rfl
@[simp] theorem State.setMap_robots (s : State) (x : RegionMap) : (s.setMap x).robots = s.robots := rfl
@[simp] theorem State.setMap_tracker (s : State) (x : RegionMap) : (s.setMap x).tracker = s.tracker := rfl
@[simp] theorem State.setMap_window (s : State) (x : RegionMap) : (s.setMap x).window = s.window := rfl
@[simp] theorem State.setMap_slots (s : State) (x : RegionMap) : (s.setMap x).slots = s.slots := rfl
@[simp] theorem State.setMap_keepalive (s : State) (x : RegionMap) : (s.setMap x).keepalive = s.keepalive := rfl
@[simp] theorem State.setMap_writer (s : State) (x : RegionMap) : (s.setMap x).writer = s.writer := rfl
@[simp] theorem State.setMap_loader (s : State) (x : RegionMap) : (s.setMap x).loader = s.loader := rfl
@[simp] theorem State.setMap_mail (s : State) (x : RegionMap) : (s.setMap x).mail = s.mail := rfl
@[simp] theorem State.setLimiters_pending (s : State) (x : PerMaster Limiter) : (s.setLimiters x).pending = s.pending := rfl
@[simp] theorem State.setLimiters_ties (s : State) (x : PerMaster Limiter) : (s.setLimiters x).ties = s.ties := rfl
@[simp] theorem State.setLimiters_clock (s : State) (x : PerMaster Limiter) : (s.setLimiters x).clock = s.clock := rfl
@[simp] theorem State.setLimiters_switch (s : State) (x : PerMaster Limiter) : (s.setLimiters x).switch = s.switch := rfl
@[simp] theorem State.setLimiters_map (s : State) (x : PerMaster Limiter) : (s.setLimiters x).map = s.map := rfl
@[simp] theorem State.setLimiters_limiters (s : State) (x : PerMaster Limiter) : (s.setLimiters x).limiters = x := rfl
@[simp] theorem State.setLimiters_pacing (s : State) (x : PerMaster Limiter) : (s.setLimiters x).pacing = s.pacing := rfl
@[simp] theorem State.setLimiters_transit (s : State) (x : PerMaster Limiter) : (s.setLimiters x).transit = s.transit := rfl
@[simp] theorem State.setLimiters_staging (s : State) (x : PerMaster Limiter) : (s.setLimiters x).staging = s.staging := rfl
@[simp] theorem State.setLimiters_robots (s : State) (x : PerMaster Limiter) : (s.setLimiters x).robots = s.robots := rfl
@[simp] theorem State.setLimiters_tracker (s : State) (x : PerMaster Limiter) : (s.setLimiters x).tracker = s.tracker := rfl
@[simp] theorem State.setLimiters_window (s : State) (x : PerMaster Limiter) : (s.setLimiters x).window = s.window := rfl
@[simp] theorem State.setLimiters_slots (s : State) (x : PerMaster Limiter) : (s.setLimiters x).slots = s.slots := rfl
@[simp] theorem State.setLimiters_keepalive (s : State) (x : PerMaster Limiter) : (s.setLimiters x).keepalive = s.keepalive := rfl
@[simp] theorem State.setLimiters_writer (s : State) (x : PerMaster Limiter) : (s.setLimiters x).writer = s.writer := rfl
@[simp] theorem State.setLimiters_loader (s : State) (x : PerMaster Limiter) : (s.setLimiters x).loader = s.loader := rfl
@[simp] theorem State.setLimiters_mail (s : State) (x : PerMaster Limiter) : (s.setLimiters x).mail = s.mail := rfl
@[simp] theorem State.setPacing_pending (s : State) (x : PerMaster Pace) : (s.setPacing x).pending = s.pending := rfl
@[simp] theorem State.setPacing_ties (s : State) (x : PerMaster Pace) : (s.setPacing x).ties = s.ties := rfl
@[simp] theorem State.setPacing_clock (s : State) (x : PerMaster Pace) : (s.setPacing x).clock = s.clock := rfl
@[simp] theorem State.setPacing_switch (s : State) (x : PerMaster Pace) : (s.setPacing x).switch = s.switch := rfl
@[simp] theorem State.setPacing_map (s : State) (x : PerMaster Pace) : (s.setPacing x).map = s.map := rfl
@[simp] theorem State.setPacing_limiters (s : State) (x : PerMaster Pace) : (s.setPacing x).limiters = s.limiters := rfl
@[simp] theorem State.setPacing_pacing (s : State) (x : PerMaster Pace) : (s.setPacing x).pacing = x := rfl
@[simp] theorem State.setPacing_transit (s : State) (x : PerMaster Pace) : (s.setPacing x).transit = s.transit := rfl
@[simp] theorem State.setPacing_staging (s : State) (x : PerMaster Pace) : (s.setPacing x).staging = s.staging := rfl
@[simp] theorem State.setPacing_robots (s : State) (x : PerMaster Pace) : (s.setPacing x).robots = s.robots := rfl
@[simp] theorem State.setPacing_tracker (s : State) (x : PerMaster Pace) : (s.setPacing x).tracker = s.tracker := rfl
@[simp] theorem State.setPacing_window (s : State) (x : PerMaster Pace) : (s.setPacing x).window = s.window := rfl
@[simp] theorem State.setPacing_slots (s : State) (x : PerMaster Pace) : (s.setPacing x).slots = s.slots := rfl
@[simp] theorem State.setPacing_keepalive (s : State) (x : PerMaster Pace) : (s.setPacing x).keepalive = s.keepalive := rfl
@[simp] theorem State.setPacing_writer (s : State) (x : PerMaster Pace) : (s.setPacing x).writer = s.writer := rfl
@[simp] theorem State.setPacing_loader (s : State) (x : PerMaster Pace) : (s.setPacing x).loader = s.loader := rfl
@[simp] theorem State.setPacing_mail (s : State) (x : PerMaster Pace) : (s.setPacing x).mail = s.mail := rfl
@[simp] theorem State.setTransit_pending (s : State) (x : Transit) : (s.setTransit x).pending = s.pending := rfl
@[simp] theorem State.setTransit_ties (s : State) (x : Transit) : (s.setTransit x).ties = s.ties := rfl
@[simp] theorem State.setTransit_clock (s : State) (x : Transit) : (s.setTransit x).clock = s.clock := rfl
@[simp] theorem State.setTransit_switch (s : State) (x : Transit) : (s.setTransit x).switch = s.switch := rfl
@[simp] theorem State.setTransit_map (s : State) (x : Transit) : (s.setTransit x).map = s.map := rfl
@[simp] theorem State.setTransit_limiters (s : State) (x : Transit) : (s.setTransit x).limiters = s.limiters := rfl
@[simp] theorem State.setTransit_pacing (s : State) (x : Transit) : (s.setTransit x).pacing = s.pacing := rfl
@[simp] theorem State.setTransit_transit (s : State) (x : Transit) : (s.setTransit x).transit = x := rfl
@[simp] theorem State.setTransit_staging (s : State) (x : Transit) : (s.setTransit x).staging = s.staging := rfl
@[simp] theorem State.setTransit_robots (s : State) (x : Transit) : (s.setTransit x).robots = s.robots := rfl
@[simp] theorem State.setTransit_tracker (s : State) (x : Transit) : (s.setTransit x).tracker = s.tracker := rfl
@[simp] theorem State.setTransit_window (s : State) (x : Transit) : (s.setTransit x).window = s.window := rfl
@[simp] theorem State.setTransit_slots (s : State) (x : Transit) : (s.setTransit x).slots = s.slots := rfl
@[simp] theorem State.setTransit_keepalive (s : State) (x : Transit) : (s.setTransit x).keepalive = s.keepalive := rfl
@[simp] theorem State.setTransit_writer (s : State) (x : Transit) : (s.setTransit x).writer = s.writer := rfl
@[simp] theorem State.setTransit_loader (s : State) (x : Transit) : (s.setTransit x).loader = s.loader := rfl
@[simp] theorem State.setTransit_mail (s : State) (x : Transit) : (s.setTransit x).mail = s.mail := rfl
@[simp] theorem State.setStaging_pending (s : State) (x : List StagingEntry) : (s.setStaging x).pending = s.pending := rfl
@[simp] theorem State.setStaging_ties (s : State) (x : List StagingEntry) : (s.setStaging x).ties = s.ties := rfl
@[simp] theorem State.setStaging_clock (s : State) (x : List StagingEntry) : (s.setStaging x).clock = s.clock := rfl
@[simp] theorem State.setStaging_switch (s : State) (x : List StagingEntry) : (s.setStaging x).switch = s.switch := rfl
@[simp] theorem State.setStaging_map (s : State) (x : List StagingEntry) : (s.setStaging x).map = s.map := rfl
@[simp] theorem State.setStaging_limiters (s : State) (x : List StagingEntry) : (s.setStaging x).limiters = s.limiters := rfl
@[simp] theorem State.setStaging_pacing (s : State) (x : List StagingEntry) : (s.setStaging x).pacing = s.pacing := rfl
@[simp] theorem State.setStaging_transit (s : State) (x : List StagingEntry) : (s.setStaging x).transit = s.transit := rfl
@[simp] theorem State.setStaging_staging (s : State) (x : List StagingEntry) : (s.setStaging x).staging = x := rfl
@[simp] theorem State.setStaging_robots (s : State) (x : List StagingEntry) : (s.setStaging x).robots = s.robots := rfl
@[simp] theorem State.setStaging_tracker (s : State) (x : List StagingEntry) : (s.setStaging x).tracker = s.tracker := rfl
@[simp] theorem State.setStaging_window (s : State) (x : List StagingEntry) : (s.setStaging x).window = s.window := rfl
@[simp] theorem State.setStaging_slots (s : State) (x : List StagingEntry) : (s.setStaging x).slots = s.slots := rfl
@[simp] theorem State.setStaging_keepalive (s : State) (x : List StagingEntry) : (s.setStaging x).keepalive = s.keepalive := rfl
@[simp] theorem State.setStaging_writer (s : State) (x : List StagingEntry) : (s.setStaging x).writer = s.writer := rfl
@[simp] theorem State.setStaging_loader (s : State) (x : List StagingEntry) : (s.setStaging x).loader = s.loader := rfl
@[simp] theorem State.setStaging_mail (s : State) (x : List StagingEntry) : (s.setStaging x).mail = s.mail := rfl
@[simp] theorem State.setRobots_pending (s : State) (x : RobotGuard) : (s.setRobots x).pending = s.pending := rfl
@[simp] theorem State.setRobots_ties (s : State) (x : RobotGuard) : (s.setRobots x).ties = s.ties := rfl
@[simp] theorem State.setRobots_clock (s : State) (x : RobotGuard) : (s.setRobots x).clock = s.clock := rfl
@[simp] theorem State.setRobots_switch (s : State) (x : RobotGuard) : (s.setRobots x).switch = s.switch := rfl
@[simp] theorem State.setRobots_map (s : State) (x : RobotGuard) : (s.setRobots x).map = s.map := rfl
@[simp] theorem State.setRobots_limiters (s : State) (x : RobotGuard) : (s.setRobots x).limiters = s.limiters := rfl
@[simp] theorem State.setRobots_pacing (s : State) (x : RobotGuard) : (s.setRobots x).pacing = s.pacing := rfl
@[simp] theorem State.setRobots_transit (s : State) (x : RobotGuard) : (s.setRobots x).transit = s.transit := rfl
@[simp] theorem State.setRobots_staging (s : State) (x : RobotGuard) : (s.setRobots x).staging = s.staging := rfl
@[simp] theorem State.setRobots_robots (s : State) (x : RobotGuard) : (s.setRobots x).robots = x := rfl
@[simp] theorem State.setRobots_tracker (s : State) (x : RobotGuard) : (s.setRobots x).tracker = s.tracker := rfl
@[simp] theorem State.setRobots_window (s : State) (x : RobotGuard) : (s.setRobots x).window = s.window := rfl
@[simp] theorem State.setRobots_slots (s : State) (x : RobotGuard) : (s.setRobots x).slots = s.slots := rfl
@[simp] theorem State.setRobots_keepalive (s : State) (x : RobotGuard) : (s.setRobots x).keepalive = s.keepalive := rfl
@[simp] theorem State.setRobots_writer (s : State) (x : RobotGuard) : (s.setRobots x).writer = s.writer := rfl
@[simp] theorem State.setRobots_loader (s : State) (x : RobotGuard) : (s.setRobots x).loader = s.loader := rfl
@[simp] theorem State.setRobots_mail (s : State) (x : RobotGuard) : (s.setRobots x).mail = s.mail := rfl
@[simp] theorem State.setTracker_pending (s : State) (x : Tracker) : (s.setTracker x).pending = s.pending := rfl
@[simp] theorem State.setTracker_ties (s : State) (x : Tracker) : (s.setTracker x).ties = s.ties := rfl
@[simp] theorem State.setTracker_clock (s : State) (x : Tracker) : (s.setTracker x).clock = s.clock := rfl
@[simp] theorem State.setTracker_switch (s : State) (x : Tracker) : (s.setTracker x).switch = s.switch := rfl
@[simp] theorem State.setTracker_map (s : State) (x : Tracker) : (s.setTracker x).map = s.map := rfl
@[simp] theorem State.setTracker_limiters (s : State) (x : Tracker) : (s.setTracker x).limiters = s.limiters := rfl
@[simp] theorem State.setTracker_pacing (s : State) (x : Tracker) : (s.setTracker x).pacing = s.pacing := rfl
@[simp] theorem State.setTracker_transit (s : State) (x : Tracker) : (s.setTracker x).transit = s.transit := rfl
@[simp] theorem State.setTracker_staging (s : State) (x : Tracker) : (s.setTracker x).staging = s.staging := rfl
@[simp] theorem State.setTracker_robots (s : State) (x : Tracker) : (s.setTracker x).robots = s.robots := rfl
@[simp] theorem State.setTracker_tracker (s : State) (x : Tracker) : (s.setTracker x).tracker = x := rfl
@[simp] theorem State.setTracker_window (s : State) (x : Tracker) : (s.setTracker x).window = s.window := rfl
@[simp] theorem State.setTracker_slots (s : State) (x : Tracker) : (s.setTracker x).slots = s.slots := rfl
@[simp] theorem State.setTracker_keepalive (s : State) (x : Tracker) : (s.setTracker x).keepalive = s.keepalive := rfl
@[simp] theorem State.setTracker_writer (s : State) (x : Tracker) : (s.setTracker x).writer = s.writer := rfl
@[simp] theorem State.setTracker_loader (s : State) (x : Tracker) : (s.setTracker x).loader = s.loader := rfl
@[simp] theorem State.setTracker_mail (s : State) (x : Tracker) : (s.setTracker x).mail = s.mail := rfl
@[simp] theorem State.setWindow_pending (s : State) (x : ServiceWindow) : (s.setWindow x).pending = s.pending := rfl
@[simp] theorem State.setWindow_ties (s : State) (x : ServiceWindow) : (s.setWindow x).ties = s.ties := rfl
@[simp] theorem State.setWindow_clock (s : State) (x : ServiceWindow) : (s.setWindow x).clock = s.clock := rfl
@[simp] theorem State.setWindow_switch (s : State) (x : ServiceWindow) : (s.setWindow x).switch = s.switch := rfl
@[simp] theorem State.setWindow_map (s : State) (x : ServiceWindow) : (s.setWindow x).map = s.map := rfl
@[simp] theorem State.setWindow_limiters (s : State) (x : ServiceWindow) : (s.setWindow x).limiters = s.limiters := rfl
@[simp] theorem State.setWindow_pacing (s : State) (x : ServiceWindow) : (s.setWindow x).pacing = s.pacing := rfl
@[simp] theorem State.setWindow_transit (s : State) (x : ServiceWindow) : (s.setWindow x).transit = s.transit := rfl
@[simp] theorem State.setWindow_staging (s : State) (x : ServiceWindow) : (s.setWindow x).staging = s.staging := rfl
@[simp] theorem State.setWindow_robots (s : State) (x : ServiceWindow) : (s.setWindow x).robots = s.robots := rfl
@[simp] theorem State.setWindow_tracker (s : State) (x : ServiceWindow) : (s.setWindow x).tracker = s.tracker := rfl
@[simp] theorem State.setWindow_window (s : State) (x : ServiceWindow) : (s.setWindow x).window = x := rfl
@[simp] theorem State.setWindow_slots (s : State) (x : ServiceWindow) : (s.setWindow x).slots = s.slots := rfl
@[simp] theorem State.setWindow_keepalive (s : State) (x : ServiceWindow) : (s.setWindow x).keepalive = s.keepalive := rfl
@[simp] theorem State.setWindow_writer (s : State) (x : ServiceWindow) : (s.setWindow x).writer = s.writer := rfl
@[simp] theorem State.setWindow_loader (s : State) (x : ServiceWindow) : (s.setWindow x).loader = s.loader := rfl
@[simp] theorem State.setWindow_mail (s : State) (x : ServiceWindow) : (s.setWindow x).mail = s.mail := rfl
@[simp] theorem State.setSlots_pending (s : State) (x : PerSlot CommandSlot) : (s.setSlots x).pending = s.pending := rfl
@[simp] theorem State.setSlots_ties (s : State) (x : PerSlot CommandSlot) : (s.setSlots x).ties = s.ties := rfl
@[simp] theorem State.setSlots_clock (s : State) (x : PerSlot CommandSlot) : (s.setSlots x).clock = s.clock := rfl
@[simp] theorem State.setSlots_switch (s : State) (x : PerSlot CommandSlot) : (s.setSlots x).switch = s.switch := rfl
@[simp] theorem State.setSlots_map (s : State) (x : PerSlot CommandSlot) : (s.setSlots x).map = s.map := rfl
@[simp] theorem State.setSlots_limiters (s : State) (x : PerSlot CommandSlot) : (s.setSlots x).limiters = s.limiters := rfl
@[simp] theorem State.setSlots_pacing (s : State) (x : PerSlot CommandSlot) : (s.setSlots x).pacing = s.pacing := rfl
@[simp] theorem State.setSlots_transit (s : State) (x : PerSlot CommandSlot) : (s.setSlots x).transit = s.transit := rfl
@[simp] theorem State.setSlots_staging (s : State) (x : PerSlot CommandSlot) : (s.setSlots x).staging = s.staging := rfl
@[simp] theorem State.setSlots_robots (s : State) (x : PerSlot CommandSlot) : (s.setSlots x).robots = s.robots := rfl
@[simp] theorem State.setSlots_tracker (s : State) (x : PerSlot CommandSlot) : (s.setSlots x).tracker = s.tracker := rfl
@[simp] theorem State.setSlots_window (s : State) (x : PerSlot CommandSlot) : (s.setSlots x).window = s.window := rfl
@[simp] theorem State.setSlots_slots (s : State) (x : PerSlot CommandSlot) : (s.setSlots x).slots = x := rfl
@[simp] theorem State.setSlots_keepalive (s : State) (x : PerSlot CommandSlot) : (s.setSlots x).keepalive = s.keepalive := rfl
@[simp] theorem State.setSlots_writer (s : State) (x : PerSlot CommandSlot) : (s.setSlots x).writer = s.writer := rfl
@[simp] theorem State.setSlots_loader (s : State) (x : PerSlot CommandSlot) : (s.setSlots x).loader = s.loader := rfl
@[simp] theorem State.setSlots_mail (s : State) (x : PerSlot CommandSlot) : (s.setSlots x).mail = s.mail := rfl
@[simp] theorem State.setKeepalive_pending (s : State) (x : Keepalive) : (s.setKeepalive x).pending = s.pending := rfl
@[simp] theorem State.setKeepalive_ties (s : State) (x : Keepalive) : (s.setKeepalive x).ties = s.ties := rfl
@[simp] theorem State.setKeepalive_clock (s : State) (x : Keepalive) : (s.setKeepalive x).clock = s.clock := rfl
@[simp] theorem State.setKeepalive_switch (s : State) (x : Keepalive) : (s.setKeepalive x).switch = s.switch := rfl
@[simp] theorem State.setKeepalive_map (s : State) (x : Keepalive) : (s.setKeepalive x).map = s.map := rfl
@[simp] theorem State.setKeepalive_limiters (s : State) (x : Keepalive) : (s.setKeepalive x).limiters = s.limiters := rfl
@[simp] theorem State.setKeepalive_pacing (s : State) (x : Keepalive) : (s.setKeepalive x).pacing = s.pacing := rfl
@[simp] theorem State.setKeepalive_transit (s : State) (x : Keepalive) : (s.setKeepalive x).transit = s.transit := rfl
@[simp] theorem State.setKeepalive_staging (s : State) (x : Keepalive) : (s.setKeepalive x).staging = s.staging := rfl
@[simp] theorem State.setKeepalive_robots (s : State) (x : Keepalive) : (s.setKeepalive x).robots = s.robots := rfl
@[simp] theorem State.setKeepalive_tracker (s : State) (x : Keepalive) : (s.setKeepalive x).tracker = s.tracker := rfl
@[simp] theorem State.setKeepalive_window (s : State) (x : Keepalive) : (s.setKeepalive x).window = s.window := rfl
@[simp] theorem State.setKeepalive_slots (s : State) (x : Keepalive) : (s.setKeepalive x).slots = s.slots := rfl
@[simp] theorem State.setKeepalive_keepalive (s : State) (x : Keepalive) : (s.setKeepalive x).keepalive = x := rfl
@[simp] theorem State.setKeepalive_writer (s : State) (x : Keepalive) : (s.setKeepalive x).writer = s.writer := rfl
@[simp] theorem State.setKeepalive_loader (s : State) (x : Keepalive) : (s.setKeepalive x).loader = s.loader := rfl
@[simp] theorem State.setKeepalive_mail (s : State) (x : Keepalive) : (s.setKeepalive x).mail = s.mail := rfl
@[simp] theorem State.setWriter_pending (s : State) (x : Writer) : (s.setWriter x).pending = s.pending := rfl
@[simp] theorem State.setWriter_ties (s : State) (x : Writer) : (s.setWriter x).ties = s.ties := rfl
@[simp] theorem State.setWriter_clock (s : State) (x : Writer) : (s.setWriter x).clock = s.clock := rfl
@[simp] theorem State.setWriter_switch (s : State) (x : Writer) : (s.setWriter x).switch = s.switch := rfl
@[simp] theorem State.setWriter_map (s : State) (x : Writer) : (s.setWriter x).map = s.map := rfl
@[simp] theorem State.setWriter_limiters (s : State) (x : Writer) : (s.setWriter x).limiters = s.limiters := rfl
@[simp] theorem State.setWriter_pacing (s : State) (x : Writer) : (s.setWriter x).pacing = s.pacing := rfl
@[simp] theorem State.setWriter_transit (s : State) (x : Writer) : (s.setWriter x).transit = s.transit := rfl
@[simp] theorem State.setWriter_staging (s : State) (x : Writer) : (s.setWriter x).staging = s.staging := rfl
@[simp] theorem State.setWriter_robots (s : State) (x : Writer) : (s.setWriter x).robots = s.robots := rfl
@[simp] theorem State.setWriter_tracker (s : State) (x : Writer) : (s.setWriter x).tracker = s.tracker := rfl
@[simp] theorem State.setWriter_window (s : State) (x : Writer) : (s.setWriter x).window = s.window := rfl
@[simp] theorem State.setWriter_slots (s : State) (x : Writer) : (s.setWriter x).slots = s.slots := rfl
@[simp] theorem State.setWriter_keepalive (s : State) (x : Writer) : (s.setWriter x).keepalive = s.keepalive := rfl
@[simp] theorem State.setWriter_writer (s : State) (x : Writer) : (s.setWriter x).writer = x := rfl
@[simp] theorem State.setWriter_loader (s : State) (x : Writer) : (s.setWriter x).loader = s.loader := rfl
@[simp] theorem State.setWriter_mail (s : State) (x : Writer) : (s.setWriter x).mail = s.mail := rfl
@[simp] theorem State.setLoader_pending (s : State) (x : Loader) : (s.setLoader x).pending = s.pending := rfl
@[simp] theorem State.setLoader_ties (s : State) (x : Loader) : (s.setLoader x).ties = s.ties := rfl
@[simp] theorem State.setLoader_clock (s : State) (x : Loader) : (s.setLoader x).clock = s.clock := rfl
@[simp] theorem State.setLoader_switch (s : State) (x : Loader) : (s.setLoader x).switch = s.switch := rfl
@[simp] theorem State.setLoader_map (s : State) (x : Loader) : (s.setLoader x).map = s.map := rfl
@[simp] theorem State.setLoader_limiters (s : State) (x : Loader) : (s.setLoader x).limiters = s.limiters := rfl
@[simp] theorem State.setLoader_pacing (s : State) (x : Loader) : (s.setLoader x).pacing = s.pacing := rfl
@[simp] theorem State.setLoader_transit (s : State) (x : Loader) : (s.setLoader x).transit = s.transit := rfl
@[simp] theorem State.setLoader_staging (s : State) (x : Loader) : (s.setLoader x).staging = s.staging := rfl
@[simp] theorem State.setLoader_robots (s : State) (x : Loader) : (s.setLoader x).robots = s.robots := rfl
@[simp] theorem State.setLoader_tracker (s : State) (x : Loader) : (s.setLoader x).tracker = s.tracker := rfl
@[simp] theorem State.setLoader_window (s : State) (x : Loader) : (s.setLoader x).window = s.window := rfl
@[simp] theorem State.setLoader_slots (s : State) (x : Loader) : (s.setLoader x).slots = s.slots := rfl
@[simp] theorem State.setLoader_keepalive (s : State) (x : Loader) : (s.setLoader x).keepalive = s.keepalive := rfl
@[simp] theorem State.setLoader_writer (s : State) (x : Loader) : (s.setLoader x).writer = s.writer := rfl
@[simp] theorem State.setLoader_loader (s : State) (x : Loader) : (s.setLoader x).loader = x := rfl
@[simp] theorem State.setLoader_mail (s : State) (x : Loader) : (s.setLoader x).mail = s.mail := rfl
@[simp] theorem State.setMail_pending (s : State) (x : Mail) : (s.setMail x).pending = s.pending := rfl
@[simp] theorem State.setMail_ties (s : State) (x : Mail) : (s.setMail x).ties = s.ties := rfl
@[simp] theorem State.setMail_clock (s : State) (x : Mail) : (s.setMail x).clock = s.clock := rfl
@[simp] theorem State.setMail_switch (s : State) (x : Mail) : (s.setMail x).switch = s.switch := rfl
@[simp] theorem State.setMail_map (s : State) (x : Mail) : (s.setMail x).map = s.map := rfl
@[simp] theorem State.setMail_limiters (s : State) (x : Mail) : (s.setMail x).limiters = s.limiters := rfl
@[simp] theorem State.setMail_pacing (s : State) (x : Mail) : (s.setMail x).pacing = s.pacing := rfl
@[simp] theorem State.setMail_transit (s : State) (x : Mail) : (s.setMail x).transit = s.transit := rfl
@[simp] theorem State.setMail_staging (s : State) (x : Mail) : (s.setMail x).staging = s.staging := rfl
@[simp] theorem State.setMail_robots (s : State) (x : Mail) : (s.setMail x).robots = s.robots := rfl
@[simp] theorem State.setMail_tracker (s : State) (x : Mail) : (s.setMail x).tracker = s.tracker := rfl
@[simp] theorem State.setMail_window (s : State) (x : Mail) : (s.setMail x).window = s.window := rfl
@[simp] theorem State.setMail_slots (s : State) (x : Mail) : (s.setMail x).slots = s.slots := rfl
@[simp] theorem State.setMail_keepalive (s : State) (x : Mail) : (s.setMail x).keepalive = s.keepalive := rfl
@[simp] theorem State.setMail_writer (s : State) (x : Mail) : (s.setMail x).writer = s.writer := rfl
@[simp] theorem State.setMail_loader (s : State) (x : Mail) : (s.setMail x).loader = s.loader := rfl
@[simp] theorem State.setMail_mail (s : State) (x : Mail) : (s.setMail x).mail = x := rfl

end Sys2Proof.Machine
end

