-- ==== Sys2Proof/Laws/Tables.lean ====
section
/-!
SUPPORT. Reading a small table after a write: the written index gives the value written, every other
index what it held.
-/
namespace Sys2Proof.Machine

@[simp] theorem PerMaster.get_set_self {α : Type} (t : PerMaster α) (i : Master) (x : α) : (t.set i x).get i = x := by
  cases i <;> rfl

theorem PerMaster.get_set_of_ne {α : Type} (t : PerMaster α) (i j : Master) (x : α) (h : j ≠ i) :
    (t.set i x).get j = t.get j := by
  cases i <;> cases j <;> first | rfl | exact absurd rfl h

@[simp] theorem PerMaster.set_get {α : Type} (t : PerMaster α) (i : Master) : t.set i (t.get i) = t := by
  cases i <;> rfl

@[simp] theorem PerMaster.get_map {α β : Type} (f : α → β) (t : PerMaster α) (i : Master) :
    (t.map f).get i = f (t.get i) := by
  cases i <;> rfl

@[simp] theorem PerMaster.get_all {α : Type} (x : α) (i : Master) : (PerMaster.all x).get i = x := by
  cases i <;> rfl

@[simp] theorem PerRobot.get_set_self {α : Type} (t : PerRobot α) (i : Robot) (x : α) : (t.set i x).get i = x := by
  cases i <;> rfl

theorem PerRobot.get_set_of_ne {α : Type} (t : PerRobot α) (i j : Robot) (x : α) (h : j ≠ i) :
    (t.set i x).get j = t.get j := by
  cases i <;> cases j <;> first | rfl | exact absurd rfl h

@[simp] theorem PerRobot.set_get {α : Type} (t : PerRobot α) (i : Robot) : t.set i (t.get i) = t := by
  cases i <;> rfl

@[simp] theorem PerRobot.get_map {α β : Type} (f : α → β) (t : PerRobot α) (i : Robot) :
    (t.map f).get i = f (t.get i) := by
  cases i <;> rfl

@[simp] theorem PerRobot.get_all {α : Type} (x : α) (i : Robot) : (PerRobot.all x).get i = x := by
  cases i <;> rfl

@[simp] theorem PerPort.get_set_self {α : Type} (t : PerPort α) (i : SwPort) (x : α) : (t.set i x).get i = x := by
  cases i <;> rfl

theorem PerPort.get_set_of_ne {α : Type} (t : PerPort α) (i j : SwPort) (x : α) (h : j ≠ i) :
    (t.set i x).get j = t.get j := by
  cases i <;> cases j <;> first | rfl | exact absurd rfl h

@[simp] theorem PerPort.set_get {α : Type} (t : PerPort α) (i : SwPort) : t.set i (t.get i) = t := by
  cases i <;> rfl

@[simp] theorem PerPort.get_map {α β : Type} (f : α → β) (t : PerPort α) (i : SwPort) :
    (t.map f).get i = f (t.get i) := by
  cases i <;> rfl

@[simp] theorem PerPort.get_all {α : Type} (x : α) (i : SwPort) : (PerPort.all x).get i = x := by
  cases i <;> rfl

@[simp] theorem PerCam.get_set_self {α : Type} (t : PerCam α) (i : Cam) (x : α) : (t.set i x).get i = x := by
  cases i <;> rfl

theorem PerCam.get_set_of_ne {α : Type} (t : PerCam α) (i j : Cam) (x : α) (h : j ≠ i) :
    (t.set i x).get j = t.get j := by
  cases i <;> cases j <;> first | rfl | exact absurd rfl h

@[simp] theorem PerCam.set_get {α : Type} (t : PerCam α) (i : Cam) : t.set i (t.get i) = t := by
  cases i <;> rfl

@[simp] theorem PerCam.get_map {α β : Type} (f : α → β) (t : PerCam α) (i : Cam) :
    (t.map f).get i = f (t.get i) := by
  cases i <;> rfl

@[simp] theorem PerCam.get_all {α : Type} (x : α) (i : Cam) : (PerCam.all x).get i = x := by
  cases i <;> rfl

@[simp] theorem PerSlot.get_set_self {α : Type} (t : PerSlot α) (i : Slot) (x : α) : (t.set i x).get i = x := by
  cases i <;> rfl

theorem PerSlot.get_set_of_ne {α : Type} (t : PerSlot α) (i j : Slot) (x : α) (h : j ≠ i) :
    (t.set i x).get j = t.get j := by
  cases i <;> cases j <;> first | rfl | exact absurd rfl h

@[simp] theorem PerSlot.set_get {α : Type} (t : PerSlot α) (i : Slot) : t.set i (t.get i) = t := by
  cases i <;> rfl

@[simp] theorem PerSlot.get_map {α β : Type} (f : α → β) (t : PerSlot α) (i : Slot) :
    (t.map f).get i = f (t.get i) := by
  cases i <;> rfl

@[simp] theorem PerSlot.get_all {α : Type} (x : α) (i : Slot) : (PerSlot.all x).get i = x := by
  cases i <;> rfl

end Sys2Proof.Machine
end

