-- ==== Sys2Proof/Laws/Writer.lean ====
section
/-!
SUPPORT. What the Report Writer, the result path, the denial count and the arbiter can do: each changes
only the fields named here, and raising a report does not depend on the traffic.
-/
namespace Sys2Proof.Machine

theorem loseRecord_frame (s : State) : loseRecord s = { s with writer := (loseRecord s).writer } := rfl

theorem beginLosing_frame (s : State) :
    beginLosing s = { s with writer := (beginLosing s).writer } := rfl

theorem placeRecord_frame (r : Report) (s : State) :
    placeRecord r s =
      { s with staging := (placeRecord r s).staging, writer := (placeRecord r s).writer } := rfl

/-- Taking a report in NORMAL changes the staging queue and the writer only. -/
theorem takeNormal_frame (r : Report) (s : State) :
    takeNormal r s =
      { s with staging := (takeNormal r s).staging, writer := (takeNormal r s).writer } := by
  simp only [takeNormal]; split_ifs <;> rfl

/-- Raising a report changes the staging queue and the writer only. -/
theorem raise_frame (r : Report) (s : State) :
    raise r s = { s with staging := (raise r s).staging, writer := (raise r s).writer } := by
  unfold raise
  split_ifs
  · rw [takeNormal_frame]; rfl
  · rfl
  · exact takeNormal_frame r s

/-- Raising several reports changes the staging queue and the writer only. -/
theorem raiseAll_frame (rs : List Report) (s : State) :
    raiseAll rs s = { s with staging := (raiseAll rs s).staging, writer := (raiseAll rs s).writer } := by
  induction rs generalizing s with
  | nil => rfl
  | cons r rs ih =>
    show raiseAll rs (raise r s) = { s with staging := (raiseAll rs (raise r s)).staging,
                                            writer := (raiseAll rs (raise r s)).writer }
    rw [ih (raise r s)]
    dsimp only
    generalize (raiseAll rs (raise r s)).staging = a
    generalize (raiseAll rs (raise r s)).writer = b
    rw [raise_frame r s]

theorem takeNormal_congr (r : Report) (s t : State) (hc : t.clock = s.clock) (hm : t.map = s.map)
    (hs : t.staging = s.staging) (hw : t.writer = s.writer) :
    (takeNormal r t).staging = (takeNormal r s).staging ∧
    (takeNormal r t).writer = (takeNormal r s).writer := by
  simp only [takeNormal, hs, hm, hw]
  split_ifs <;>
    simp [beginLosing, placeRecord, recordEntry, State.setWriter, State.setStaging, hc, hm, hs, hw]

/-- What raising a report places depends on the clock, the map, the staging queue and the writer. -/
theorem raise_congr (r : Report) (s t : State) (hc : t.clock = s.clock) (hm : t.map = s.map)
    (hs : t.staging = s.staging) (hw : t.writer = s.writer) :
    (raise r t).staging = (raise r s).staging ∧ (raise r t).writer = (raise r s).writer := by
  have hr : (resumeWriter t).staging = (resumeWriter s).staging ∧
      (resumeWriter t).writer = (resumeWriter s).writer := by
    simp [resumeWriter, placeRecord, recordEntry, State.setWriter, State.setStaging, hc, hm, hs, hw]
  simp only [raise, hs, hm, hw]
  split_ifs
  · exact takeNormal_congr r _ _ hc hm hr.1 hr.2
  · simp [loseRecord, State.setWriter, hs, hw]
  · exact takeNormal_congr r s t hc hm hs hw

/-- What raising reports places depends on the clock, the map, the staging queue and the writer. -/
theorem raiseAll_congr (rs : List Report) (s t : State) (hc : t.clock = s.clock) (hm : t.map = s.map)
    (hs : t.staging = s.staging) (hw : t.writer = s.writer) :
    (raiseAll rs t).staging = (raiseAll rs s).staging ∧
    (raiseAll rs t).writer = (raiseAll rs s).writer := by
  induction rs generalizing s t with
  | nil => exact ⟨hs, hw⟩
  | cons r rs ih =>
    have h := raise_congr r s t hc hm hs hw
    refine ih (raise r s) (raise r t) ?_ ?_ h.1 h.2
    · rw [raise_frame r s, raise_frame r t]; exact hc
    · rw [raise_frame r s, raise_frame r t]; exact hm

/-- Counting a denial changes the limiters, the staging queue and the writer only. -/
theorem countDenial_frame (m : Master) (p : Particulars) (s : State) :
    countDenial m p s =
      { s with limiters := (countDenial m p s).limiters, staging := (countDenial m p s).staging,
               writer := (countDenial m p s).writer } := by
  simp only [countDenial]
  split
  · rw [raise_frame]; rfl
  · rfl

/-- A result changes the staging queue and the slots only. -/
theorem giveResult_frame (n : Slot) (c : ResultCode) (d : Option (List Word)) (s : State) :
    giveResult n c d s =
      { s with staging := (giveResult n c d s).staging, slots := (giveResult n c d s).slots } := by
  simp only [giveResult, offerResult]; split_ifs <;> rfl

theorem beginIssue_frame (n : Slot) (w : Word) (s : State) :
    beginIssue n w s = { s with slots := (beginIssue n w s).slots } := rfl

theorem setAwaiting_frame (n : Slot) (b : Bool) (s : State) :
    setAwaiting n b s = { s with slots := (setAwaiting n b s).slots } := rfl

/-- A waiting result that joins changes the staging queue and the slots only. -/
theorem joinWaiting_frame (s : State) :
    joinWaiting s = { s with staging := (joinWaiting s).staging, slots := (joinWaiting s).slots } := by
  unfold joinWaiting
  repeat' split
  all_goals rfl

/-- The arbiter changes the Transit Path only. -/
theorem arbitrate_frame (s : State) : arbitrate s = { s with transit := (arbitrate s).transit } := rfl

/-- The arbiter changes ports, memory port and pointer only. -/
theorem transit_arbitrate_frame (t : Transit) (n : Nat) :
    t.arbitrate n =
      { t with ports := (t.arbitrate n).ports, memPort := (t.arbitrate n).memPort,
               pointer := (t.arbitrate n).pointer } := by
  unfold Transit.arbitrate Transit.grantInternal Transit.grantMaster
  repeat' split
  all_goals rfl

/-- The arbiter does nothing while the memory port is busy. -/
theorem arbitrate_busy (t : Transit) (n : Nat) (h : t.memPort ≠ .free) : t.arbitrate n = t := by
  unfold Transit.arbitrate
  split
  · rfl
  · rfl
  · contradiction

end Sys2Proof.Machine
end

