-- ==== Sys2Proof/Laws/Fields.lean ====
section
/-!
SUPPORT. The fields that raising reports and giving a result leave as they were, one simp lemma each, drawn
from the frames.
-/
namespace Sys2Proof.Machine

@[simp] theorem raise_pending (r : Report) (s : State) :
    (raise r s).pending = s.pending := by rw [raise_frame]
@[simp] theorem raise_ties (r : Report) (s : State) :
    (raise r s).ties = s.ties := by rw [raise_frame]
@[simp] theorem raise_clock (r : Report) (s : State) :
    (raise r s).clock = s.clock := by rw [raise_frame]
@[simp] theorem raise_switch (r : Report) (s : State) :
    (raise r s).switch = s.switch := by rw [raise_frame]
@[simp] theorem raise_map (r : Report) (s : State) :
    (raise r s).map = s.map := by rw [raise_frame]
@[simp] theorem raise_limiters (r : Report) (s : State) :
    (raise r s).limiters = s.limiters := by rw [raise_frame]
@[simp] theorem raise_pacing (r : Report) (s : State) :
    (raise r s).pacing = s.pacing := by rw [raise_frame]
@[simp] theorem raise_transit (r : Report) (s : State) :
    (raise r s).transit = s.transit := by rw [raise_frame]
@[simp] theorem raise_robots (r : Report) (s : State) :
    (raise r s).robots = s.robots := by rw [raise_frame]
@[simp] theorem raise_tracker (r : Report) (s : State) :
    (raise r s).tracker = s.tracker := by rw [raise_frame]
@[simp] theorem raise_window (r : Report) (s : State) :
    (raise r s).window = s.window := by rw [raise_frame]
@[simp] theorem raise_slots (r : Report) (s : State) :
    (raise r s).slots = s.slots := by rw [raise_frame]
@[simp] theorem raise_keepalive (r : Report) (s : State) :
    (raise r s).keepalive = s.keepalive := by rw [raise_frame]
@[simp] theorem raise_loader (r : Report) (s : State) :
    (raise r s).loader = s.loader := by rw [raise_frame]
@[simp] theorem raise_mail (r : Report) (s : State) :
    (raise r s).mail = s.mail := by rw [raise_frame]

@[simp] theorem raiseAll_pending (rs : List Report) (s : State) :
    (raiseAll rs s).pending = s.pending := by rw [raiseAll_frame]
@[simp] theorem raiseAll_ties (rs : List Report) (s : State) :
    (raiseAll rs s).ties = s.ties := by rw [raiseAll_frame]
@[simp] theorem raiseAll_clock (rs : List Report) (s : State) :
    (raiseAll rs s).clock = s.clock := by rw [raiseAll_frame]
@[simp] theorem raiseAll_switch (rs : List Report) (s : State) :
    (raiseAll rs s).switch = s.switch := by rw [raiseAll_frame]
@[simp] theorem raiseAll_map (rs : List Report) (s : State) :
    (raiseAll rs s).map = s.map := by rw [raiseAll_frame]
@[simp] theorem raiseAll_limiters (rs : List Report) (s : State) :
    (raiseAll rs s).limiters = s.limiters := by rw [raiseAll_frame]
@[simp] theorem raiseAll_pacing (rs : List Report) (s : State) :
    (raiseAll rs s).pacing = s.pacing := by rw [raiseAll_frame]
@[simp] theorem raiseAll_transit (rs : List Report) (s : State) :
    (raiseAll rs s).transit = s.transit := by rw [raiseAll_frame]
@[simp] theorem raiseAll_robots (rs : List Report) (s : State) :
    (raiseAll rs s).robots = s.robots := by rw [raiseAll_frame]
@[simp] theorem raiseAll_tracker (rs : List Report) (s : State) :
    (raiseAll rs s).tracker = s.tracker := by rw [raiseAll_frame]
@[simp] theorem raiseAll_window (rs : List Report) (s : State) :
    (raiseAll rs s).window = s.window := by rw [raiseAll_frame]
@[simp] theorem raiseAll_slots (rs : List Report) (s : State) :
    (raiseAll rs s).slots = s.slots := by rw [raiseAll_frame]
@[simp] theorem raiseAll_keepalive (rs : List Report) (s : State) :
    (raiseAll rs s).keepalive = s.keepalive := by rw [raiseAll_frame]
@[simp] theorem raiseAll_loader (rs : List Report) (s : State) :
    (raiseAll rs s).loader = s.loader := by rw [raiseAll_frame]
@[simp] theorem raiseAll_mail (rs : List Report) (s : State) :
    (raiseAll rs s).mail = s.mail := by rw [raiseAll_frame]

@[simp] theorem countDenial_pending (m : Master) (p : Particulars) (s : State) :
    (countDenial m p s).pending = s.pending := by rw [countDenial_frame]
@[simp] theorem countDenial_ties (m : Master) (p : Particulars) (s : State) :
    (countDenial m p s).ties = s.ties := by rw [countDenial_frame]
@[simp] theorem countDenial_clock (m : Master) (p : Particulars) (s : State) :
    (countDenial m p s).clock = s.clock := by rw [countDenial_frame]
@[simp] theorem countDenial_switch (m : Master) (p : Particulars) (s : State) :
    (countDenial m p s).switch = s.switch := by rw [countDenial_frame]
@[simp] theorem countDenial_map (m : Master) (p : Particulars) (s : State) :
    (countDenial m p s).map = s.map := by rw [countDenial_frame]
@[simp] theorem countDenial_pacing (m : Master) (p : Particulars) (s : State) :
    (countDenial m p s).pacing = s.pacing := by rw [countDenial_frame]
@[simp] theorem countDenial_transit (m : Master) (p : Particulars) (s : State) :
    (countDenial m p s).transit = s.transit := by rw [countDenial_frame]
@[simp] theorem countDenial_robots (m : Master) (p : Particulars) (s : State) :
    (countDenial m p s).robots = s.robots := by rw [countDenial_frame]
@[simp] theorem countDenial_tracker (m : Master) (p : Particulars) (s : State) :
    (countDenial m p s).tracker = s.tracker := by rw [countDenial_frame]
@[simp] theorem countDenial_window (m : Master) (p : Particulars) (s : State) :
    (countDenial m p s).window = s.window := by rw [countDenial_frame]
@[simp] theorem countDenial_slots (m : Master) (p : Particulars) (s : State) :
    (countDenial m p s).slots = s.slots := by rw [countDenial_frame]
@[simp] theorem countDenial_keepalive (m : Master) (p : Particulars) (s : State) :
    (countDenial m p s).keepalive = s.keepalive := by rw [countDenial_frame]
@[simp] theorem countDenial_loader (m : Master) (p : Particulars) (s : State) :
    (countDenial m p s).loader = s.loader := by rw [countDenial_frame]
@[simp] theorem countDenial_mail (m : Master) (p : Particulars) (s : State) :
    (countDenial m p s).mail = s.mail := by rw [countDenial_frame]

@[simp] theorem giveResult_pending (n : Slot) (c : ResultCode) (d : Option (List Word)) (s : State) :
    (giveResult n c d s).pending = s.pending := by rw [giveResult_frame]
@[simp] theorem giveResult_ties (n : Slot) (c : ResultCode) (d : Option (List Word)) (s : State) :
    (giveResult n c d s).ties = s.ties := by rw [giveResult_frame]
@[simp] theorem giveResult_clock (n : Slot) (c : ResultCode) (d : Option (List Word)) (s : State) :
    (giveResult n c d s).clock = s.clock := by rw [giveResult_frame]
@[simp] theorem giveResult_switch (n : Slot) (c : ResultCode) (d : Option (List Word)) (s : State) :
    (giveResult n c d s).switch = s.switch := by rw [giveResult_frame]
@[simp] theorem giveResult_map (n : Slot) (c : ResultCode) (d : Option (List Word)) (s : State) :
    (giveResult n c d s).map = s.map := by rw [giveResult_frame]
@[simp] theorem giveResult_limiters (n : Slot) (c : ResultCode) (d : Option (List Word)) (s : State) :
    (giveResult n c d s).limiters = s.limiters := by rw [giveResult_frame]
@[simp] theorem giveResult_pacing (n : Slot) (c : ResultCode) (d : Option (List Word)) (s : State) :
    (giveResult n c d s).pacing = s.pacing := by rw [giveResult_frame]
@[simp] theorem giveResult_transit (n : Slot) (c : ResultCode) (d : Option (List Word)) (s : State) :
    (giveResult n c d s).transit = s.transit := by rw [giveResult_frame]
@[simp] theorem giveResult_robots (n : Slot) (c : ResultCode) (d : Option (List Word)) (s : State) :
    (giveResult n c d s).robots = s.robots := by rw [giveResult_frame]
@[simp] theorem giveResult_tracker (n : Slot) (c : ResultCode) (d : Option (List Word)) (s : State) :
    (giveResult n c d s).tracker = s.tracker := by rw [giveResult_frame]
@[simp] theorem giveResult_window (n : Slot) (c : ResultCode) (d : Option (List Word)) (s : State) :
    (giveResult n c d s).window = s.window := by rw [giveResult_frame]
@[simp] theorem giveResult_keepalive (n : Slot) (c : ResultCode) (d : Option (List Word)) (s : State) :
    (giveResult n c d s).keepalive = s.keepalive := by rw [giveResult_frame]
@[simp] theorem giveResult_writer (n : Slot) (c : ResultCode) (d : Option (List Word)) (s : State) :
    (giveResult n c d s).writer = s.writer := by rw [giveResult_frame]
@[simp] theorem giveResult_loader (n : Slot) (c : ResultCode) (d : Option (List Word)) (s : State) :
    (giveResult n c d s).loader = s.loader := by rw [giveResult_frame]
@[simp] theorem giveResult_mail (n : Slot) (c : ResultCode) (d : Option (List Word)) (s : State) :
    (giveResult n c d s).mail = s.mail := by rw [giveResult_frame]

end Sys2Proof.Machine
end

