-- ==== Sys2Proof/Laws/Frames.lean ====
section
/-!
SUPPORT. What the shared operations of the blocks can change: most lemmas name the fields that an
operation may write, and say that it leaves every other as it was.
-/
namespace Sys2Proof.Machine

/-! ### The Robot Guard -/

/-- The Robot Guard's operations write the Robot Table, the ring and the Service Window's answers. -/
def RobotsOnly (s t : State) : Prop :=
  t = { s with robots := t.robots, staging := t.staging, writer := t.writer, mail := t.mail }

theorem RobotsOnly.refl (s : State) : RobotsOnly s s := rfl

theorem RobotsOnly.trans {s t u : State} (h : RobotsOnly s t) (g : RobotsOnly t u) : RobotsOnly s u := by
  unfold RobotsOnly at *; rw [g, h]

theorem setRobot_only (r : Robot) (e : RobotEntry) (s : State) : RobotsOnly s (setRobot r e s) := rfl

theorem raise_robotsOnly (x : Report) (s : State) : RobotsOnly s (raise x s) := by
  unfold RobotsOnly; rw [raise_frame]

theorem raiseAll_robotsOnly (xs : List Report) (s : State) : RobotsOnly s (raiseAll xs s) := by
  unfold RobotsOnly; rw [raiseAll_frame]

/-- What an event does to one robot: its entry, the reports of its notes, its answers. -/
theorem applyChange_only (r : Robot) (c : RobotChange) (s : State) : RobotsOnly s (applyChange r c s) :=
  ((setRobot_only r c.entry s).trans (raiseAll_robotsOnly _ _)).trans rfl

theorem changeRobot_only (r : Robot) (f : RobotChange → RobotChange) (s : State) :
    RobotsOnly s (changeRobot r f s) := applyChange_only _ _ s

/-- A change of state with all its steps (R82). -/
theorem enter_only (r : Robot) (new : RobotState) (hold : Option HoldCause)
    (fault : Option FaultCause) (cause : RobotCause) (s : State) :
    RobotsOnly s (enter r new hold fault cause s) := changeRobot_only _ _ s

/-- The Robot Guard after a change of one robot: that robot's entry. -/
theorem changeRobot_robots (r : Robot) (f : RobotChange → RobotChange) (s : State) :
    (changeRobot r f s).robots =
      { s.robots with table := s.robots.table.set r (f (s.robot r).begin).entry } := by
  unfold changeRobot applyChange sendAnswers
  simp only [State.setMail_robots, raiseAll_robots]
  rfl

/-- The notices after a change of one robot: its answers join. -/
theorem changeRobot_mail (r : Robot) (f : RobotChange → RobotChange) (s : State) :
    (changeRobot r f s).mail =
      { s.mail with answers := s.mail.answers ++ (f (s.robot r).begin).answers } := by
  unfold changeRobot applyChange sendAnswers
  simp only [State.setMail_mail, raiseAll_mail]
  rfl

/-- The records after a change of one robot: its notes are raised with the entry as the event leaves
it. -/
theorem changeRobot_reported (r : Robot) (f : RobotChange → RobotChange) (s : State) :
    Reported ((f (s.robot r).begin).notes.map (RobotNote.report r (f (s.robot r).begin).entry)) s
      (changeRobot r f s) := by
  unfold changeRobot applyChange sendAnswers
  exact raiseAll_congr _ _ _ rfl rfl rfl rfl

theorem statusWrite_only (m : Master) (o : Nat) (l : BurstLen) (ws : List WriteWord) (s : State) :
    RobotsOnly s (statusWrite m o l ws s) := by
  unfold statusWrite; split
  · exact .refl s
  · dsimp only
    split_ifs
    · exact changeRobot_only _ _ s
    · exact .refl s

/-- A passed order (R108). -/
theorem passOrder_only (r : Robot) (mode : OrderMode) (ws : List WriteWord) (s : State) :
    RobotsOnly s (passOrder r mode ws s) := by
  unfold passOrder; dsimp only; split <;> exact changeRobot_only _ _ s

/-- An entry after `takeTransfer`: SERVICE's, nothing pending, no hold cause, fresh, Fp 0 (R102). -/
theorem takeTransfer_entry (r : Robot) (now : Micros) (c : RobotChange) :
    (c.takeTransfer r now).entry.owner = .service ∧
    (c.takeTransfer r now).entry.transferPending = false ∧
    (c.takeTransfer r now).entry.hold = none ∧ (c.takeTransfer r now).entry.fresh = true ∧
    (c.takeTransfer r now).entry.fp = 0 := by
  unfold RobotChange.takeTransfer
  dsimp only
  split_ifs <;> simp [RobotChange.move, RobotChange.note, RobotChange.put, RobotEntry.entered,
    RobotState.working]

/-! ### The Inspection Tracker -/

/-- The Tracker's operations write the Tracker, the ring and the credits. -/
def TrackerOnly (s t : State) : Prop :=
  t = { s with tracker := t.tracker, staging := t.staging, writer := t.writer, mail := t.mail }

theorem TrackerOnly.refl (s : State) : TrackerOnly s s := rfl

theorem TrackerOnly.trans {s t u : State} (h : TrackerOnly s t) (g : TrackerOnly t u) :
    TrackerOnly s u := by
  unfold TrackerOnly at *; rw [g, h]

theorem setTracker_only (x : Tracker) (s : State) : TrackerOnly s (s.setTracker x) := rfl

theorem raise_trackerOnly (x : Report) (s : State) : TrackerOnly s (raise x s) := by
  unfold TrackerOnly; rw [raise_frame]

/-- The decision of a head (R138). -/
theorem decideHead_only (k : TrackParams) (b : Bottle) (rest : List Bottle) (s : State) :
    TrackerOnly s (decideHead k b rest s) := by
  have hc : ∀ c u, TrackerOnly u (sendCredit c u) := by
    intro c u
    unfold sendCredit
    split <;> rfl
  have hg : ∀ v reason u, TrackerOnly u (countAndGate k b v reason u) := by
    intro v reason u
    unfold countAndGate
    dsimp only
    split
    · exact setTracker_only _ u
    · exact (setTracker_only _ u).trans (raise_trackerOnly _ _)
  exact ((hg _ _ s).trans (hc _ _)).trans (setTracker_only _ _)

theorem decideHeads_only (k : TrackParams) (q : List Bottle) (s : State) :
    TrackerOnly s (decideHeads k q s) := by
  induction q generalizing s with
  | nil => exact .refl s
  | cons b rest ih =>
    unfold decideHeads
    split_ifs
    · exact (decideHead_only _ _ _ s).trans (ih _)
    · exact .refl s

/-- A pulse on the encoder (R115, R124). -/
theorem encoderEvent_only (d : Travel) (s : State) : TrackerOnly s (encoderEvent d s) := by
  have ha : ∀ k u, TrackerOnly u (conveyorAdvance k u) := fun k u =>
    ((setTracker_only _ u).trans (decideHeads_only k _ _)).trans (setTracker_only _ _)
  unfold encoderEvent
  dsimp only
  split
  · exact setTracker_only _ s
  · split_ifs
    · split
      · exact (setTracker_only _ s).trans (ha _ _)
      · exact setTracker_only _ s
    · exact setTracker_only _ s

/-- A trigger edge (R121). -/
theorem triggerEvent_only (c : Cam) (s : State) : TrackerOnly s (triggerEvent c s) := by
  have hm : ∀ k c u, TrackerOnly u (matchShot k c u) := by
    intro k c u
    unfold matchShot
    dsimp only
    split_ifs
    · exact setTracker_only _ u
    · exact (setTracker_only _ u).trans (raise_trackerOnly _ _)
  have ht : ∀ k, TrackerOnly s (takeShot k c s) := by
    intro k
    unfold takeShot
    dsimp only
    split <;> (try split_ifs) <;> first
      | exact setTracker_only _ s
      | exact (setTracker_only _ s).trans (hm _ _ _)
  unfold triggerEvent
  dsimp only
  split_ifs
  · exact .refl s
  · split
    · exact setTracker_only _ s
    · split
      · exact ht _
      · exact .refl s

/-- A verdict write (R132). -/
theorem verdictWrite_only (m : Master) (a : Addr) (o : Nat) (l : BurstLen) (ws : List WriteWord)
    (s : State) : TrackerOnly s (verdictWrite m a o l ws s) := by
  have ht : ∀ v, TrackerOnly s (takeVerdict v s) := by
    intro v
    unfold takeVerdict
    split
    · exact raise_trackerOnly _ s
    · split <;> first
        | exact setTracker_only _ s
        | exact raise_trackerOnly _ s
  unfold verdictWrite
  split_ifs
  · split
    · exact ht _
    · exact raise_trackerOnly _ s
  · exact .refl s

/-! ### The Service Window -/

/-- The window's changes of state write the window, the ring and the messages to the Robot Guard. -/
def WindowOnly (s t : State) : Prop :=
  t = { s with window := t.window, staging := t.staging, writer := t.writer, mail := t.mail }

theorem WindowOnly.refl (s : State) : WindowOnly s s := rfl

theorem WindowOnly.trans {s t u : State} (h : WindowOnly s t) (g : WindowOnly t u) : WindowOnly s u := by
  unfold WindowOnly at *; rw [g, h]

theorem changeWindow_only (c : WindowCause) (w : ServiceWindow) (s : State) :
    WindowOnly s (changeWindow c w s) := by
  unfold WindowOnly changeWindow setWin; rw [raise_frame]; rfl

theorem drain_only (c : WindowCause) (s : State) : WindowOnly s (drain c s) :=
  (changeWindow_only _ _ s).trans rfl

theorem settleTest_only (s : State) : WindowOnly s (settleTest s) := by
  unfold settleTest; split_ifs
  · unfold WindowOnly settle setWin; dsimp only; rw [raise_frame]; rfl
  · exact .refl s

/-! ### The Switch Watch -/

/-- The Switch Watch's operations write its table, the ring and the notices. -/
def SwitchOnly (s t : State) : Prop :=
  t = { s with switch := t.switch, staging := t.staging, writer := t.writer, mail := t.mail }

theorem SwitchOnly.refl (s : State) : SwitchOnly s s := rfl

theorem SwitchOnly.trans {s t u : State} (h : SwitchOnly s t) (g : SwitchOnly t u) : SwitchOnly s u := by
  unfold SwitchOnly at *; rw [g, h]

theorem raise_switchOnly (x : Report) (s : State) : SwitchOnly s (raise x s) := by
  unfold SwitchOnly; rw [raise_frame]

/-! ### The Transit Path -/

/-- A denial (R5): the completion, the owner's report, the count. -/
theorem deny_frame (m : Master) (r : Request) (c : DenialCause) (g : Option RegionRef)
    (rep : Option Report) (s : State) :
    deny m r c g rep s =
      { s with transit := (deliver m { status := .denied, data := zeroData r.dir r.len } s).transit
               limiters := (deny m r c g rep s).limiters
               staging := (deny m r c g rep s).staging, writer := (deny m r c g rep s).writer } := by
  apply State.ext <;> cases rep <;> simp [deny] <;> rfl

/-- The admission event before the owner's effects. -/
theorem enterWaiting_frame (m : Master) (t : Txn) (cost : Nat) (s : State) :
    enterWaiting m t cost s =
      { s with pacing := s.pacing.set m ((s.pacing.get m).charge cost)
               transit := { s.transit with ports := s.transit.ports.set m (.waiting t) }
               window := (enterWaiting m t cost s).window } := by
  apply State.ext <;> cases m <;> rfl

/-- Where no EMPTY port has a request on its lane, serving the lanes does nothing (R1). -/
theorem serveLanes_of_taken (s : State)
    (h : ∀ m, s.transit.ports.get m = .empty → s.transit.lanes.get m = []) : serveLanes s = s := by
  have hm : ∀ m, serveLane m s = s := by
    intro m
    unfold serveLane
    split
    · next he =>
      have hl : s.transit.lanes.set m [] = s.transit.lanes := by
        rw [← h m he]; exact PerMaster.set_get _ m
      rw [h m he]
      simp [setLane, State.setTransit, hl]
    all_goals rfl
  simp [serveLanes, masters, hm]

/-- A request presented where the port is not EMPTY stays on the lane (R1). -/
theorem presentRequest_waits (m : Master) (r : Request) (s : State)
    (h : s.transit.ports.get m ≠ .empty) :
    presentRequest m r s = setLane m (s.transit.lanes.get m ++ [r]) s := by
  unfold presentRequest
  split <;> first | rfl | contradiction

/-! ### Commands -/

/-- An opcode in a FREE slot: the command executes and its result is given (R159). -/
theorem issueCommand_takes (n : Slot) (w : Word) (run : State → Reply) (s : State) (h : s.takes n) :
    issueCommand n w run s =
      giveResult n (run (beginIssue n w s)).code (run (beginIssue n w s)).data
        (run (beginIssue n w s)).state := by
  obtain ⟨h1, h2⟩ := h
  simp [issueCommand, State.isLoading, h1, h2]

/-- An opcode while LOADING does nothing (R158). -/
theorem issueCommand_loading (n : Slot) (w : Word) (run : State → Reply) (s : State)
    (h : s.loader.condition = .loading) : issueCommand n w run s = s := by
  simp [issueCommand, State.isLoading, h]

/-- An opcode in an AWAITING slot is an overrun (R159). -/
theorem issueCommand_overrun (n : Slot) (w : Word) (run : State → Reply) (s : State)
    (h : s.loader.condition ≠ .loading) (ha : (s.slots.get n).awaiting = true) :
    issueCommand n w run s = raise (.commandOverrun n w (s.slots.get n).issued) s := by
  simp [issueCommand, State.isLoading, h, ha]

/-- What a result does depends on the staging queue, the slots and the map. -/
theorem giveResult_congr (n : Slot) (c : ResultCode) (d : Option (List Word)) (s t : State)
    (h1 : t.staging = s.staging) (h2 : t.slots = s.slots) (h3 : t.map = s.map) :
    (giveResult n c d t).staging = (giveResult n c d s).staging ∧
    (giveResult n c d t).slots = (giveResult n c d s).slots := by
  by_cases h : s.staging.length < stagingMax <;>
    simp [giveResult, offerResult, setAwaiting, resultEntry, State.setSlots, State.setStaging, h1, h2,
      h3, h]

end Sys2Proof.Machine
end

