-- ==== Sys2Proof/Laws/Admission.lean ====
section
/-!
SUPPORT. How a rightful write is admitted: the state in which its owner's effect is applied, the event
as that effect on that state, and the words of a stamped write.
-/
namespace Sys2Proof.Machine

/-- The state in which the effect of a rightful write is applied: its master charged, its port WAITING with
the words `ws`, service in flight for SERVICE (R4). -/
def admitted (m : Master) (q : Request) (k : RegionKind) (ws : List WriteWord) (s : State) : State :=
  { s with
    pacing := s.charged m q
    window := { s.window with inFlight := s.window.inFlight || decide (m = .service) }
    transit := { s.transit with ports := s.transit.ports.set m (.waiting (s.txn q k ws)) } }

theorem arbitrate_admitted (m : Master) (q : Request) (k : RegionKind) (ws : List WriteWord)
    (s : State) : Admitted m q k ws s (arbitrate (admitted m q k ws s)) := rfl

theorem Rightful.presents {m : Master} {q : Request} {k : RegionKind} {s : State}
    (h : Rightful m q k s) : presentRequest m q s = arrive m q s := by
  simp [presentRequest, h.port, h.lanes m h.port]

/-- The charge of an admitted request in the terms the statements use. -/
theorem Pace.charge_eq (p : Pace) (cost : Nat) :
    p.charge cost =
      { p with account := p.account.map fun a => { a with credit := a.credit - (cost : Nat) } } := by
  cases p with
  | mk inForce buffered account delivered => cases account <;> rfl

theorem Rightful.enterWaiting {m : Master} {q : Request} {k : RegionKind} {s : State}
    (h : Rightful m q k s) (ws : List WriteWord) :
    enterWaiting m (txnOf q (s.map.place q.addr.toNat) ws)
      (requestCost q.len (s.map.place q.addr.toNat).weight) s = admitted m q k ws s := by
  have hk := h.kind
  subst hk
  apply State.ext <;> cases m <;>
    simp [Machine.enterWaiting, noteAdmission, setMasterPort, setPace, Pace.charge_eq, admitted,
      State.charged, requestCost, State.txn, txnOf, setWin]

/-- Step 5 of R4 holds nothing exactly where no account is in debt (R38). -/
theorem holds_eq_false_iff (p : Pace) :
    p.holds = false ↔ ∀ a, p.account = some a → 0 ≤ a.credit := by
  cases h : p.account <;> simp [Pace.holds, h]

/-- A rightful write that its owner accepts: the effect on the admitted state. -/
theorem Rightful.accepted {m : Master} {q : Request} {k : RegionKind} {s : State}
    (h : Rightful m q k s) {ws : List WriteWord} {eff : State → State}
    (hh : handleWrite issueFull m q (s.map.place q.addr.toNat) s = .accept ws eff) :
    presentRequest m q s = eff (admitted m q k ws s) := by
  have h1 : requestAligned q = true := by simp [requestAligned, h.aligned]
  have h2 : requestCrosses q s.map = false := by simp [requestCrosses, h.inside]
  have h4 : handle issueFull m q (s.map.place q.addr.toNat) s = .accept ws eff := by
    simp only [handle, h.write]; exact hh
  have h5 : (s.pacing.get m).holds = false := (holds_eq_false_iff _).2 h.credit
  rw [h.presents]
  simp only [arrive, h1, h2, examine, h.write, h.right, h4, paceAndAdmit, h5]
  simp [h.enterWaiting]

/-- REQUEST_ARRIVAL of a rightful write whose owner accepts it with an effect that leaves the traffic:
the effect on the admitted state, then the arbiter looks. -/
theorem Rightful.exec {m : Master} {q : Request} {k : RegionKind} {s : State}
    (h : Rightful m q k s) {ws : List WriteWord} {eff : State → State}
    (hh : handleWrite issueFull m q (s.map.place q.addr.toNat) s = .accept ws eff)
    (ht : (eff (admitted m q k ws s)).transit = (admitted m q k ws s).transit) :
    exec (.requestArrival m q) s = .next (arbitrate (eff (admitted m q k ws s))) := by
  have e : Machine.exec (.requestArrival m q) s = execRequestArrival m q s := rfl
  rw [e, execRequestArrival, if_pos h.shape, finishLanes, finish, h.accepted hh, serveLanes_of_taken]
  intro m' hm'
  rw [ht] at hm' ⊢
  simp only [admitted] at hm' ⊢
  by_cases hc : m' = m
  · subst hc; exact h.lanes _ h.port
  · rw [PerMaster.get_set_of_ne _ _ _ _ hc] at hm'
    exact h.lanes _ hm'

/-! ### Stamped words (R26) -/

theorem stampWords_length (st : Stamp) (o : Nat) (ws : List WriteWord) :
    (stampWords st o ws).length = ws.length := by
  induction ws generalizing o <;> simp_all [stampWords]

theorem stampWords_getElem? (st : Stamp) (o i : Nat) (ws : List WriteWord) (w : WriteWord)
    (h : ws[i]? = some w) : (stampWords st o ws)[i]? = some (stampWord st (o + i) w) := by
  induction ws generalizing o i with
  | nil => simp at h
  | cons a t ih =>
    cases i with
    | zero => simp at h; simp [stampWords, h]
    | succ j =>
      simp at h
      simp only [stampWords, List.getElem?_cons_succ]
      rw [ih (o + 1) j h]
      congr 2; omega

theorem stampWords_stamped (st : Stamp) (o : Nat) (ws : List WriteWord) :
    Stamped st o ws (stampWords st o ws) :=
  ⟨stampWords_length .., fun i w h => by rw [stampWords_getElem? _ _ _ _ _ h]; rfl⟩

end Sys2Proof.Machine
end

