-- ==== Sys2Proof/Laws/PerInstr.lean ====
section
/-!
SUPPORT. One lemma for each command: an opcode word issues it exactly where it is a command of the control
page written to its own slot with its own opcode and the bits it carries (R159).
-/
namespace Sys2Proof.Laws.Spelled

/-- The slot and the opcode word that issue a command; a command that no opcode word issues has none. -/
def issuedBy : Instr → Option (Slot × Word)
  | .requestArrival _ _ => none
  | .memoryCompletion _ _ _ => none
  | .internalWriteCompletion _ _ => none
  | .serviceRefusal => none
  | .refillExpiry _ => none
  | .paceSet n rest => some (n, opcodeWord 0x31 rest)
  | .limiterWindowEnd _ => none
  | .hallPulse => none
  | .correctionAdjustment => none
  | .correctionPeriod => none
  | .pulseWatchExpiry => none
  | .holdoverLimit => none
  | .clockSourceNotice => none
  | .timeSet n rest => some (n, opcodeWord 0x20 rest)
  | .timeSetLapsed => none
  | .timeQuery n rest => some (n, opcodeWord 0x21 rest)
  | .switchTimeout => none
  | .switchQuery n rest => some (n, opcodeWord 0x50 rest)
  | .heartbeatTimeout _ => none
  | .pickupTimeout _ => none
  | .fillTimeout _ => none
  | .robotLinkNotice => none
  | .fillerCredit => none
  | .keepaliveNotice => none
  | .transferRequest => none
  | .robotReturn => none
  | .robotArm n rest => some (n, opcodeWord 0x01 rest)
  | .robotClear n rest => some (n, opcodeWord 0x02 rest)
  | .robotHold n rest => some (n, opcodeWord 0x03 rest)
  | .robotRelease n rest => some (n, opcodeWord 0x04 rest)
  | .robotQuery n rest => some (n, opcodeWord 0x06 rest)
  | .quarantineSet n rest => some (n, opcodeWord 0x07 rest)
  | .robotEnvelope n rest => some (n, opcodeWord 0x05 rest)
  | .encoderPulse _ => none
  | .cameraTrigger _ => none
  | .cameraOffline => none
  | .cameraOnline => none
  | .trackStart n rest => some (n, opcodeWord 0x10 rest)
  | .trackStop n rest => some (n, opcodeWord 0x11 rest)
  | .trackQuery n rest => some (n, opcodeWord 0x12 rest)
  | .serviceKey _ => none
  | .serviceGrant n rest => some (n, opcodeWord 0x40 rest)
  | .serviceExtend n rest => some (n, opcodeWord 0x41 rest)
  | .serviceRevoke n rest => some (n, opcodeWord 0x42 rest)
  | .windowTimerExpiry => none
  | .serviceLinkLoss => none
  | .transferAnswer => none
  | .keepaliveSet n rest => some (n, opcodeWord 0x30 rest)
  | .keepaliveWrite _ => none
  | .keepaliveLapsed => none
  | .takeIndexWrite _ => none
  | .unknownOpcode n w => some (n, w)
  | .reload n rest => some (n, opcodeWord 0x60 rest)
  | .loadEnd _ _ => none
  | .powerOn _ => none
  | .cabinetReset => none

/-- A well-formed command is what its opcode word issues, and no other word issues it. -/
def Statement (i : Instr) : Prop :=
  i.wf = true → ∀ (n : Slot) (w : Word), commandOf n w = some i ↔ issuedBy i = some (n, w)

/-- The bits of an opcode word: the opcode in bits 0 to 7, the rest above. -/
theorem bit_of_word (code : BitVec 8) (rest : BitVec 24) (j : Nat) :
    (opcodeWord code rest).getLsbD j = if j < 8 then code.getLsbD j else rest.getLsbD (j - 8) := by
  have h : (rest ++ code).getLsbD j = if j < 8 then code.getLsbD j else rest.getLsbD (j - 8) := by
    simpa using @BitVec.getLsbD_append 24 8 j rest code
  exact h

theorem rest_of_word (code : BitVec 8) (rest : BitVec 24) :
    (opcodeWord code rest).extractLsb' 8 24 = rest := by
  apply BitVec.eq_of_getLsbD_eq
  intro i hi
  rw [BitVec.getLsbD_extractLsb', bit_of_word]
  simp [hi]

theorem field_of_word (code : BitVec 8) (rest : BitVec 24) : opcodeField (opcodeWord code rest) = code := by
  apply BitVec.eq_of_getLsbD_eq
  intro i hi
  rw [opcodeField, BitVec.getLsbD_setWidth, bit_of_word]
  simp [hi]

theorem word_of_parts (w : Word) : opcodeWord (opcodeField w) (w.extractLsb' 8 24) = w := by
  apply BitVec.eq_of_getLsbD_eq
  intro i hi
  rw [bit_of_word, opcodeField, BitVec.getLsbD_setWidth, BitVec.getLsbD_extractLsb']
  split_ifs with h
  · simp [h]
  · simp [show i - 8 < 24 by omega, show 8 + (i - 8) = i by omega]

theorem word_of_code (w : Word) (code : BitVec 8) (h : opcodeField w = code) :
    opcodeWord code (w.extractLsb' 8 24) = w := h ▸ word_of_parts w

/-- What a choice that came out as `x` says. -/
theorem of_ite {α : Type} {c : Prop} [Decidable c] {a b x : α} (h : (if c then a else b) = x) :
    (c ∧ a = x) ∨ (¬ c ∧ b = x) := by
  by_cases hc : c
  · exact .inl ⟨hc, by rwa [if_pos hc] at h⟩
  · exact .inr ⟨hc, by rwa [if_neg hc] at h⟩

/-- An opcode word issues only the command that it spells, in the slot it is written to. -/
theorem issuedBy_of_commandOf (n : Slot) (w : Word) (i : Instr) (h : commandOf n w = some i) :
    issuedBy i = some (n, w) := by
  rcases of_ite h with ⟨_, h⟩ | ⟨_, h⟩
  · cases h
  iterate 19
    rcases of_ite h with ⟨hf, h⟩ | ⟨_, h⟩
    · cases h
      exact congrArg (fun x => some (n, x)) (word_of_code w _ hf)
  cases h
  rfl

/-- A command is spelled as stated where its own word issues it. -/
theorem of_issuedBy (i : Instr)
    (h : i.wf = true → ∀ n w, issuedBy i = some (n, w) → commandOf n w = some i) : Statement i :=
  fun hw n w => ⟨issuedBy_of_commandOf n w i, h hw n w⟩

/-- A command that no opcode word issues. -/
theorem of_none (i : Instr) (h : issuedBy i = none) : Statement i :=
  of_issuedBy i fun _ n w hs => by rw [h] at hs; cases hs

theorem requestArrival (m : Master) (r : Request) : Statement (.requestArrival m r) :=
  of_none _ rfl

theorem memoryCompletion (origin : AnswerOrigin) (ok : Bool) (data : List Word) : Statement (.memoryCompletion origin ok data) :=
  of_none _ rfl

theorem internalWriteCompletion (origin : AnswerOrigin) (ok : Bool) : Statement (.internalWriteCompletion origin ok) :=
  of_none _ rfl

theorem serviceRefusal : Statement (.serviceRefusal) :=
  of_none _ rfl

theorem refillExpiry (m : Master) : Statement (.refillExpiry m) :=
  of_none _ rfl

theorem paceSet (slot : Slot) (rest : BitVec 24) : Statement (.paceSet slot rest) :=
  of_issuedBy _ fun _ n w h => by
    cases h; simp [commandOf, field_of_word, rest_of_word]

theorem limiterWindowEnd (m : Master) : Statement (.limiterWindowEnd m) :=
  of_none _ rfl

theorem hallPulse : Statement (.hallPulse) :=
  of_none _ rfl

theorem correctionAdjustment : Statement (.correctionAdjustment) :=
  of_none _ rfl

theorem correctionPeriod : Statement (.correctionPeriod) :=
  of_none _ rfl

theorem pulseWatchExpiry : Statement (.pulseWatchExpiry) :=
  of_none _ rfl

theorem holdoverLimit : Statement (.holdoverLimit) :=
  of_none _ rfl

theorem clockSourceNotice : Statement (.clockSourceNotice) :=
  of_none _ rfl

theorem timeSet (slot : Slot) (rest : BitVec 24) : Statement (.timeSet slot rest) :=
  of_issuedBy _ fun _ n w h => by
    cases h; simp [commandOf, field_of_word, rest_of_word]

theorem timeSetLapsed : Statement (.timeSetLapsed) :=
  of_none _ rfl

theorem timeQuery (slot : Slot) (rest : BitVec 24) : Statement (.timeQuery slot rest) :=
  of_issuedBy _ fun _ n w h => by
    cases h; simp [commandOf, field_of_word, rest_of_word]

theorem switchTimeout : Statement (.switchTimeout) :=
  of_none _ rfl

theorem switchQuery (slot : Slot) (rest : BitVec 24) : Statement (.switchQuery slot rest) :=
  of_issuedBy _ fun _ n w h => by
    cases h; simp [commandOf, field_of_word, rest_of_word]

theorem heartbeatTimeout (r : Robot) : Statement (.heartbeatTimeout r) :=
  of_none _ rfl

theorem pickupTimeout (r : Robot) : Statement (.pickupTimeout r) :=
  of_none _ rfl

theorem fillTimeout (r : Robot) : Statement (.fillTimeout r) :=
  of_none _ rfl

theorem robotLinkNotice : Statement (.robotLinkNotice) :=
  of_none _ rfl

theorem fillerCredit : Statement (.fillerCredit) :=
  of_none _ rfl

theorem keepaliveNotice : Statement (.keepaliveNotice) :=
  of_none _ rfl

theorem transferRequest : Statement (.transferRequest) :=
  of_none _ rfl

theorem robotReturn : Statement (.robotReturn) :=
  of_none _ rfl

theorem robotArm (slot : Slot) (rest : BitVec 24) : Statement (.robotArm slot rest) :=
  of_issuedBy _ fun _ n w h => by
    cases h; simp [commandOf, field_of_word, rest_of_word]

theorem robotClear (slot : Slot) (rest : BitVec 24) : Statement (.robotClear slot rest) :=
  of_issuedBy _ fun _ n w h => by
    cases h; simp [commandOf, field_of_word, rest_of_word]

theorem robotHold (slot : Slot) (rest : BitVec 24) : Statement (.robotHold slot rest) :=
  of_issuedBy _ fun _ n w h => by
    cases h; simp [commandOf, field_of_word, rest_of_word]

theorem robotRelease (slot : Slot) (rest : BitVec 24) : Statement (.robotRelease slot rest) :=
  of_issuedBy _ fun _ n w h => by
    cases h; simp [commandOf, field_of_word, rest_of_word]

theorem robotQuery (slot : Slot) (rest : BitVec 24) : Statement (.robotQuery slot rest) :=
  of_issuedBy _ fun _ n w h => by
    cases h; simp [commandOf, field_of_word, rest_of_word]

theorem quarantineSet (slot : Slot) (rest : BitVec 24) : Statement (.quarantineSet slot rest) :=
  of_issuedBy _ fun _ n w h => by
    cases h; simp [commandOf, field_of_word, rest_of_word]

theorem robotEnvelope (slot : Slot) (rest : BitVec 24) : Statement (.robotEnvelope slot rest) :=
  of_issuedBy _ fun _ n w h => by
    cases h; simp [commandOf, field_of_word, rest_of_word]

theorem encoderPulse (d : Travel) : Statement (.encoderPulse d) :=
  of_none _ rfl

theorem cameraTrigger (k : Cam) : Statement (.cameraTrigger k) :=
  of_none _ rfl

theorem cameraOffline : Statement (.cameraOffline) :=
  of_none _ rfl

theorem cameraOnline : Statement (.cameraOnline) :=
  of_none _ rfl

theorem trackStart (slot : Slot) (rest : BitVec 24) : Statement (.trackStart slot rest) :=
  of_issuedBy _ fun _ n w h => by
    cases h; simp [commandOf, field_of_word, rest_of_word]

theorem trackStop (slot : Slot) (rest : BitVec 24) : Statement (.trackStop slot rest) :=
  of_issuedBy _ fun _ n w h => by
    cases h; simp [commandOf, field_of_word, rest_of_word]

theorem trackQuery (slot : Slot) (rest : BitVec 24) : Statement (.trackQuery slot rest) :=
  of_issuedBy _ fun _ n w h => by
    cases h; simp [commandOf, field_of_word, rest_of_word]

theorem serviceKey (level : Bool) : Statement (.serviceKey level) :=
  of_none _ rfl

theorem serviceGrant (slot : Slot) (rest : BitVec 24) : Statement (.serviceGrant slot rest) :=
  of_issuedBy _ fun _ n w h => by
    cases h; simp [commandOf, field_of_word, rest_of_word]

theorem serviceExtend (slot : Slot) (rest : BitVec 24) : Statement (.serviceExtend slot rest) :=
  of_issuedBy _ fun _ n w h => by
    cases h; simp [commandOf, field_of_word, rest_of_word]

theorem serviceRevoke (slot : Slot) (rest : BitVec 24) : Statement (.serviceRevoke slot rest) :=
  of_issuedBy _ fun _ n w h => by
    cases h; simp [commandOf, field_of_word, rest_of_word]

theorem windowTimerExpiry : Statement (.windowTimerExpiry) :=
  of_none _ rfl

theorem serviceLinkLoss : Statement (.serviceLinkLoss) :=
  of_none _ rfl

theorem transferAnswer : Statement (.transferAnswer) :=
  of_none _ rfl

theorem keepaliveSet (slot : Slot) (rest : BitVec 24) : Statement (.keepaliveSet slot rest) :=
  of_issuedBy _ fun _ n w h => by
    cases h; simp [commandOf, field_of_word, rest_of_word]

theorem keepaliveWrite (value : Word) : Statement (.keepaliveWrite value) :=
  of_none _ rfl

theorem keepaliveLapsed : Statement (.keepaliveLapsed) :=
  of_none _ rfl

theorem takeIndexWrite (value : Word) : Statement (.takeIndexWrite value) :=
  of_none _ rfl

theorem unknownOpcode (slot : Slot) (word : Word) : Statement (.unknownOpcode slot word) :=
  of_issuedBy _ fun hw n w h => by
    cases h
    simp only [Instr.wf, unknownWf, commandCodes, Bool.and_eq_true, Bool.not_eq_true',
      bne_iff_ne] at hw
    obtain ⟨h0, hc⟩ := hw
    simp only [List.contains_eq_mem, decide_eq_false_iff_not, List.mem_cons, not_or] at hc
    simp only [commandOf, h0, hc, if_false]

theorem reload (slot : Slot) (rest : BitVec 24) : Statement (.reload slot rest) :=
  of_issuedBy _ fun _ n w h => by
    cases h; simp [commandOf, field_of_word, rest_of_word]

theorem loadEnd (selfCheckPass : Bool) (store : Option (List (BitVec 16))) : Statement (.loadEnd selfCheckPass store) :=
  of_none _ rfl

theorem powerOn (key : Bool) : Statement (.powerOn key) :=
  of_none _ rfl

theorem cabinetReset : Statement (.cabinetReset) :=
  of_none _ rfl

end Sys2Proof.Laws.Spelled
end

