-- ==== Sys2Proof/Tests/Slice0.lean ====
section
/-!
SUPPORT. The model's own tests: ill-formed operands, opcode words, single steps taken from the worked
sequences of spec/, and for every statement with premises a state and operands that meet them.
-/
namespace Sys2Proof.Tests
open Sys2Proof Sys2Proof.Machine
set_option Elab.async false

/-! ### Building states -/

/-- The state after a command; the same state where the command answers none. -/
def after (c : Instr) (s : State) : State :=
  match exec c s with
  | .next t => t
  | .fault _ => s
  | .refused _ => s

/-- The command is refused for malformed operands. -/
def malformed (c : Instr) (s : State := State.reset) : Bool :=
  match exec c s with
  | .next _ => false
  | .fault _ => false
  | .refused r => decide (r = .malformed)

/-- An enabled region entry. -/
def region (kind base size : Nat) (r w : BitVec 5) (weight : Nat) : RegionEntry :=
  { enabled := true, base := base, size := size, kindCode := BitVec.ofNat 4 kind, readRights := r
    writeRights := w, weight := weight }

/-- RUNNING on the map of spec/02 section 2.5.1. -/
def hall : State :=
  (State.reset.setLoader
      { Loader.reset with condition := .running, load := none, selfCheck := true }).setMap
    { entries :=
        [region 7 0xFFFF00 256 1 1 1, region 8 0xFFF000 3840 1 0 1, region 3 0x010000 256 9 17 1,
         region 4 0x010100 256 17 8 1, region 6 0x010200 256 1 2 1, region 5 0x020000 4096 1 4 1,
         region 2 0x030000 8192 1 9 1, region 1 0x400000 4194304 7 7 2] ++
        List.replicate 8 .anchorDisabled
      openSpace := RegionMap.anchor.openSpace }

/-- The same in SAFE. -/
def safe : State := hall.setLoader { hall.loader with condition := .safe }

/-- M at `m`. -/
def atM (m : Nat) (s : State) : State := s.setClock { s.clock with m := BitVec.ofNat 48 m }

/-- Words with all enables set. -/
def full (ws : List Nat) : List WriteWord := ws.map fun x => ⟨BitVec.ofNat 32 x, 15⟩

/-- A write. -/
def write (a : Nat) (len : BurstLen) (ws : List Nat) : Request :=
  { dir := .write, addr := BitVec.ofNat 24 a, len := len, words := full ws }

/-- A read. -/
def read (a : Nat) (len : BurstLen) : Request :=
  { dir := .read, addr := BitVec.ofNat 24 a, len := len, words := [] }

/-- Slot 0's parameters. -/
def params (ps : List Nat) (s : State) : State :=
  s.setSlots { s.slots with s0 := { s.slots.s0 with params := ps.map (BitVec.ofNat 32) } }

/-- A command awaits its result in slot 0. -/
def busySlot (s : State) : State := setAwaiting .s0 true s

/-- Robot 2 replaced. -/
def withRobot (e : RobotEntry) (s : State) : State := setRobot .r2 e s

/-- Robot 2 in a state, its envelope that of spec/07 section 7.4.1. -/
def robot (st : RobotState) : RobotEntry :=
  { RobotEntry.reset with
    state := st, envelopeWritten := true
    envelope := { vmin := 3300, vmax := 5100, fmax := 250, fstep := 60, hmin := 40, hmax := 160 } }

/-- Robot 2 FILLING as in spec/06 section 6.10. -/
def filling : RobotEntry :=
  { robot .filling with
    order := some ⟨417, .fill, some 5000⟩, fillRecord := some ⟨417, 5000⟩, run := 2
    heartbeatTimer := some 0, fillTimer := some 0, fresh := false }

/-- The Tracker replaced. -/
def withTracker (f : Tracker → Tracker) (s : State) : State := s.setTracker (f s.tracker)

/-- The parameters of spec/08 section 8.11. -/
def track : TrackParams :=
  { pitch := 400, window := 60, d2 := 1200, d3 := 2000, d4 := 2400, rejectOffset := 3600
    gateLength := 300, action := .reject }

/-- Tracking RUNNING at position p with a queue. -/
def runs (p : Nat) (q : List Bottle) (s : State) : State :=
  withTracker (fun t => { t with running := true, params := some track, queue := q
                                 pos := BitVec.ofNat 24 p }) s

/-- A bottle at P0 with its slots. -/
def bottle (n p0 : Nat) (cams : PerCam CamSlot) : Bottle :=
  { number := BitVec.ofNat 16 n, p0 := BitVec.ofNat 24 p0, t0 := ⟨0, 0, false⟩, overrun := 0
    cams := cams }

/-- Bottle 0 of section 8.11 when it opens. -/
def bottle0 : Bottle := bottle 0 16777100 ⟨.shot 1, .awaited, .awaited, .awaited⟩

/-- Bottle 20 of spec/09 section 9.7, at its reject point at P 10,000. -/
def bottle20 : Bottle :=
  bottle 20 6400 ⟨.pass 1 0 5, .reject 1 17 5, .pass 1 0 5, .pass 1 0 5⟩

/-- The clock in a discipline state with M and T. -/
def clockAt (st : ClockState) (m t : Nat) (s : State) : State :=
  s.setClock { s.clock with state := st, m := BitVec.ofNat 48 m, t := BitVec.ofNat 48 t }

/-- A report entry of the staging queue. -/
def entry : StagingEntry :=
  { body := .record .overrun ⟨0, 0, false⟩, addr := 0xFFF000, current := true, firstDone := false
    failed := false, cut := false }

/-- A result entry with data for slot 0. -/
def resultWith : StagingEntry :=
  { entry with body := .result .s0 .done 1 0x06 (some [1]), addr := 0xFFFF00 }

/-- The internal writer's write of the head is in memory. -/
def writing (q : List StagingEntry) (s : State) : State :=
  (s.setStaging q).setTransit { s.transit with memPort := .internal }

/-- A transaction of LINE. -/
def txn (d : Dir) (k : RegionKind) (offset : Nat) (len : BurstLen) : Txn :=
  { dir := d, addr := 0x010200, len := len, words := [], region := .entry 4, kind := k
    offset := offset }

/-- A transaction of `m` at the memory controller. -/
def carrying (m : Master) (x : Txn) (s : State) : State :=
  s.setTransit { s.transit with ports := s.transit.ports.set m (.inMemory x), memPort := .master m }

/-- The Pacing Unit's record of SWITCH in spec/03 section 3.7. -/
def burstPace (credit : Int) : Pace :=
  let p : PaceSetting := { paced := true, a := 4, b := 1, q := 16, k := 64 }
  { inForce := p, buffered := none, account := some { credit := credit, timer := 0 }, delivered := p }

/-- SWITCH paced with a credit. -/
def paced (credit : Int) (s : State) : State := s.setPacing { s.pacing with switch := burstPace credit }

/-- SWITCH's 8-word upload of section 3.7. -/
def burst : Request := write 0x400000 .eight [1, 2, 3, 4, 5, 6, 7, 8]

/-- The Service Window in a state. -/
def window (st : WindowState) (key : Bool) (s : State) : State :=
  s.setWindow { s.window with state := st, key := key }

/-- The clause's premise on held requests. -/
theorem hall_holds_none (m : Master) (q : Request) : hall.transit.ports.get m ≠ .held q := by
  cases m <;> simp [hall, State.reset, Transit.reset, PerMaster.all, PerMaster.get, State.setMap,
    State.setLoader]

/-- No request waits on a lane. -/
theorem free_lanes {s : State} (h : s.transit.lanes = .all []) : s.lanesTaken := by
  intro m _
  rw [h]
  cases m <;> rfl

/-- The premises of `Rightful`, no request waiting on a lane. -/
def rightly (m : Master) (q : Request) (k : RegionKind) (s : State) : Bool :=
  q.wf && decide (q.dir = .write ∧ s.transit.ports.get m = .empty ∧ s.transit.lanes = .all [] ∧
    q.addr.toNat % q.len.words = 0 ∧
    (s.map.place q.addr.toNat).region = (s.map.place (q.addr.toNat + q.len.words - 1)).region ∧
    (s.map.place q.addr.toNat).kind = k ∧
    deniedRight s.window m .write (s.map.place q.addr.toNat) = none ∧
    (s.pacing.get m).holds = false)
theorem rightful {m : Master} {q : Request} {k : RegionKind} {s : State} (h : rightly m q k s = true) :
    Rightful m q k s := by
  simp only [rightly, Bool.and_eq_true, decide_eq_true_eq] at h
  obtain ⟨h1, h2, h3, h4, h5, h6, h7, h8, h9⟩ := h
  exact ⟨h1, h2, h3, free_lanes h4, h5, h6, h7, h8, (holds_eq_false_iff _).1 h9⟩

/-! ### Ill-formed operands (each check refuses one) -/

theorem test_wf_read_with_words :
    Instr.wf (.requestArrival .line { read 0 .one with words := full [1] }) = false := by decide
theorem test_wf_short_write :
    Instr.wf (.requestArrival .line (write 0 .two [1])) = false := by decide
theorem test_wf_answer_of_three_words :
    Instr.wf (.memoryCompletion .current true [1, 2, 3]) = false := by decide
theorem test_wf_unknown_opcode_is_no_command :
    Instr.wf (.unknownOpcode .s0 0x60) = false ∧ Instr.wf (.unknownOpcode .s0 0) = false := by decide
theorem test_wf_store_too_long (ws : List (BitVec 16)) (h : ws.length = 2049) :
    Instr.wf (.loadEnd true (some ws)) = false := by simp [Instr.wf, storeWf, h]
theorem test_malformed_is_refused :
    malformed (.requestArrival .line (write 0 .two [1])) = true ∧
    malformed (.unknownOpcode .s0 0x60) = true := by decide +kernel
theorem test_malformed_answer_is_refused :
    malformed (.memoryCompletion .current true [1, 2])
      (carrying .line (txn .read .plain 0 .one) hall) = true := by decide +kernel

/-! ### Opcode words (spec/11 sections 11.2, 11.9) -/

theorem test_opcode_words :
    commandOf .s1 0x00000130 = some (.keepaliveSet .s1 1) ∧
    commandOf .s0 0x00000206 = some (.robotQuery .s0 2) ∧
    commandOf .s3 0x00000060 = some (.reload .s3 0) ∧
    commandOf .s2 0x00000012 = some (.trackQuery .s2 0) ∧
    commandOf .s2 0x00000042 = some (.serviceRevoke .s2 0) ∧
    commandOf .s0 0xABCDEF00 = none ∧
    commandOf .s0 0x00000099 = some (.unknownOpcode .s0 0x99) := by decide
theorem test_table_has_no_bits : decodeTableWord 32 0x30 = none := rfl

/-! ### Single steps, from the worked sequences of spec/ -/

-- spec/03 section 3.7: bursts 1, 5 and 6.
theorem test_burst_is_charged_sixteen :
    ((after (.requestArrival .switch burst) (paced 64 hall)).pacing.switch.account.map
      Account.credit) = some 48 := by decide +kernel
theorem test_burst_in_debt_is_held :
    (after (.requestArrival .switch burst) (paced (-16) hall)).transit.ports.switch =
      .held burst := by decide +kernel
theorem test_refill_admits_the_held_burst :
    ((after (.refillExpiry .switch)
      (setMasterPort .switch (.held burst) (atM 24 (paced (-16) hall)))).pacing.switch.account) =
      some { credit := -16, timer := 24 } := by decide +kernel
-- spec/03 section 3.7: PACE_SET at time 30.
theorem test_pace_set_is_buffered :
    (after (.paceSet .s0 0) (params [0x101, 4, 32, 2000] (paced (-16) hall))).pacing.switch.buffered =
      some { paced := true, a := 4, b := 0, q := 32, k := 1024 } := by decide +kernel
-- R24: the first row of R22 for REPORTS.
theorem test_write_to_reports_is_denied :
    (after (.requestArrival .line (write 0xFFF000 .one [1])) (hall.setMap { hall.map with
      entries := [region 8 0xFFF000 3840 1 1 1] })).transit.completions.line =
      some { status := .denied, data := [] } := by decide +kernel
theorem test_okay_read_is_delivered :
    (after (.memoryCompletion .current true [7]) (carrying .line (txn .read .plain 0 .one) hall)).transit.completions.line =
      some { status := .okay, data := [7] } := by decide +kernel
theorem test_record_leaves_and_is_written :
    (after (.internalWriteCompletion .current true) (writing [entry] hall)).writer.written = 1 := by
  decide +kernel
theorem test_refusal_denies_the_held_request :
    (after .serviceRefusal ((setMasterPort .service (.held (read 0 .one)) hall).setWindow
      { hall.window with state := .draining, refusal := true })).transit.completions.service =
      some { status := .denied, data := [0] } := by decide +kernel
theorem test_quiet_window_end :
    (after (.limiterWindowEnd .line) (setLimiter .line { total := 1, mode := .muted 5 0 none }
      (atM 5 hall))).limiters.line = { total := 1, mode := .quiet } := by decide +kernel
-- spec/04 section 4.11: pulse P1.
theorem test_pulse_p1 :
    (let k := (after .hallPulse (clockAt .locking 6000010 200000002000010 hall)).clock
     (k.f, k.c, k.lockRun)) = (-1, -6, 1) := by decide +kernel
theorem test_glitch :
    (after .hallPulse ((clockAt .locking 6400010 0 hall).setClock
      { (clockAt .locking 6400010 0 hall).clock with lastAccepted := some ⟨6000010, false⟩ })).clock.glitches =
      1 := by decide +kernel
-- spec/04 section 4.11: at C = -6 the first withheld microsecond is 166,666 after the pulse.
theorem test_withheld_microsecond :
    (let k := (tick (hall.setClock { hall.clock with m := 166665, t := 166665, c := -6 })).clock
     (k.m, k.t)) = (166666, 166665) ∧
    (let k := (tick (hall.setClock { hall.clock with m := 166664, t := 166664, c := -6 })).clock
     (k.m, k.t)) = (166665, 166665) := by decide +kernel
theorem test_adjustment_counts_the_point :
    (let k := (after .correctionAdjustment
        (hall.setClock { hall.clock with m := 166666, t := 166665, c := -6 })).clock
     (k.t, k.adjustments)) = (166665, 1) ∧
    (after .correctionAdjustment
      (hall.setClock { hall.clock with m := 166666, t := 166666, c := 6 })).clock.t = 166667 := by
  decide +kernel
theorem test_correction_period_begins_anew :
    (after .correctionPeriod (clockAt .holdover 1000000 0 hall)).clock.periodStart = 1000000 := by
  decide +kernel
theorem test_pulse_missing_enters_holdover :
    (after .pulseWatchExpiry ((clockAt .locked 1002000 0 hall).setClock
      { (clockAt .locked 1002000 0 hall).clock with pulseWatch := some 0 })).clock.state =
      .holdover := by decide +kernel
theorem test_holdover_limit_drifts :
    (after .holdoverLimit ((clockAt .holdover 600000000 0 hall).setClock
      { (clockAt .holdover 600000000 0 hall).clock with holdoverStart := some ⟨0, false⟩ })).clock.state =
      .drifting := by decide +kernel
theorem test_source_lost_enters_holdover :
    (after .clockSourceNotice ((clockAt .locked 5 0 hall).setMail
      { hall.mail with clock := [.linkLoss .p3] })).clock.state = .holdover := by decide +kernel
-- spec/04 section 4.11: the second TIME_SET.
theorem test_time_set_replaces :
    (after (.timeSet .s0 0) (params [200000001] ((atM 4700000 hall).setClock
      { (atM 4700000 hall).clock with pendingSet := some ⟨200000000, 4600000⟩ }))).clock.pendingSet =
      some ⟨200000001, 4700000⟩ := by decide +kernel
theorem test_set_lapses :
    (after .timeSetLapsed ((atM 2000000 hall).setClock
      { (atM 2000000 hall).clock with pendingSet := some ⟨5, 0⟩ })).clock.pendingSet = none := by
  decide +kernel
theorem test_time_query_in_safe_awaits :
    ((after (.timeQuery .s0 0) (safe.setClock
      { safe.clock with pendingSet := some ⟨5, 0⟩ })).slots.s0.awaiting) = true := by decide +kernel
theorem test_switch_goes_silent :
    (after .switchTimeout ((atM 500000 hall).setSwitch
      { hall.switch with state := .alive, timer := some 0 })).switch.state = .silent := by
  decide +kernel
theorem test_switch_query_names_a_port :
    ((after (.switchQuery .s0 0) (params [9] hall)).staging.map fun e => e.body) =
      [.result .s0 .refusedParam 1 0x50 none] := by decide +kernel
-- spec/05 section 5.2: a port word that says DOWN latches it.
theorem test_port_word_latches_down :
    (let e := (after (.requestArrival .switch (write 0x010203 .one [0x00050000])) hall).switch.table.p3
     (e.linkUp, e.downLatched, e.lastCount, e.total)) = (false, true, 5, 0) := by decide +kernel
-- spec/06 section 6.10: the deviating fill.
theorem test_deviating_fill_quarantines :
    (let e := (after (.requestArrival .robotlink
        (write 0x010108 .eight [0x20001, 417, 4930, 0, 0, 0, 0, 0])) (withRobot filling hall)).robots.table.r2
     (e.state, e.hold, e.run)) = (.held, some .quarantine, 3) := by decide +kernel
theorem test_heartbeat_timeout :
    (after (.heartbeatTimeout .r2) (withRobot filling (atM 100000 hall))).robots.table.r2.state =
      .silent := by decide +kernel
theorem test_pickup_timeout :
    (after (.pickupTimeout .r2) (withRobot { robot .ordered with pickupTimer := some 0 }
      (atM 500000 hall))).robots.table.r2.fault = some .noPickup := by decide +kernel
theorem test_fill_timeout :
    (after (.fillTimeout .r2) (withRobot filling (atM 20000000 hall))).robots.table.r2.fault =
      some .fillOvertime := by decide +kernel
theorem test_link_loss_silences :
    (after .robotLinkNotice ((withRobot (robot .held) hall).setRobots
      { (withRobot (robot .held) hall).robots with settings :=
        { RobotSettings.reset with linkPort := .all (some .p5) } } |>.setMail
      { hall.mail with robotLink := [.loss .p5] })).robots.table.r2.state = .silent := by
  decide +kernel
theorem test_credit_holds_at_the_limit :
    (after .fillerCredit ((withRobot { robot .ready with run := 2 } hall).setMail
      { hall.mail with credits := [.reject .r2] })).robots.table.r2.hold = some .quarantine := by
  decide +kernel
theorem test_lapse_holds_line_robots :
    (after .keepaliveNotice ((withRobot (robot .ready) hall).setMail
      { hall.mail with keepalive := [.lapse] })).robots.table.r2.hold = some .lineSilent := by
  decide +kernel
theorem test_transfer_pends_while_filling :
    (after .transferRequest ((withRobot filling hall).setMail
      { hall.mail with transfers := [.request .r2] })).mail.answers = [.pending .r2] := by
  decide +kernel
theorem test_return_holds :
    (after .robotReturn ((withRobot { robot .ready with owner := .service } hall).setMail
      { hall.mail with transfers := [.giveBack .r2] })).robots.table.r2.hold =
      some .serviceEnded := by decide +kernel
theorem test_robot_arm :
    (after (.robotArm .s0 0) (params [2] hall)).robots.table.r2.state = .starting := by
  decide +kernel
theorem test_robot_clear :
    (after (.robotClear .s0 0) (params [2] (withRobot (robot .faulted) hall))).robots.table.r2.state =
      .starting := by decide +kernel
theorem test_robot_hold :
    (after (.robotHold .s0 0) (params [2] (withRobot (robot .ready) hall))).robots.table.r2.hold =
      some .command := by decide +kernel
-- spec/06 section 6.10: the release at 500.
theorem test_robot_release :
    (after (.robotRelease .s0 0) (params [2] (withRobot
      { robot .held with hold := some .quarantine, run := 3 } hall))).robots.table.r2.run = 0 := by
  decide +kernel
theorem test_robot_query_in_safe :
    (after (.robotQuery .s0 0) (params [2] safe)).slots.s0.awaiting = true := by decide +kernel
theorem test_quarantine_set :
    (after (.quarantineSet .s0 0) (params [15] hall)).robots.limit = 15 := by decide +kernel
theorem test_envelope_crossing_is_refused :
    (after (.robotEnvelope .s0 0) (params [2, 5100, 3300, 250, 60, 40, 160] hall)).robots.table.r2.envelopeWritten =
      false := by decide +kernel
-- spec/07 section 7.4.1: the third order.
theorem test_third_order_is_guarded :
    (let e := (after (.requestArrival .line
        (write 0x010008 .eight [0x10264, 5400, 300, 80, 0, 0, 0, 0]))
        (withRobot { robot .ordered with fp := 120 } hall)).robots.table.r2
     (e.fp, e.order)) = (180, some ⟨612, .fill, some 5100⟩) := by decide +kernel
-- spec/08 section 8.11: the bounce, the window's end.
theorem test_bounce :
    (after (.cameraTrigger .c1) (runs 16777150 [bottle0] hall)).tracker.counters.bounces = 1 := by
  decide +kernel
theorem test_missed_slot :
    ((after (.encoderPulse .forward) (runs 1944 [bottle0] hall)).tracker.queue.map
      fun b => b.cams.c3) = [.missed] := by decide +kernel
-- spec/09 section 9.7: at 10,000.
theorem test_bottle_20_is_rejected :
    (let t := (after (.encoderPulse .forward) (runs 9999 [bottle20] hall)).tracker
     (t.gateActive, t.offPos, t.rejectCredits.r5, t.queue)) = (true, 10300, 1, []) := by
  decide +kernel
theorem test_camera_offline_closes_slots :
    ((after .cameraOffline ((runs 0 [bottle0] (withTracker (fun t => { t with cameras :=
      { t.cameras with c1 := { fitted := true, port := some .p6, online := true } } }) hall)).setMail
      { hall.mail with cameras := [.loss .p6] })).tracker.queue.map fun b => b.cams.c1) =
      [.noVerdict (some 1)] := by decide +kernel
theorem test_camera_online :
    (after .cameraOnline ((withTracker (fun t => { t with cameras :=
      (PerCam.all { fitted := true, port := some .p6, online := false }) }) hall).setMail
      { hall.mail with cameras := [.back .p6] })).tracker.cameras.c4.online = true := by
  decide +kernel
-- spec/08 section 8.11: TRACK_START.
theorem test_track_start :
    (after (.trackStart .s0 0) (params [400, 60, 1200, 2000, 2400, 3600, 300, 1] hall)).tracker.params =
      some track := by decide +kernel
theorem test_track_stop_drops :
    (after (.trackStop .s0 0) (runs 0 [bottle0, bottle20] hall)).tracker.counters.dropped = 2 := by
  decide +kernel
theorem test_track_query_view_zero :
    ((after (.trackQuery .s0 0) (params [0] hall)).staging.map fun e => e.body) =
      [.result .s0 .refusedParam 1 0x12 none] := by decide +kernel
theorem test_key_on : (after (.serviceKey true) hall).window.state = .keyed := by decide +kernel
theorem test_grant_opens :
    (let w := (after (.serviceGrant .s0 0) (params [60, 0x401, 0x202] (window .keyed true hall))).window
     (w.state, w.grants, w.robotSet.r2)) = (.opened, [⟨2, true⟩], some .requested) := by
  decide +kernel
theorem test_extend_is_bounded :
    (after (.serviceExtend .s0 0) (params [65535] ((window .opened true hall).setWindow
      { (window .opened true hall).window with deadline := some 9 }))).window.deadline =
      some 3600000000 := by decide +kernel
theorem test_revoke_drains :
    (after (.serviceRevoke .s0 0) (window .opened true hall)).window.refusal = true := by
  decide +kernel
theorem test_window_timer :
    (after .windowTimerExpiry ((window .opened true hall).setWindow
      { (window .opened true hall).window with deadline := some 0 })).window.state = .draining := by
  decide +kernel
theorem test_service_link_loss :
    (after .serviceLinkLoss ((window .opened true hall).setMail
      { hall.mail with serviceLoss := [.p8] })).window.state = .draining := by decide +kernel
theorem test_transfer_answer :
    (after .transferAnswer ((hall.setWindow { hall.window with
      state := .opened, robotSet := .all (some .requested) }).setMail
      { hall.mail with answers := [.taken .r2] })).window.robotSet.r2 = some .taken := by
  decide +kernel
theorem test_keepalive_set :
    (after (.keepaliveSet .s0 0) (params [10000] hall)).keepalive.timeout = some 10000 := by
  decide +kernel
theorem test_keepalive_write_resumes :
    (after (.keepaliveWrite 1) (hall.setKeepalive
      { hall.keepalive with state := .lapsed, timeout := some 10 })).mail.keepalive = [.resume] := by
  decide +kernel
theorem test_keepalive_lapses :
    (after .keepaliveLapsed (atM 10000 (hall.setKeepalive
      { state := .running, timeout := some 10, last := 0, timer := some 0 }))).keepalive.state =
      .lapsed := by decide +kernel
-- spec/11 section 11.4.1: the first report, and the take index.
theorem test_overrun_marker :
    (let w := (raise (.timeSetLapsed 0) (hall.setWriter
        { put := 98, written := 98, take := 100, lost := 0, losing := false })).writer
     (w.put, w.lost, w.losing)) = (99, 1, true) := by decide +kernel
theorem test_take_index :
    (after (.takeIndexWrite 479) hall).writer.take = 479 ∧
    (after (.takeIndexWrite 480) hall).writer.take = 0 := by decide +kernel
theorem test_unknown_opcode :
    ((after (.unknownOpcode .s0 0x99) hall).staging.map fun e => e.body) =
      [.result .s0 .unknown 1 0x99 none] := by decide +kernel
theorem test_reload_keeps_the_condition :
    (let l := (after (.reload .s0 0) safe).loader
     (l.condition, l.load)) = (.safe, some .reload) := by decide +kernel

/-- A good store of the least length with no group applied. -/
def smallStore : List (BitVec 16) := [0x4636, 1, 64, 0] ++ List.replicate 59 0 ++ [0xB989]

theorem test_load_end_runs :
    (after (.loadEnd true (some smallStore)) State.reset).loader.condition = .running := by
  decide +kernel
theorem test_load_end_without_store :
    (let s := after (.loadEnd true none) State.reset
     (s.loader.condition, s.map.ringCapacity, s.writer.put)) = (.safe, 480, 1) := by
  decide +kernel
theorem test_power_on : (after (.powerOn true) hall).window.state = .keyed := by decide +kernel
theorem test_cabinet_reset :
    (let s := after .cabinetReset (runs 7 [bottle0] (withRobot filling hall))
     (s.robots.table.r2.state, s.tracker.running, s.tracker.pos, s.loader.condition)) =
      (.offline, false, 7, .running) := by decide +kernel
theorem test_idle_step_is_a_microsecond :
    (match step hall with
      | .next t => t.clock.m
      | .fault _ => 0
      | .refused _ => 0) = 1 := by decide +kernel

/-! ### Witnesses: states and operands that meet the premises of the statements -/

/-- The request is taken at the EMPTY port of `m`; no request waits on a lane (`free_lanes`). -/
def fresh (m : Master) (r : Request) (s : State) : Prop :=
  r.wf = true ∧ s.transit.ports.get m = .empty ∧ s.transit.lanes = .all []

/-- The request is aligned and its first and last word lie in one place. -/
def placed (r : Request) (s : State) : Prop :=
  r.addr.toNat % r.len.words = 0 ∧
  (s.map.place r.addr.toNat).region = (s.map.place (r.addr.toNat + r.len.words - 1)).region

theorem witness_IdleStepTicks : hall.pending = [] ∧ dueEvents hall = [] := by decide +kernel

/-- SERVICE in a session with a read-only grant of the PORTS region. -/
def readOnly : State := (window .opened true hall).setWindow
  { (window .opened true hall).window with grants := [⟨4, false⟩] }
/-- The map with LINE in the write rights of REPORTS. -/
def openReports : State := hall.setMap { hall.map with entries := [region 8 0xFFF000 3840 1 1 1] }

theorem witness_RequestDeniedAtStepsOneThreeAndFour_alignment :
    fresh .line (write 1 .two [1, 2]) hall ∧
    ¬ (write 1 .two [1, 2]).addr.toNat % (write 1 .two [1, 2]).len.words = 0 := by
  unfold fresh; decide +kernel
theorem witness_RequestDeniedAtStepsOneThreeAndFour_window :
    fresh .service (read 0 .eight) (window .draining true hall) ∧
    placed (read 0 .eight) (window .draining true hall) ∧
    (window .draining true hall).window.state = .draining := by
  unfold fresh placed; decide +kernel
theorem witness_RequestDeniedAtStepsOneThreeAndFour_rights :
    let r := write 0x0102FF .one [1]
    let p := readOnly.map.place r.addr.toNat
    fresh .service r readOnly ∧ placed r readOnly ∧ ¬ readOnly.window.state = .draining ∧
    inRights (p.rights.forDir r.dir) .service = false ∧
    ∀ g ∈ readOnly.window.grants, p.region = .entry g.region → r.dir = .write ∧ g.rw = false := by
  unfold fresh placed; decide +kernel
theorem witness_RequestDeniedAtStepsOneThreeAndFour_kind :
    let r := write 0xFFFEFF .one [1]
    let p := openReports.map.place r.addr.toNat
    fresh .line r openReports ∧ placed r openReports ∧ r.dir = .write ∧ p.kind = .reports ∧
    deniedRight openReports.window .line .write p = none := by
  unfold fresh placed; decide +kernel

theorem witness_PlainRequestIsAdmitted :
    fresh .switch burst (paced 0 hall) ∧ placed burst (paced 0 hall) ∧
    ((paced 0 hall).map.place burst.addr.toNat).kind = .plain ∧
    deniedRight (paced 0 hall).window .switch burst.dir ((paced 0 hall).map.place burst.addr.toNat) =
      none ∧
    (∀ a, ((paced 0 hall).pacing.get .switch).account = some a → 0 ≤ a.credit) := by
  refine ⟨?_, ?_, ?_, ?_, fun a h => ?_⟩
  · unfold fresh; decide +kernel
  · unfold placed; decide +kernel
  · decide +kernel
  · decide +kernel
  · obtain rfl : ({ credit := 0, timer := 0 } : Account) = a := Option.some.inj h
    decide
/-- The master `m` paced with a credit of 0. -/
def inCredit (m : Master) (s : State) : State := s.setPacing (s.pacing.set m (burstPace 0))
theorem witness_PlainRequestIsAdmitted_other :
    let r := read 0x010200 .eight
    let w := write 0x010030 .one [1]
    fresh .line r (inCredit .line hall) ∧ placed r hall ∧ r.dir = .read ∧
    (hall.map.place r.addr.toNat).kind = .ports ∧
    deniedRight hall.window .line .read (hall.map.place r.addr.toNat) = none ∧
    fresh .line w hall ∧ placed w hall ∧ (hall.map.place w.addr.toNat).kind = .orders ∧
    48 ≤ (hall.map.place w.addr.toNat).offset ∧
    deniedRight hall.window .line .write (hall.map.place w.addr.toNat) = none := by
  unfold fresh placed; decide +kernel
/-- A paced master out of debt is as rightful in every kind of region. -/
theorem witness_Rightful_paced :
    Rightful .line (write 0x030000 .one [1]) .stamped (inCredit .line hall) ∧
    Rightful .switch (write 0x010208 .one [1]) .ports (inCredit .switch hall) ∧
    Rightful .robotlink (write 0x010108 .eight (List.replicate 8 0)) .status (inCredit .robotlink hall) ∧
    Rightful .line (write 0x010008 .eight (List.replicate 8 0)) .orders (inCredit .line hall) ∧
    Rightful .camera (write 0x020000 .eight (List.replicate 8 0)) .verdicts (inCredit .camera hall) ∧
    Rightful .line (write 0xFFFF3F .one [0x99]) .control (inCredit .line hall) :=
  ⟨rightful (by decide +kernel), rightful (by decide +kernel), rightful (by decide +kernel),
   rightful (by decide +kernel), rightful (by decide +kernel), rightful (by decide +kernel)⟩
-- R4, R38: the charge and the owner's effect are of one event.
theorem test_charge_and_owners_effect :
    (let t := after (.requestArrival .switch (write 0x010203 .one [0x00050000])) (inCredit .switch hall)
     (t.pacing.switch.account.map Account.credit, t.switch.table.p3.lastCount)) = (some (-1), 5) := by
  decide +kernel

theorem witness_RequestInDebtIsHeld :
    let s := paced (-1) hall
    fresh .switch burst s ∧ placed burst s ∧
    deniedRight s.window .switch burst.dir (s.map.place burst.addr.toNat) = none ∧
    handle issueFull .switch burst (s.map.place burst.addr.toNat) s = .accept burst.words id ∧
    (s.pacing.get .switch).account = some { credit := -1, timer := 0 } ∧ (-1 : Int) < 0 := by
  refine ⟨?_, ?_, ?_, rfl, rfl, by decide⟩
  · unfold fresh; decide +kernel
  · unfold placed; decide +kernel
  · decide +kernel

theorem witness_RequestInDebtIsHeld_waits :
    let s := setMasterPort .switch (.held burst) hall
    burst.wf = true ∧ s.transit.ports.get .switch ≠ .empty ∧ s.lanesTaken :=
  ⟨by decide +kernel, by decide +kernel, free_lanes rfl⟩

theorem witness_StampedWriteCarriesAdmissionStamp :
    let r := write 0x030000 .eight [1, 2, 3, 4, 5, 6, 7, 8]
    fresh .line r hall ∧ placed r hall ∧ r.dir = .write ∧
    (hall.map.place r.addr.toNat).kind = .stamped ∧
    deniedRight hall.window .line .write (hall.map.place r.addr.toNat) = none ∧
    (hall.pacing.get .line).account = none ∧ (r.words[7]?).isSome = true := by
  unfold fresh placed; decide +kernel

theorem witness_MemoryAnswerIsDelivered :
    let x := txn .read .plain 0 .one
    let s := carrying .line x hall
    s.transit.memPort = .master .line ∧ s.transit.ports.get .line = .inMemory x ∧
    (x.dir = .read → [(7 : Word)].length = x.len.words) ∧
    (x.dir = .read → ¬ (x.kind = .ports ∧ Master.line = .line) ∧
      ¬ (x.kind = .orders ∧ Master.line = .robotlink ∧ x.offset % 8 = 0 ∧ x.offset < 48)) ∧
    s.transit.lanes = .all [] := by decide +kernel
/-- A transaction of `m` that is answered with `n` words, none of them substituted. -/
def brings (m : Master) (x : Txn) (n : Nat) : Prop :=
  (carrying m x hall).transit.memPort = .master m ∧
  (carrying m x hall).transit.ports.get m = .inMemory x ∧ (carrying m x hall).transit.lanes = .all [] ∧
  (x.dir = .read → n = x.len.words) ∧
  (x.dir = .read → ¬ (x.kind = .ports ∧ m = .line) ∧
    ¬ (x.kind = .orders ∧ m = .robotlink ∧ x.offset % 8 = 0 ∧ x.offset < 48))
theorem witness_MemoryAnswerIsDelivered_owned_places :
    brings .robotlink (txn .write .orders 0 .one) 0 ∧ brings .line (txn .write .ports 5 .one) 0 ∧
    brings .robotlink (txn .read .orders 4 .four) 4 ∧ brings .robotlink (txn .read .orders 48 .one) 1 := by
  refine ⟨?_, ?_, ?_, ?_⟩ <;> unfold brings <;> decide +kernel
-- R114: a read that covers no slot's word 0 shows memory's words; a write's delivery has no data.
theorem test_reads_past_word_0_are_memorys :
    (after (.memoryCompletion .current true [0x10009, 2, 3, 4])
      (carrying .robotlink (txn .read .orders 4 .four) hall)).transit.completions.robotlink =
      some { status := .okay, data := [0x10009, 2, 3, 4] } ∧
    (after (.memoryCompletion .current true [0x10009])
      (carrying .robotlink (txn .read .orders 48 .one) hall)).transit.completions.robotlink =
      some { status := .okay, data := [0x10009] } ∧
    (after (.memoryCompletion .current true [])
      (carrying .robotlink (txn .write .orders 0 .one) hall)).transit.completions.robotlink =
      some { status := .okay, data := [] } := by decide +kernel
/-- SERVICE's transaction is the last condition of settling. -/
def lastInFlight : State :=
  carrying .service (txn .write .plain 0 .one)
    (hall.setWindow { hall.window with state := .draining, key := true, inFlight := true })
theorem witness_MemoryAnswerIsDelivered_settles :
    lastInFlight.transit.memPort = .master .service ∧
    lastInFlight.transit.ports.get .service = .inMemory (txn .write .plain 0 .one) ∧
    lastInFlight.lanesTaken ∧ lastInFlight.transit.lanes.get .service = [] ∧
    lastInFlight.window.state = .draining ∧ lastInFlight.window.refusal = false ∧
    ∀ r ∈ allRobots, lastInFlight.window.robotSet.get r ≠ some .returnSent :=
  ⟨rfl, rfl, free_lanes rfl, rfl, rfl, rfl, by decide +kernel⟩
-- R153: SERVICE's FAULT settles the window; MEMORY_FAULT is raised first (log 39).
theorem test_fault_settles :
    (let t := after (.memoryCompletion .current false []) lastInFlight
     (t.window.state, t.staging.map fun e => match e.body with
       | .record (.memoryFault ..) _ => 1
       | .record (.serviceState ..) _ => 2
       | _ => 0)) = (.keyed, [1, 2]) := by decide +kernel
/-- Each of the commands that can make a port EMPTY, from a state with nothing on the lanes. -/
theorem witness_MemoryAnswerIsDelivered_lanes :
    (∀ m', hall.transit.lanes.get m' = []) ∧ (∀ r ∈ [burst, burst], r.wf = true) ∧
    (let s := carrying .switch (txn .read .plain 0 .one) hall
     s.transit.memPort = .master .switch ∧
     s.transit.ports.get .switch = .inMemory (txn .read .plain 0 .one) ∧
     (∀ m', s.transit.lanes.get m' = []) ∧
     exec (.memoryCompletion .current true [7]) s =
       .next (after (.memoryCompletion .current true [7]) s)) ∧
    exec (.refillExpiry .switch) hall = .next (after (.refillExpiry .switch) hall) ∧
    exec .serviceRefusal hall = .next (after .serviceRefusal hall) ∧
    exec (.reload .s0 0) hall = .next (after (.reload .s0 0) hall) ∧
    exec (.loadEnd true none) hall = .next (after (.loadEnd true none) hall) ∧
    exec .cabinetReset hall = .next (after .cabinetReset hall) ∧
    exec (.powerOn true) hall = .next (after (.powerOn true) hall) :=
  ⟨fun m => by cases m <;> rfl, by decide +kernel,
   ⟨rfl, rfl, fun m => by cases m <;> rfl, rfl⟩, rfl, rfl, rfl, rfl, rfl, rfl⟩
-- R1: the request that waits on the lane is taken as the port returns to EMPTY.
theorem test_lane_is_taken_at_the_delivery :
    (let s := carrying .switch (txn .read .plain 0 .one) hall
     let t := after (.memoryCompletion .current true [7])
       (s.setTransit { s.transit with lanes := s.transit.lanes.set .switch [burst, burst] })
     (t.transit.lanes.get .switch, t.transit.memPort, (memoryLane t).map MemRequest.addr)) =
      ([burst], .master .switch, some 0x400000) := by decide +kernel

/-- Slot 1's result waits for a staging entry. -/
def withWaiting (s : State) : State :=
  s.setSlots (s.slots.set .s1 { s.slots.s1 with awaiting := true, waiting := some resultWith })

theorem witness_InternalWriteCompletes_leaves :
    let s := writing [entry] hall
    s.transit.memPort = .internal ∧ s.staging = [entry] ∧
    (entry.twoWrites = true → entry.firstDone = true ∨ entry.cut = true) ∧
    ∀ n, (s.slots.get n).waiting = none := by
  refine ⟨rfl, rfl, by decide +kernel, fun n => ?_⟩
  cases n <;> rfl
theorem witness_InternalWriteCompletes_first_of_two :
    let s := writing [resultWith] hall
    s.transit.memPort = .internal ∧ s.staging = [resultWith] ∧ resultWith.twoWrites = true ∧
    resultWith.firstDone = false ∧ resultWith.cut = false := by decide +kernel
theorem witness_InternalWriteCompletes_joins :
    let s := withWaiting (writing (List.replicate 8 entry) hall)
    s.transit.memPort = .internal ∧ s.staging = entry :: List.replicate 7 entry ∧
    (List.replicate 7 entry).length < 8 ∧
    (entry.twoWrites = true → entry.firstDone = true ∨ entry.cut = true) ∧
    (s.slots.get .s1).waiting = some resultWith ∧
    ∀ n' : Slot, n'.num < Slot.s1.num → (s.slots.get n').waiting = none := by
  refine ⟨rfl, rfl, by decide, by decide +kernel, rfl, fun n h => ?_⟩
  cases n <;> first | rfl | exact absurd h (by decide)
-- R11, R13: the failed record leaves as one lost, and slot 1's result joins the tail.
theorem test_result_joins_behind_a_failed_record :
    (let t := after (.internalWriteCompletion .current false)
        (withWaiting (writing (List.replicate 8 entry) hall))
     (t.staging.length, t.staging.getLast?, t.slots.s1.waiting, t.writer.lost, t.writer.written)) =
      (8, some resultWith, none, 1, 1) := by decide +kernel

theorem witness_InternalWriteCompletes_shows :
    let data : List Word := List.replicate 14 7
    let e : StagingEntry := { resultWith with body := .result .s0 .done 1 0x06 (some data) }
    let s := carrying .line (txn .read .plain 0 .one) hall
    data.length = 14 ∧ (writing [e] hall).transit.memPort = .internal ∧ (writing [e] hall).staging = [e] ∧
    s.transit.memPort = .master .line ∧
    s.transit.ports.get .line = .inMemory (txn .read .plain 0 .one) := ⟨rfl, rfl, rfl, rfl, rfl⟩
-- R160: UNKNOWN for the opcode byte 99H of slot 0, its first issue: words 8 to 15 in one write.
theorem test_result_without_data :
    (memoryLane (writing [{ entry with body := .result .s0 .unknown 1 0x99 none, addr := 0xFFFF00 }]
      hall)).map (fun q => (q.addr, q.words.map WriteWord.enables, (q.words.drop 6).map WriteWord.data)) =
      some (0xFFFF08, [0, 0, 0, 0, 0, 0, 15, 15], [0x00010699, 0x99]) := by decide +kernel

/-- LINE's port waits, all others are empty, and LINE was granted last. -/
def lineWaits : Transit :=
  { Transit.reset with
    pointer := .line
    ports := Transit.reset.ports.set .line (.waiting (txn .read .plain 0 .one)) }
theorem witness_ArbiterChoosesByTheTable_busy : (writing [entry] hall).transit.memPort ≠ .free := by
  decide +kernel
theorem witness_ArbiterChoosesByTheTable_internal :
    lineWaits.memPort = .free ∧ 6 ≤ 6 ∧ hall.transit.memPort = .free ∧ 1 ≤ 1 ∧
    ∀ m, (hall.transit.ports.get m).isWaiting = false := by
  refine ⟨rfl, by decide, rfl, by decide, fun m => ?_⟩
  cases m <;> rfl
theorem witness_ArbiterChoosesByTheTable_last_in_order :
    lineWaits.memPort = .free ∧ 5 < 6 ∧ (searchAfter lineWaits.pointer)[4]? = some .line ∧
    lineWaits.ports.get .line = .waiting (txn .read .plain 0 .one) ∧
    ∀ j m', j < 4 → (searchAfter lineWaits.pointer)[j]? = some m' →
      (lineWaits.ports.get m').isWaiting = false := by
  refine ⟨rfl, by decide, rfl, rfl, fun j m' hj h => ?_⟩
  match j, hj, h with
  | 0, _, h => cases h; rfl
  | 1, _, h => cases h; rfl
  | 2, _, h => cases h; rfl
  | 3, _, h => cases h; rfl

/-- LINE's limiter MUTED to 5 with a suppressed count. -/
def muted (n : Nat) (held : Option Particulars) : State :=
  setLimiter .line { total := 1, mode := .muted 5 n held } (atM 5 hall)
/-- A denial's particulars. -/
def denial : Particulars := { cause := .rights, dir := .read, addr := 0, len := .one, region := none }
theorem witness_DenialMeetsLimiter :
    (hall.limiters.get .line).mode = .quiet ∧
    ((muted 65535 none).limiters.get .line).mode = .muted 5 65535 none := by decide +kernel
theorem witness_LimiterWindowEnds :
    ((muted 0 none).limiters.get .line).mode = .muted 5 0 none ∧
    atOrPast (muted 0 none).clock.m 5 = true ∧
    ((muted 1 (some denial)).limiters.get .line).mode = .muted 5 1 (some denial) ∧
    atOrPast (muted 1 (some denial)).clock.m 5 = true ∧ 0 < 1 := by decide +kernel

theorem witness_RefillAddsTheQuantum :
    let s := atM 24 (paced 60 hall)
    (s.pacing.get .switch).account = some { credit := 60, timer := 0 } ∧
    (8 + (s.pacing.get .switch).inForce.a) * 2 ^ (s.pacing.get .switch).inForce.b ≤
      (s.clock.m - 0).toNat ∧
    (∀ r, s.transit.ports.get .switch ≠ .held r) ∧
    (s.pacing.get .switch).buffered = none := by
  refine ⟨rfl, by decide +kernel, fun r h => ?_, rfl⟩
  cases h
/-- SWITCH's port HELD with a credit, its interval of 24 us over. -/
def heldAt (q : Request) (credit : Int) (s : State) : State :=
  setMasterPort .switch (.held q) (atM 24 (paced credit s))
theorem witness_RefillAddsTheQuantum_held :
    let s := heldAt burst (-17) hall
    let u := heldAt burst (-16) hall
    (s.pacing.get .switch).account = some { credit := -17, timer := 0 } ∧
    (8 + (s.pacing.get .switch).inForce.a) * 2 ^ (s.pacing.get .switch).inForce.b ≤
      (s.clock.m - 0).toNat ∧ s.lanesTaken ∧ s.transit.lanes.get .switch = [] ∧
    s.transit.ports.get .switch = .held burst ∧ burst.wf = true ∧ placed burst s ∧
    (s.map.place burst.addr.toNat).kind = .plain ∧
    deniedRight s.window .switch burst.dir (s.map.place burst.addr.toNat) = none ∧
    min ((-17 : Int) + 16) 64 < 0 ∧
    (u.pacing.get .switch).account = some { credit := -16, timer := 0 } ∧
    u.transit.ports.get .switch = .held burst ∧ 0 ≤ min ((-16 : Int) + 16) 64 :=
  ⟨rfl, by decide +kernel, free_lanes rfl, rfl, rfl, by decide +kernel, by unfold placed; decide +kernel,
   by decide +kernel, by decide +kernel, by decide, rfl, rfl, by decide⟩
theorem witness_RefillAddsTheQuantum_denied :
    let q := write 0x030000 .one [1]
    let s := heldAt q (-32) (hall.setMap { hall.map with entries := [region 2 0x030000 8192 1 9 1] })
    (s.pacing.get .switch).account = some { credit := -32, timer := 0 } ∧
    s.transit.ports.get .switch = .held q ∧ s.lanesTaken ∧ ¬ s.window.state = .draining ∧
    inRights ((s.map.place q.addr.toNat).rights.forDir q.dir) .switch = false :=
  ⟨rfl, rfl, free_lanes rfl, by decide +kernel, by decide +kernel⟩
-- spec/03 section 3.7: a refill to -1 leaves the burst HELD, a refill to 0 admits it with a charge of 16.
theorem test_held_request_at_a_refill :
    (after (.refillExpiry .switch) (heldAt burst (-17) hall)).transit.ports.switch = .held burst ∧
    ((after (.refillExpiry .switch) (heldAt burst (-16) hall)).pacing.switch.account.map
      Account.credit) = some (-16) := by decide +kernel

theorem witness_PaceSetByTheSettingInForce_of_unpaced :
    let s := params [0x100, 0x0707, 0, 1025] hall
    s.takes .s0 ∧ s.loader.condition ≠ .safe ∧ s.paramBits .s0 0 0 8 = Master.line.num ∧
    s.paramBits .s0 0 8 2 = 1 ∧ s.paramBits .s0 1 0 8 ≤ 7 ∧ s.paramBits .s0 1 8 8 ≤ 7 ∧
    (s.pacing.get .line).account = none := by unfold State.takes; decide +kernel
theorem witness_PaceSetByTheSettingInForce_of_paced :
    let s := params [0x101, 0x0707, 0, 1025] (paced (-32) hall)
    let u := params [0x201] (paced 64 hall)
    s.takes .s0 ∧ s.loader.condition ≠ .safe ∧ s.paramBits .s0 0 0 8 = Master.switch.num ∧
    (s.pacing.get .switch).account = some { credit := -32, timer := 0 } ∧
    s.paramBits .s0 0 8 2 = 1 ∧ s.paramBits .s0 1 0 8 ≤ 7 ∧ s.paramBits .s0 1 8 8 ≤ 7 ∧
    u.takes .s0 ∧ u.loader.condition ≠ .safe ∧ u.paramBits .s0 0 0 8 = Master.switch.num ∧
    (u.pacing.get .switch).account = some { credit := 64, timer := 0 } ∧
    u.paramBits .s0 0 8 2 = 2 := by unfold State.takes; decide +kernel
theorem witness_PaceSetByTheSettingInForce_refused :
    let s := params [0x200] hall
    (s.takes .s0 ∧ s.loader.condition ≠ .safe ∧ s.paramBits .s0 0 0 8 = Master.line.num ∧
      s.paramBits .s0 0 8 2 = 2 ∧ (s.pacing.get .line).account = none) ∧
    (safe.takes .s0 ∧ safe.loader.condition = .safe) ∧
    4 < (params [0x105] hall).paramBits .s0 0 0 8 ∧ (params [0x301] hall).paramBits .s0 0 8 2 = 3 ∧
    ((params [0x101, 8] hall).paramBits .s0 0 8 2 = 1 ∧ 7 < (params [0x101, 8] hall).paramBits .s0 1 0 8) ∧
    7 < (params [0x101, 0x800] hall).paramBits .s0 1 8 8 := by unfold State.takes; decide +kernel
-- R41: master 5, mode 3 and B = 8 are refused, mode UNPACED for an unpaced master is not.
theorem test_pace_set_checks :
    ([[0x105], [0x301], [0x101, 0x800], [0x200]].map fun ps =>
      (after (.paceSet .s0 0) (params ps hall)).staging.map fun e =>
        match e.body with | .result _ code _ _ _ => some code | .record _ _ => none) =
      [[some .refusedParam], [some .refusedParam], [some .refusedParam], [some .done]] := by
  decide +kernel

/-- Port 3 has the role TIME_SOURCE, with its link up or down. -/
def timed (up : Bool) (s : State) : State :=
  setPort .p3 { PortEntry.reset with role := .timeSource, linkUp := up } s
/-- A pulse was accepted at M `l`. -/
def pulsed (l : Micros) (s : State) : State :=
  s.setClock { s.clock with lastAccepted := some ⟨l, false⟩ }
/-- The pulse is trusted and accepted. -/
def pulses (s : State) : Prop :=
  s.pulseTrusted = true ∧ s.clock.spaced
/-- `e` is the phase error of T as a pulse captures it. -/
def phase (e : Int) (s : State) : Prop :=
  -500000 ≤ e ∧ e < 500000 ∧ ((s.clock.captured.toNat : Int) - e) % 1000000 = 0

theorem witness_UntrustedAndEarlyPulsesOnlyCount_untrusted :
    let s := timed false hall
    (s.switch.table.get .p3).role = .timeSource ∧ (s.switch.table.get .p3).linkUp = false := by
  decide +kernel
theorem witness_UntrustedAndEarlyPulsesOnlyCount_glitch :
    let s := pulsed 1 (atM 999000 (timed true hall))
    (∀ p, (s.switch.table.get p).role = .timeSource →
      (s.switch.table.get p).linkUp = true ∧ s.switch.state ≠ .silent) ∧
    s.clock.lastAccepted = some ⟨1, false⟩ ∧ (s.clock.m - 1).toNat < 999000 := by
  refine ⟨fun p => ?_, rfl, by decide +kernel⟩
  cases p <;> decide +kernel

/-- A pulse at T `t`, 999,000 us after the last, in a discipline state with an outlier run. -/
def pulseAt (st : ClockState) (t outliers : Nat) : State :=
  let s := pulsed 0 (clockAt st 999000 t hall)
  s.setClock { s.clock with outlierRun := outliers }
theorem pulseAt_pulses (st : ClockState) (t n : Nat) : pulses (pulseAt st t n) := by
  refine ⟨rfl, fun l h => .inr ?_⟩
  obtain rfl : (⟨0, false⟩ : Moment) = l := Option.some.inj h
  show 999000 ≤ ((999000 : Micros) - 0).toNat
  decide
theorem witness_PulseInLocking :
    pulses (pulseAt .locking 5001000 0) ∧ (pulseAt .locking 5001000 0).clock.state = .locking ∧
    (pulseAt .locking 5001000 0).clock.pendingSet = none ∧ phase 1000 (pulseAt .locking 5001000 0) ∧
    pulses (pulseAt .locking 4500000 0) ∧ (pulseAt .locking 4500000 0).clock.state = .locking ∧
    (pulseAt .locking 4500000 0).clock.pendingSet = none ∧
    phase (-500000) (pulseAt .locking 4500000 0) :=
  ⟨pulseAt_pulses .., rfl, rfl, by unfold phase; decide +kernel, pulseAt_pulses .., rfl, rfl,
   by unfold phase; decide +kernel⟩
theorem witness_PulseOutsideLocking_locked :
    (pulses (pulseAt .locked 5000100 2) ∧ (pulseAt .locked 5000100 2).clock.state = .locked ∧
      (pulseAt .locked 5000100 2).clock.pendingSet = none ∧ phase 100 (pulseAt .locked 5000100 2) ∧
      (100 : Int).natAbs ≤ 100) ∧
    (pulses (pulseAt .locked 5000101 1) ∧ (pulseAt .locked 5000101 1).clock.state = .locked ∧
      (pulseAt .locked 5000101 1).clock.pendingSet = none ∧ phase 101 (pulseAt .locked 5000101 1) ∧
      (pulseAt .locked 5000101 1).clock.outlierRun < 2) :=
  ⟨⟨pulseAt_pulses .., rfl, rfl, by unfold phase; decide +kernel, by decide⟩,
   ⟨pulseAt_pulses .., rfl, rfl, by unfold phase; decide +kernel, by decide +kernel⟩⟩
theorem witness_PulseOutsideLocking_relocks :
    (pulses (pulseAt .holdover 5000000 0) ∧ (pulseAt .holdover 5000000 0).clock.state = .holdover ∧
      (pulseAt .holdover 5000000 0).clock.pendingSet = none ∧ phase 0 (pulseAt .holdover 5000000 0)) ∧
    (pulses (pulseAt .locked 5000101 2) ∧ (pulseAt .locked 5000101 2).clock.state = .locked ∧
      (pulseAt .locked 5000101 2).clock.pendingSet = none ∧ phase 101 (pulseAt .locked 5000101 2) ∧
      100 < (101 : Int).natAbs ∧ (pulseAt .locked 5000101 2).clock.outlierRun = 2) :=
  ⟨⟨pulseAt_pulses .., rfl, rfl, by unfold phase; decide +kernel⟩,
   ⟨pulseAt_pulses .., rfl, rfl, by unfold phase; decide +kernel, by decide, rfl⟩⟩
theorem witness_PulseOutsideLocking_unset :
    pulses (pulseAt .unset 5000000 0) ∧ (pulseAt .unset 5000000 0).clock.state = .unset ∧
    (pulseAt .unset 5000000 0).clock.pendingSet = none := ⟨pulseAt_pulses .., rfl, rfl⟩
-- R53: in UNSET an accepted pulse is only recorded.
theorem test_pulse_in_unset :
    (let t := after .hallPulse (pulseAt .unset 5000000 0)
     (t.clock.state, t.clock.accepted, t.clock.t, t.clock.pulseWatch, t.staging)) =
      (.unset, 1, 5000000, none, []) := by decide +kernel

/-- A set of `n` seconds started at M `m` is pending. -/
def setPendingAt (n : Nat) (m : Micros) (s : State) : State :=
  s.setClock { s.clock with pendingSet := some ⟨n, m⟩ }
theorem witness_PendingSetIsAppliedAtPulse :
    let s := setPendingAt 281474975 0 (pulseAt .unset 0 0)
    pulses s ∧ s.clock.pendingSet = some ⟨281474975, 0⟩ := by
  refine ⟨⟨rfl, fun l h => .inr ?_⟩, rfl⟩
  obtain rfl : (⟨0, false⟩ : Moment) = l := Option.some.inj h
  decide +kernel

/-- The clock with a correction. -/
def correcting (c : Int) (n : Nat) (s : State) : State :=
  s.setClock { s.clock with c := c, adjustments := n }
theorem witness_ClockTimersAndNotices_correction :
    let s := correcting (-500) 499 (atM 1000000 hall)
    let u := clockAt .drifting 1000000 0 hall
    (s.clock.c ≠ 0 ∧ s.clock.adjustments < s.clock.c.natAbs ∧
      (s.clock.adjustments + 1) * (1000000 / s.clock.c.natAbs) ≤
        (s.clock.m - s.clock.periodStart).toNat) ∧
    (u.clock.state = .drifting ∧ 1000000 ≤ (u.clock.m - u.clock.periodStart).toNat) := by
  decide +kernel
theorem witness_ClockTimersAndNotices_watch :
    let s := (clockAt .locked 1002000 0 hall).setClock
      { (clockAt .locked 1002000 0 hall).clock with pulseWatch := some 0 }
    s.clock.state = .locked ∧ s.clock.pulseWatch = some 0 ∧ 1002000 ≤ (s.clock.m - 0).toNat := by
  decide +kernel
theorem witness_ClockTimersAndNotices_notice :
    let s := (timed true (clockAt .locking 5 0 hall)).setMail { hall.mail with clock := [.silent] }
    s.clock.state = .locking ∧ s.mail.clock = .silent :: [] ∧
    (s.switch.table.get .p3).role = .timeSource := by decide +kernel
theorem witness_ClockTimersAndNotices_notice_of_nothing :
    let s (x : ClockNotice) (st : ClockState) :=
      (clockAt st 5 0 hall).setMail { hall.mail with clock := [x] }
    ((s (.linkLoss .p3) .drifting).mail.clock = .linkLoss .p3 :: [] ∧
      (s (.linkLoss .p3) .drifting).clock.state = .drifting) ∧
    (s (.linkReturn .p3) .locked).mail.clock = .linkReturn .p3 :: [] ∧
    (s .silentEnded .locked).mail.clock = .silentEnded :: [] ∧
    ((s .silent .locked).mail.clock = .silent :: [] ∧
      ∀ p, ((s .silent .locked).switch.table.get p).role ≠ .timeSource) :=
  ⟨⟨rfl, rfl⟩, rfl, rfl, rfl, fun p => by cases p <;> decide +kernel⟩
theorem witness_ClockTimersAndNotices_limit_and_lapse :
    let s := (clockAt .holdover 600000000 0 hall).setClock
      { (clockAt .holdover 600000000 0 hall).clock with holdoverStart := some ⟨0, false⟩ }
    let u := setPendingAt 5 0 (atM 2000000 hall)
    (s.clock.state = .holdover ∧ s.clock.holdoverStart = some ⟨0, false⟩ ∧ s.clock.holdoverLimit ≤ 3600 ∧
      s.clock.holdoverLimit * 1000000 ≤ (s.clock.m - 0).toNat) ∧
    (u.clock.pendingSet = some ⟨5, 0⟩ ∧ 2000000 ≤ (u.clock.m - 0).toNat) := by decide +kernel

theorem witness_TimeSetPendsAndTimeQueryReads :
    let s := params [281474975] hall
    let u := params [281474976] hall
    (s.takes .s0 ∧ s.loader.condition ≠ .safe ∧ s.paramWord .s0 0 ≤ 281474975) ∧
    (u.takes .s0 ∧ u.loader.condition ≠ .safe ∧ 281474975 < u.paramWord .s0 0) ∧
    (safe.takes .s0 ∧ safe.loader.condition = .safe) ∧ pageField (opcodeWord 0x21 1) ≤ 1 := by
  unfold State.takes; decide +kernel
-- R160: the clock's fields fill two pages, so that page 2 names no data.
theorem test_time_query_pages :
    14 < (layWords (timeFields hall.clock)).length ∧ (layWords (timeFields hall.clock)).length ≤ 28 ∧
    (after (.timeQuery .s0 2) hall).staging.map (fun e => e.body) =
      [.result .s0 .refusedParam 1 0x221 none] := by decide +kernel

/-- SWITCH's one-word write of port 8's word. -/
def portWrite : Request := write 0x010208 .one [0xFFFF0009]
theorem witness_PortWordIsDecoded :
    portWrite.dir = .write ∧ portWrite.len = .one ∧ portWrite.words = [⟨0xFFFF0009, 0b1111⟩] ∧
    hall.transit.ports.switch = .empty ∧ hall.transit.lanes = .all [] ∧
    (hall.map.place portWrite.addr.toNat).kind = .ports ∧
    (hall.map.place portWrite.addr.toNat).offset = SwPort.p8.num ∧
    deniedRight hall.window .switch .write (hall.map.place portWrite.addr.toNat) = none ∧
    hall.pacing.switch.account = none := by decide +kernel
/-- A write of the mailbox with the enables given. -/
def mailbox (a : Nat) (len : BurstLen) (ws : List (Nat × BitVec 4)) : Request :=
  { dir := .write, addr := BitVec.ofNat 24 a, len := len
    words := ws.map fun w => ⟨BitVec.ofNat 32 w.1, w.2⟩ }
/-- Offsets 8 to 15, one byte of each word enabled: the word at offset 8 is a partial word. -/
def partialWrite : Request := mailbox 0x010208 .eight (List.replicate 8 (7, 1))
theorem witness_PortWordIsDecoded_partial :
    Rightful .switch partialWrite .ports hall ∧
    (hall.map.place partialWrite.addr.toNat).offset = 8 ∧
    ∀ w ∈ partialWrite.words, w.enables ≠ 0b1111 := ⟨rightful (by decide +kernel), by decide +kernel, by decide +kernel⟩
-- R68: one word of the burst is a mailbox word.
theorem test_partial_words_are_counted :
    (after (.requestArrival .switch partialWrite) hall).switch.partialWords = 1 ∧
    (after (.requestArrival .switch partialWrite)
      (hall.setSwitch { hall.switch with partialWords := 4294967295 })).switch.partialWords =
        4294967295 := by decide +kernel
/-- The heartbeat and ports 1 to 7 in one burst. -/
def portBurst : Request :=
  write 0x010200 .eight [1, 0x10001, 0x20001, 0x30000, 0x10001, 0x10001, 0x10001, 0x10001]
theorem witness_PortWordIsDecoded_burst :
    Rightful .switch portBurst .ports hall ∧
    ∀ i, i < portBurst.words.length → hall.map.place (portBurst.addr.toNat + i) =
      { hall.map.place portBurst.addr.toNat with
        offset := (hall.map.place portBurst.addr.toNat).offset + i } :=
  ⟨rightful (by decide +kernel), by decide +kernel⟩
theorem test_burst_decodes_every_word :
    (let k := (after (.requestArrival .switch portBurst) hall).switch
     (k.state, k.table.p2.lastCount, k.table.p3.linkUp)) = (.alive, 2, false) := by decide +kernel
theorem witness_LineReadsLatchedPortWords :
    let x := txn .read .ports 8 .two
    let s := carrying .line x hall
    s.transit.memPort = .master .line ∧ s.transit.ports.line = .inMemory x ∧ x.dir = .read ∧
    s.transit.lanes = .all [] ∧
    x.kind = .ports ∧ [(1 : Word), 2].length = x.len.words := by decide +kernel
theorem witness_SwitchTimeoutMakesSilent :
    let s := (atM 500000 hall).setSwitch { hall.switch with state := .alive, timer := some 0 }
    s.switch.state = .alive ∧ s.switch.timer = some 0 ∧
    s.switch.timeout * 1000 ≤ (s.clock.m - 0).toNat := by decide +kernel

/-- SWITCH's one-word write of the heartbeat. -/
def heartbeat (n : Nat) : Request := write 0x010200 .one [n]
/-- The Switch Watch in a state after a sequence, with a TIME_SOURCE, a ROBOT_LINK and a CAMERA port. -/
def beating (st : SwitchState) (l : Option (BitVec 16)) : State :=
  let p (r : Role) : PortEntry := { PortEntry.reset with role := r, baselinePending := false }
  hall.setSwitch { hall.switch with
    state := st, lastSequence := l
    table := { hall.switch.table with p1 := p .timeSource, p2 := p .robotLink, p3 := p .camera } }
theorem beat_rightful (n : Nat) (st : SwitchState) (l : Option (BitVec 16)) :
    Rightful .switch (heartbeat n) .ports (beating st l) := by
  refine rightful ?_
  show rightly .switch (write 0x010200 .one [0]) .ports hall = true
  decide +kernel
theorem witness_SwitchTimeoutMakesSilent_heartbeat :
    (heartbeat 0).len = .one ∧ (heartbeat 0).words = [⟨0, 0b1111⟩] ∧
    Rightful .switch (heartbeat 0) .ports (beating .alive (some 65535)) ∧
    ((beating .alive (some 65535)).map.place (heartbeat 0).addr.toNat).offset = 0 ∧
    (beating .alive (some 65535)).switch.lastSequence ≠ some 0 ∧
    Rightful .switch (heartbeat 0) .ports (beating .alive (some 0)) ∧
    (beating .alive (some 0)).switch.lastSequence = some 0 :=
  ⟨rfl, rfl, beat_rightful .., by decide +kernel, by decide +kernel, beat_rightful .., rfl⟩
-- spec/05 section 5.6.1: the heartbeat after the switch restarted, and the first after SILENT.
theorem test_restart_sets_the_baselines :
    (let k := (after (.requestArrival .switch (heartbeat 0)) (beating .alive (some 41))).switch
     (k.state, k.restarts, k.lastSequence, k.table.p8.baselinePending)) =
      (.alive, 1, some 0, true) := by decide +kernel
theorem test_heartbeat_ends_silent :
    (let t := after (.requestArrival .switch (heartbeat 7)) (beating .silent (some 6))
     (t.switch.state, t.switch.restarts, t.mail.clock, t.mail.robotLink, t.mail.cameras)) =
      (.alive, 0, [.silentEnded, .linkReturn .p1], [.back .p2], [.back .p3]) := by decide +kernel

theorem witness_RobotTimersExpire_heartbeat :
    let s := withRobot filling (atM 100000 hall)
    let e := s.robots.table.get .r2
    e.state ∉ [.offline, .silent, .faulted] ∧ e.heartbeatTimer = some 0 ∧
    s.robots.settings.heartbeatTimeout * 1000 ≤ (s.clock.m - 0).toNat := by decide +kernel
theorem witness_RobotTimersExpire_pickup :
    let s := withRobot { robot .ordered with pickupTimer := some 0 } (atM 500000 hall)
    let e := s.robots.table.get .r2
    e.state = .ordered ∧ e.pickupTimer = some 0 ∧
    s.robots.settings.pickupTimeout * 1000 ≤ (s.clock.m - 0).toNat := by decide +kernel
theorem witness_RobotTimersExpire_fill :
    let s := withRobot filling (atM 20000000 hall)
    let e := s.robots.table.get .r2
    e.state = .filling ∧ e.fillTimer = some 0 ∧
    s.robots.settings.fillTimeout * 1000000 ≤ (s.clock.m - 0).toNat := by decide +kernel

/-- The notices to the Robot Guard. -/
def noticed (l : List LinkNotice) (k : List KeepaliveMsg) (c : List Credit) (t : List TransferMsg)
    (s : State) : State :=
  s.setMail { s.mail with robotLink := l, keepalive := k, credits := c, transfers := t }
theorem witness_NoticesMoveEveryRobotConcerned :
    (noticed [.loss .p5] [] [] [] hall).mail.robotLink = .loss .p5 :: [] ∧
    (noticed [.back .p5] [] [] [] hall).mail.robotLink = .back .p5 :: [] ∧
    (noticed [] [.lapse] [] [] hall).mail.keepalive = .lapse :: [] ∧
    (noticed [] [.resume] [] [] hall).mail.keepalive = .resume :: [] := by decide +kernel
theorem witness_CreditMovesQuarantineRun :
    let s := noticed [] [] [.reject .r2] [] (withRobot { robot .ready with run := 2 } hall)
    let u := noticed [] [] [.pass .r2] [] (withRobot { robot .ready with owner := .service } hall)
    let v := noticed [] [] [.pass .r2] [] (withRobot (robot .ready) hall)
    (s.mail.credits = .reject .r2 :: [] ∧ (s.robots.table.get .r2).owner = .line ∧
      ¬ (s.robots.limit = 0 ∨ min ((s.robots.table.get .r2).run + 1) 15 < s.robots.limit)) ∧
    (u.mail.credits = .pass .r2 :: [] ∧ (u.robots.table.get .r2).owner = .service) ∧
    (v.mail.credits = .pass .r2 :: [] ∧ (v.robots.table.get .r2).owner = .line) := by decide +kernel
theorem witness_RobotCommandsMoveOneRobot :
    let s := params [2] (withRobot { robot .held with hold := some .command } hall)
    s.takes .s0 ∧ s.loader.condition ≠ .safe ∧ s.paramBits .s0 0 0 8 = Robot.r2.num ∧
    (s.robots.table.get .r2).transferPending = false ∧ (s.robots.table.get .r2).state = .held := by
  unfold State.takes; decide +kernel
theorem witness_RobotCommandsMoveOneRobot_pending :
    let s := params [2] (withRobot
      { robot .held with hold := some .quarantine, run := 3, transferPending := true } hall)
    s.takes .s0 ∧ s.loader.condition ≠ .safe ∧ s.paramBits .s0 0 0 8 = Robot.r2.num ∧
    (s.robots.table.get .r2).state = .held ∧
    ¬ ((s.robots.table.get .r2).owner = .line ∧ s.robots.lapsed = true) ∧
    (s.robots.table.get .r2).transferPending = true := by unfold State.takes; decide +kernel
theorem witness_RobotCommandsMoveOneRobot_refused :
    let s := params [6] safe
    (s.takes .s0 ∧ s.loader.condition = .safe ∧ s.paramBits .s0 0 0 8 = Robot.r6.num) ∧
    ((params [0] hall).takes .s0 ∧ (params [0] hall).paramBits .s0 0 0 8 = 0 ∧
      6 < (params [7] hall).paramBits .s0 0 0 8 ∧ hall.loader.condition ≠ .safe) := by
  unfold State.takes; decide +kernel
-- R97: SAFE is checked before the number.
theorem test_robot_commands_refused :
    ([(.robotArm .s0 0, params [7] safe), (.robotHold .s0 0, params [7] hall)].map fun x =>
      (after x.1 x.2).staging.map fun e => e.body) =
      [[.result .s0 .refusedState 1 0x01 none], [.result .s0 .refusedParam 1 0x03 none]] := by
  decide +kernel
-- R102: the pending transfer is taken at the entry to READY.
theorem test_release_takes_the_pending_transfer :
    (let t := after (.robotRelease .s0 0) (params [2] (withRobot
        { robot .held with hold := some .quarantine, run := 3, transferPending := true } hall))
     (t.robots.table.r2.owner, t.robots.table.r2.state, t.mail.answers)) =
      (.service, .ready, [.taken .r2]) := by decide +kernel
theorem witness_QuarantineSetChangesTheLimitOnly_command :
    let s := params [15] hall
    let u := params [16] hall
    (s.takes .s0 ∧ s.loader.condition ≠ .safe ∧ s.paramBits .s0 0 0 8 ≤ 15) ∧
    (u.takes .s0 ∧ u.loader.condition ≠ .safe ∧ 15 < u.paramBits .s0 0 0 8) := by
  unfold State.takes; decide +kernel
theorem witness_QuarantineSetChangesTheLimitOnly_credit :
    let u := noticed [] [] [.reject .r2] [] (withRobot { robot .ready with run := 2 } hall)
    u.mail.credits = .reject .r2 :: [] ∧ (u.robots.table.get .r2).owner = .line ∧
    u.robots.limit ≠ 0 ∧ u.robots.limit ≤ min ((u.robots.table.get .r2).run + 1) 15 ∧
    (u.robots.table.get .r2).state ∈ [.ready, .ordered, .filling] ∧
    exec .fillerCredit u = .next (after .fillerCredit u) :=
  ⟨rfl, rfl, by decide +kernel, by decide +kernel, by decide +kernel, rfl⟩
/-- No request of LINE is about to issue QUARANTINE_SET or RELOAD. -/
theorem hall_is_quiet (q : Request) :
    ¬ (hall.transit.ports.line = .held q ∨ q ∈ hall.transit.lanes.line) := by
  rintro (h | h)
  · exact hall_holds_none .line q h
  · revert h; simp [hall, State.reset, Transit.reset, PerMaster.all, State.setMap, State.setLoader]
theorem witness_QuarantineSetChangesTheLimitOnly_keeps :
    (∀ q, Instr.robotHold .s0 0 = .requestArrival .line q ∨ hall.transit.ports.line = .held q ∨
      q ∈ hall.transit.lanes.line →
      ∀ w ∈ q.words, opcodeField w.data ≠ 0x07 ∧ opcodeField w.data ≠ 0x60) ∧
    exec (.robotHold .s0 0) hall = .next (after (.robotHold .s0 0) hall) :=
  ⟨fun q h => by
    rcases h with h | h
    · cases h
    · exact absurd h (hall_is_quiet q), rfl⟩
theorem witness_QuarantineSetChangesTheLimitOnly_resets :
    (∀ q, ¬ (hall.transit.ports.line = .held q ∨ q ∈ hall.transit.lanes.line)) ∧
    exec .cabinetReset hall = .next (after .cabinetReset hall) ∧ hall.loader.load = none ∧
    exec (.reload .s0 0) hall = .next (after (.reload .s0 0) hall) ∧
    (after (.reload .s0 0) hall).loader.load = some .reload ∧
    exec (.powerOn true) hall = .next (after (.powerOn true) hall) :=
  ⟨hall_is_quiet, rfl, rfl, rfl, by decide +kernel, rfl⟩
theorem witness_TransferRequestByState :
    let s := noticed [] [] [] [.request .r2] (withRobot (robot .held) hall)
    let u := noticed [] [] [] [.request .r2] (withRobot { robot .held with owner := .service } hall)
    (s.mail.transfers = .request .r2 :: [] ∧ (s.robots.table.get .r2).owner = .line ∧
      (s.robots.table.get .r2).state = .held) ∧
    (u.mail.transfers = .request .r2 :: [] ∧ (u.robots.table.get .r2).owner = .service) := by
  decide +kernel

/-- A status record. -/
def status (heartbeat condition tag delivered fault : Nat) : List WriteWord :=
  full [condition * 65536 + heartbeat, tag, delivered, fault, 0, 0, 0, 0]
/-- ROBOTLINK's record of robot 2. -/
def record (heartbeat condition tag delivered fault : Nat) : Request :=
  { dir := .write, addr := 0x010108, len := .eight, words := status heartbeat condition tag delivered fault }
theorem record_rightful (h c t d f : Nat) (e : RobotEntry) :
    Rightful .robotlink (record h c t d f) .status (withRobot e hall) := by
  refine rightful ?_
  show rightly .robotlink (write 0x010108 .eight [0, 0, 0, 0, 0, 0, 0, 0]) .status hall = true
  decide +kernel
theorem witness_HeartbeatActsByState_nothing :
    let ws := [1, 2, 3, 4, 5, 6, 7, 8]
    let q := write 0x010130 .eight ws
    let u := withRobot { robot .ready with lastHeartbeat := some 9 } hall
    (Rightful .robotlink q .status hall ∧ 48 ≤ (hall.map.place q.addr.toNat).offset) ∧
    (Rightful .robotlink (record 9 4 0 0 1) .status u ∧
      (u.map.place (record 9 4 0 0 1).addr.toNat).offset = 8 ∧
      (u.robots.table.get .r2).lastHeartbeat =
        some (StatusRecord.ofWords (record 9 4 0 0 1).words).heartbeat) ∧
    (Rightful .robotlink (write 0x01012F .one [1]) .status hall ∧
      (write 0x01012F .one [1]).len ≠ .eight) :=
  ⟨⟨rightful (by decide +kernel), by decide +kernel⟩, ⟨record_rightful .., by decide +kernel, by decide +kernel⟩,
   rightful (by decide +kernel), by decide⟩
theorem witness_HeartbeatActsByState_record :
    (record 65535 0 417 0 0).len = .eight ∧ (∀ w ∈ (record 65535 0 417 0 0).words, w.enables = 0b1111) ∧
    (hall.map.place (record 65535 0 417 0 0).addr.toNat).offset = 8 * (Robot.r2.num - 1) ∧
    (robot .starting).lastHeartbeat ≠ some (StatusRecord.ofWords (record 65535 0 417 0 0).words).heartbeat ∧
    (StatusRecord.ofWords (record 65535 0 417 0 0).words).condition ≠ .fault ∧
    (StatusRecord.ofWords (record 0 4 0 0 9).words).condition = .fault ∧
    (∀ st, Rightful .robotlink (record 65535 0 417 0 0) .status (withRobot (robot st) hall) ∧
      ((withRobot (robot st) hall).robots.table.get .r2).state = st) ∧
    (robot .starting).envelopeWritten = true ∧ (robot .starting).hold = none ∧
    hall.robots.settings.linkPort.get .r2 = none :=
  ⟨rfl, by decide +kernel, by decide +kernel, by decide +kernel, by decide +kernel, by decide +kernel,
   fun _ => ⟨record_rightful .., rfl⟩, rfl, rfl, rfl⟩
-- spec/06 section 6.2: SILENT comes back by STARTING; STARTING with a kept cause becomes HELD.
theorem test_heartbeat_after_silence :
    (let e := (after (.requestArrival .robotlink (record 1 0 0 0 0)) (withRobot (robot .silent) hall)).robots.table.r2
     (e.state, e.heartbeatTimer)) = (.starting, some 0) ∧
    (let e := (after (.requestArrival .robotlink (record 1 0 0 0 0))
        (withRobot { robot .starting with hold := some .command } hall)).robots.table.r2
     (e.state, e.hold)) = (.held, some .command) := by decide +kernel
theorem test_reported_fault :
    (let e := (after (.requestArrival .robotlink (record 1 4 417 0 9)) (withRobot filling hall)).robots.table.r2
     (e.state, e.fault, e.faultCode, e.fillTimer)) = (.faulted, some .reported, 9, none) := by
  decide +kernel

/-- Robot 2 ORDERED with the order of section 6.10. -/
def ordered : RobotEntry :=
  { robot .ordered with order := some ⟨417, .fill, some 5000⟩, pickupTimer := some 0, fresh := false }
/-- The record's condition and tag. -/
def tells (q : Request) (c : RobotCondition) (tag : BitVec 16) : Prop :=
  (StatusRecord.ofWords q.words).condition = c ∧ (StatusRecord.ofWords q.words).tag = tag
theorem witness_FillEndIsCheckedForDeviation_slot :
    (∀ h c t d f e, Rightful .robotlink (record h c t d f) .status (withRobot e hall) ∧
      ((withRobot e hall).robots.table.get .r2) = e) ∧
    (hall.map.place 0x010108).offset = 8 * (Robot.r2.num - 1) ∧ ordered.lastHeartbeat ≠ some 1 :=
  ⟨fun h c t d f e => ⟨record_rightful h c t d f e, rfl⟩, by decide +kernel, by decide +kernel⟩
theorem witness_FillEndIsCheckedForDeviation_clauses :
    let known (e : RobotEntry) (t : BitVec 16) : Prop := e.order.map Order.tag = some t ∨
      (e.state = .filling ∧ e.fillRecord.map FillRecord.tag = some t)
    (tells (record 1 0 417 0 0) .idle 417 ∧ ordered.state = .ordered) ∧
    (tells (record 1 2 418 0 0) .done 418 ∧ ¬ known filling 418) ∧
    (tells (record 1 1 417 0 0) .filling 417 ∧ ordered.order = some ⟨417, .fill, some 5000⟩) ∧
    (tells (record 1 3 417 0 0) .halted 417 ∧ known ordered 417) ∧
    (tells (record 1 1 417 0 0) .filling 417 ∧ filling.state = .filling ∧ known filling 417) ∧
    (tells (record 1 2 417 0 0) .done 417 ∧ ordered.order.bind Order.volume = some 5000 ∧
      filling.fillRecord.map FillRecord.volume = some 5000) := by
  unfold tells; decide +kernel
theorem witness_FillEndIsCheckedForDeviation_deviates :
    let s := withRobot filling hall
    let bad (d : Nat) : Prop := s.robots.settings.tolerance * 5000 <
      (((StatusRecord.ofWords (record 1 2 417 d 0).words).delivered : Int) - 5000).natAbs * 1000
    ¬ bad 5050 ∧ bad 5051 ∧ bad 4949 ∧ filling.owner = .line ∧ filling.transferPending = false ∧
    (∀ l, s.robots.limit = l → ¬ (l = 0 ∨ min (filling.run + 1) 15 < l)) ∧
    min ({ filling with run := 1 }.run + 1) 15 < s.robots.limit ∧
    { filling with transferPending := true }.transferPending = true := by
  refine ⟨by decide +kernel, by decide +kernel, by decide +kernel, rfl, rfl, fun l h => ?_,
    by decide +kernel, rfl⟩
  subst h; decide +kernel
-- spec/06 section 6.2, R87: pickup; a HALTED fill is not checked; an unknown tag is counted.
theorem test_pickup :
    (let e := (after (.requestArrival .robotlink (record 1 1 417 0 0)) (withRobot ordered hall)).robots.table.r2
     (e.state, e.fillRecord, e.pickupTimer, e.fillTimer)) =
      (.filling, some ⟨417, 5000⟩, none, some 0) := by decide +kernel
theorem test_halted_and_mismatch :
    (let e := (after (.requestArrival .robotlink (record 1 3 417 0 0)) (withRobot filling hall)).robots.table.r2
     (e.state, e.run)) = (.ready, 2) ∧
    (let e := (after (.requestArrival .robotlink (record 1 2 418 0 0)) (withRobot filling hall)).robots.table.r2
     (e.state, e.mismatches)) = (.filling, 1) := by decide +kernel

/-- An order write of LINE in the slot of robot 2. -/
def order (mode tag v : Nat) : Request :=
  write 0x010008 .eight [mode * 65536 + tag, v, 300, 80, 0, 0, 0, 0]
/-- The order write reaches the guard of robot 2. -/
def orders (m : Master) (q : Request) (k : Nat) (s : State) : Prop :=
  fresh m q s ∧ placed q s ∧ q.dir = .write ∧ (s.map.place q.addr.toNat).kind = .orders ∧
  (s.map.place q.addr.toNat).offset = 8 * (Robot.r2.num - 1) + k ∧
  deniedRight s.window m .write (s.map.place q.addr.toNat) = none
theorem witness_OrderWriteIsRefusedByTheFirstTest_owner :
    let s := withRobot { robot .ready with owner := .service } hall
    orders .line (write 0x01000F .one [1]) 7 s ∧ (s.robots.table.get .r2).owner = .service := by
  unfold orders fresh placed; decide +kernel
theorem witness_OrderWriteIsRefusedByTheFirstTest_shape_and_mode :
    let s := withRobot (robot .ready) hall
    orders .line (write 0x010008 .four [1, 2, 3, 4]) 0 s ∧ orders .line (order 0 1 5000) 0 s ∧
    (∀ w ∈ (order 0 1 5000).words, w.enables = 0b1111) ∧
    (wordAt (order 0 1 5000).words 0).extractLsb' 16 2 = (0 : BitVec 2) := by
  unfold orders fresh placed; decide +kernel
theorem witness_OrderWriteIsRefusedByTheFirstTest_state :
    orders .line (order 2 1 0) 0 (withRobot (robot .silent) hall) ∧
    orders .line (order 1 1 5000) 0 (withRobot { robot .held with hold := some .command } hall) ∧
    orders .line (order 1 1 5000) 0 (withRobot filling hall) ∧
    (wordAt (order 1 1 5000).words 0).extractLsb' 16 2 = (1 : BitVec 2) := by
  unfold orders fresh placed; decide +kernel
theorem witness_FillOrderIsGuardedAndPassed :
    let s := withRobot { robot .ordered with fp := 120 } hall
    let u := withRobot (robot .ready) hall
    let q := order 1 65535 5400
    orders .line q 0 s ∧ orders .line q 0 u ∧ q.len = .eight ∧
    (∀ w ∈ q.words, w.enables = 0b1111) ∧ (s.pacing.get .line).account = none ∧
    (s.robots.table.get .r2).owner = .line ∧
    (wordAt q.words 0).extractLsb' 16 2 = (1 : BitVec 2) ∧
    (s.robots.table.get .r2).state = .ordered ∧ (u.robots.table.get .r2).state = .ready := by
  unfold orders fresh placed; decide +kernel
theorem order_rightful (mode tag v : Nat) (e : RobotEntry) :
    Rightful .line (order mode tag v) .orders (withRobot e hall) := by
  refine rightful ?_
  show rightly .line (write 0x010008 .eight [0, 0, 0, 0, 0, 0, 0, 0]) .orders hall = true
  decide +kernel
theorem witness_StopOrderIsPassed :
    (∀ e, Rightful .line (order 3 65535 0) .orders (withRobot e hall) ∧
      Rightful .line (order 2 0 0) .orders (withRobot e hall) ∧
      ((withRobot e hall).robots.table.get .r2) = e) ∧
    (∀ w ∈ (order 3 65535 0).words, w.enables = 0b1111) ∧
    (hall.map.place (order 3 65535 0).addr.toNat).offset = 8 * (Robot.r2.num - 1) ∧
    (wordAt (order 3 65535 0).words 0).extractLsb' 16 2 = (3 : BitVec 2) ∧
    (wordAt (order 2 0 0).words 0).extractLsb' 16 2 = (2 : BitVec 2) ∧
    ordered.state = .ordered ∧ ordered.transferPending = false ∧ ordered.owner = .line ∧
    { ordered with transferPending := true }.transferPending = true ∧ filling.state ≠ .ordered :=
  ⟨fun e => ⟨order_rightful .., order_rightful .., rfl⟩, by decide +kernel, by decide +kernel,
   by decide +kernel, by decide +kernel, rfl, rfl, rfl, rfl, by decide +kernel⟩
-- R110, second column: PARK in ORDERED; HOLD in FILLING keeps the state and the fill record.
theorem test_stop_orders :
    (let e := (after (.requestArrival .line (order 3 9 0)) (withRobot ordered hall)).robots.table.r2
     (e.state, e.order, e.pickupTimer)) = (.ready, some ⟨9, .park, none⟩, none) ∧
    (let e := (after (.requestArrival .line (order 2 9 0)) (withRobot filling hall)).robots.table.r2
     (e.state, e.order, e.fillRecord)) = (.filling, some ⟨9, .hold, none⟩, some ⟨417, 5000⟩) := by
  decide +kernel
/-- The robot-state records that join the staging queue: the new state, the run and the tag. -/
def moves (t : State) : List (RobotState × Nat × Option (BitVec 16)) :=
  t.staging.filterMap fun e =>
    match e.body with
    | .record (.robotState _ _ after _ _ _ _ _ run tag) _ => some (after, run, tag)
    | _ => none
-- R108: step 1's report carries the order before step 2's, the report of the taking the new one.
theorem test_order_report_has_the_order_before :
    moves (after (.requestArrival .line (order 1 9 5000)) (withRobot (robot .ready) hall)) =
      [(.ordered, 0, none)] ∧
    moves (after (.requestArrival .line (order 3 9 0)) (withRobot ordered hall)) =
      [(.ready, 0, some 417)] ∧
    moves (after (.requestArrival .line (order 3 9 0))
        (withRobot { ordered with transferPending := true } hall)) =
      [(.ready, 0, some 417), (.ready, 0, some 9)] := by decide +kernel
-- spec/06 section 6.10: FILL_END is raised before the credit that makes the run 3, HELD after it.
theorem test_fill_end_report_has_the_run_before :
    moves (after (.requestArrival .robotlink (record 1 2 417 4930 0))
        ((withRobot filling hall).setRobots
          { (withRobot filling hall).robots with limit := 3 })) =
      [(.ready, 2, some 417), (.held, 3, some 417)] := by decide +kernel
theorem witness_RobotlinkReadsFillOnlyUnderAnOrder :
    let x := txn .read .orders 40 .one
    let s := carrying .robotlink x hall
    s.transit.memPort = .master .robotlink ∧ s.transit.ports.robotlink = .inMemory x ∧
    x.dir = .read ∧ x.kind = .orders ∧ x.offset = 8 * (Robot.r6.num - 1) ∧
    [(0x10001 : Word)].length = x.len.words := by decide +kernel
theorem witness_RobotEnvelopeIsSettledAndWritten :
    let s := params [2, 30001, 30001, 1001, 0, 500, 501] hall
    s.takes .s0 ∧ s.loader.condition ≠ .safe ∧ s.paramBits .s0 0 0 8 = Robot.r2.num := by
  unfold State.takes; decide +kernel
theorem witness_RobotEnvelopeIsSettledAndWritten_refused :
    (let s := params [2] safe
     s.takes .s0 ∧ s.loader.condition = .safe ∧ s.paramBits .s0 0 0 8 = Robot.r2.num) ∧
    (let s := params [7] hall
     s.takes .s0 ∧ s.loader.condition ≠ .safe ∧ 6 < s.paramBits .s0 0 0 8) := by
  unfold State.takes; decide +kernel

theorem witness_EncoderPulseMovesTheBelt :
    let s := runs 3482 [bottle0] hall
    s.tracker.running = true ∧ s.tracker.params = some track ∧ hall.tracker.running = false ∧
    ∀ b, s.tracker.queue.head? = some b →
      posDelta (s.tracker.pos + 1) (posAdd b.p0 track.rejectOffset) < 0 := by
  refine ⟨rfl, rfl, rfl, fun b h => ?_⟩
  obtain rfl : bottle0 = b := Option.some.inj h
  decide +kernel
/-- The bottle behind bottle 20, which has a pulse to go to its reject point. -/
def bottle21 : Bottle := { bottle20 with number := 21, p0 := 6401 }
/-- A bottle opened further back after a reverse run, passed by every camera, from filler 3. -/
def bottleNear : Bottle := bottle 22 6390 ⟨.pass 2 0 3, .pass 2 0 3, .pass 2 0 3, .pass 2 0 3⟩
theorem witness_HeadIsDecidedAtRejectPoint :
    let s := runs 9999 [bottle20, bottleNear, bottle21, bottleNear] hall
    let p := s.tracker.pos + 1
    s.tracker.running = true ∧ s.tracker.params = some track ∧
    (bottle20.misses track p).reached track p ∧ (bottleNear.misses track p).reached track p ∧
    ¬ (bottle21.misses track p).reached track p := by
  refine ⟨rfl, rfl, ?_, ?_, ?_⟩ <;> unfold Bottle.reached <;> decide +kernel
-- R138: both heads are decided at P 10,000, in queue order; the entry that has not reached its point stays,
-- and the one behind it with it.
theorem test_two_heads_at_one_pulse :
    (let t := after (.encoderPulse .forward) (runs 9999 [bottle20, bottleNear, bottle21, bottleNear] hall)
     (t.tracker.counters.rejected, t.tracker.counters.passed, t.tracker.queue.map Bottle.number,
       t.mail.credits)) = (1, 1, [21, 22], [.reject .r5, .pass .r3]) ∧
    (let t := after (.encoderPulse .forward) (runs 9999 [bottle20, { bottleNear with overrun := 2 }] hall)
     (t.tracker.counters.rejected, t.tracker.offPos, t.staging.length)) = (2, 11100, 2) := by
  decide +kernel

-- R137, log 54: a bottle without a full set of verdicts follows the action, a slot still AWAITED too.
/-- A bottle at whose reject point the belt stands again, run back over half of P's range, camera 2 AWAITED. -/
def bottleAwaited : Bottle := bottle 23 0 ⟨.pass 1 0 5, .awaited, .pass 1 0 5, .pass 1 0 5⟩
theorem witness_HeadIsDecidedAtRejectPoint_awaited :
    let s := runs 8392206 [bottleAwaited] hall
    s.tracker.running = true ∧ s.tracker.params = some track ∧
    (bottleAwaited.misses track (s.tracker.pos + 1)).reached track (s.tracker.pos + 1) ∧
    (bottleAwaited.misses track (s.tracker.pos + 1)).cams.get .c2 = .awaited := by
  refine ⟨rfl, rfl, ?_, ?_⟩ <;> (try unfold Bottle.reached) <;> decide +kernel
theorem test_awaited_head_follows_the_action :
    (let t := (after (.encoderPulse .forward) (runs 8392206 [bottleAwaited] hall)).tracker
     (t.queue, t.counters.rejected, t.counters.passed)) = ([], 1, 0) := by decide +kernel

/-- The first premises of a shot that is taken. -/
def shoots (c : Cam) (s : State) : Prop :=
  s.tracker.running = true ∧ (s.tracker.cameras.get c).fitted = true ∧
  s.tracker.lastDir = .forward ∧ s.tracker.params = some track
theorem witness_LeadShotOpensBouncesOrOverruns_bounce :
    let s := runs 16777299 [bottle0] hall
    shoots .c1 s ∧ s.tracker.queue.getLast? = some bottle0 ∧
    (posDelta s.tracker.pos bottle0.p0).natAbs < track.pitch / 2 := by unfold shoots; decide +kernel
theorem witness_LeadShotOpensBouncesOrOverruns_opens :
    let s := runs 84 (List.replicate 63 bottle0) hall
    shoots .c1 s ∧ s.tracker.queue.length < 64 ∧
    ∀ b, s.tracker.queue.getLast? = some b →
      track.pitch / 2 ≤ (posDelta s.tracker.pos b.p0).natAbs := by
  refine ⟨by unfold shoots; decide +kernel, by decide +kernel, fun b h => ?_⟩
  obtain rfl : bottle0 = b := Option.some.inj h
  decide +kernel
theorem witness_LeadShotOpensBouncesOrOverruns_overruns :
    let s := runs 84 (List.replicate 63 bottle0 ++ [bottle0]) hall
    shoots .c1 s ∧ s.tracker.queue = List.replicate 63 bottle0 ++ [bottle0] ∧
    64 ≤ s.tracker.queue.length := by unfold shoots; decide +kernel
theorem witness_CameraShotMatchesOldestOrStrays_ignored :
    hall.tracker.running = false ∧
    (let s := withTracker (fun t => { t with lastDir := .reverse }) (runs 0 [] hall)
     s.tracker.running = true ∧ (s.tracker.cameras.get .c2).fitted = true ∧
     s.tracker.lastDir = .reverse) := by decide +kernel
theorem witness_CameraShotMatchesOldestOrStrays_matches :
    let s := runs 1144 [bottle0] hall
    shoots .c2 s ∧ (s.tracker.cameras.get .c2).online = true ∧
    s.tracker.queue = [] ++ bottle0 :: [] ∧ bottle0.cams.get .c2 = .awaited ∧
    (posDelta s.tracker.pos (posAdd bottle0.p0 (track.camOffset .c2))).natAbs ≤ track.window := by
  unfold shoots; decide +kernel
theorem witness_CameraShotMatchesOldestOrStrays_strays :
    let s := runs 1145 [bottle0] hall
    shoots .c2 s ∧ (s.tracker.cameras.get .c2).online = true ∧
    ∀ b ∈ s.tracker.queue, ¬ (b.cams.get .c2 = .awaited ∧
      (posDelta s.tracker.pos (posAdd b.p0 (track.camOffset .c2))).natAbs ≤ track.window) := by
  unfold shoots; decide +kernel
theorem witness_CameraNoticesSetOnlineFlags :
    let s := (runs 0 [bottle0] hall).setMail { hall.mail with cameras := [.loss .p6] }
    let u := (runs 0 [bottle0] hall).setMail { hall.mail with cameras := [.back .p6] }
    s.mail.cameras = .loss .p6 :: [] ∧ u.mail.cameras = .back .p6 :: [] := by decide +kernel

theorem witness_TrackStartAndStop_starts :
    let s := params [16, 8, 1048576, 0, 0, 1048584, 16, 2] hall
    s.takes .s0 ∧ s.loader.condition ≠ .safe ∧ s.loader.load = none ∧ s.tracker.running = false ∧
    s.tracker.cameras.c1.fitted = true ∧ s.paramBits .s0 7 0 2 = 2 ∧ 16 ≤ s.paramWord .s0 0 ∧
    s.paramWord .s0 1 ≠ 0 ∧ s.paramWord .s0 2 ≤ 1048576 ∧ s.paramWord .s0 3 ≤ 1048576 ∧
    s.paramWord .s0 4 ≤ 1048576 ∧ s.paramWord .s0 6 ≤ s.paramWord .s0 0 ∧
    s.paramWord .s0 5 ≤ 4194304 ∧
    s.paramWord .s0 2 + min (s.paramWord .s0 1) (s.paramWord .s0 0 / 2 - 1) < s.paramWord .s0 5 := by
  unfold State.takes; decide +kernel
theorem witness_TrackStartAndStop_refused :
    (safe.takes .s0 ∧ safe.loader.condition = .safe) ∧
    (let s := params [16, 8, 0, 0, 0, 8, 17, 1] hall
     s.takes .s0 ∧ s.loader.condition ≠ .safe ∧ s.tracker.running = false ∧
     ¬ s.paramWord .s0 6 ≤ s.paramWord .s0 0) := by unfold State.takes; decide +kernel
theorem witness_TrackStartAndStop_stops :
    let s := runs 0 [bottle0] hall
    s.takes .s0 ∧ s.loader.condition ≠ .safe ∧ s.tracker.running = true := by
  unfold State.takes; decide +kernel

/-- Tracking with slot 1 of bottle 0 as given, `n` shots of camera 1, and camera 4 not fitted. -/
def judged (c : CamSlot) (n : Nat) : State :=
  withTracker (fun t => { t with
      shots := { t.shots with c1 := BitVec.ofNat 16 n }
      cameras := { t.cameras with c4 := { t.cameras.c4 with fitted := false } } })
    (runs 0 [{ bottle0 with cams := { bottle0.cams with c1 := c } }] hall)
/-- CAMERA's record with words 0 and 1. -/
def verdict (w0 w1 : Nat) : Request := write 0x020000 .eight [w0, w1, 0, 0, 0, 0, 0, 0]
theorem verdict_rightful (w0 w1 : Nat) (c : CamSlot) (n : Nat) :
    Rightful .camera (verdict w0 w1) .verdicts (judged c n) ∧
      Rightful .camera (write 0x020001 .one [w1]) .verdicts (judged c n) := by
  refine ⟨rightful ?_, rightful ?_⟩
  · show rightly .camera (write 0x020000 .eight [0, 0, 0, 0, 0, 0, 0, 0]) .verdicts hall = true
    decide +kernel
  · show rightly .camera (write 0x020001 .one [0]) .verdicts hall = true
    decide +kernel
theorem witness_VerdictIsTakenBySlotState_passes :
    Rightful .camera (write 0x02FFFF .one [1]) .verdicts
      (hall.setMap { hall.map with entries := [region 5 0x020000 65536 1 4 1] }) ∧
    Rightful .camera (verdict 0 0) .verdicts hall ∧ hall.tracker.running = false :=
  ⟨rightful (by decide +kernel), rightful (by decide +kernel), by decide +kernel⟩
/-- The first reason of R133 for each word 0 of an 8-word write with all enables. -/
theorem witness_VerdictIsTakenBySlotState_malformed :
    let t := (judged (.shot 1) 1).tracker
    let cam (w : Nat) : Nat := ((BitVec.ofNat 32 w).extractLsb' 0 3).toNat
    let code (w : Nat) : BitVec 2 := (BitVec.ofNat 32 w).extractLsb' 4 2
    t.running = true ∧ (write 0x020001 .one [1]).len ≠ .eight ∧
    cam 0x717 = 7 ∧ cam 0x730 = 0 ∧ cam 0x735 = 5 ∧
    (cam 0x734 = Cam.c4.num ∧ (t.cameras.get .c4).fitted = false) ∧
    (cam 0x733 = Cam.c3.num ∧ (t.cameras.get .c3).fitted = true ∧ code 0x733 = 3 ∧ code 0x703 = 0) ∧
    (code 0x711 = 1 ∧ ((BitVec.ofNat 32 0x711).extractLsb' 8 3).toNat = 7) := by decide +kernel
theorem witness_VerdictIsTakenBySlotState_slots :
    ((BitVec.ofNat 32 0x611).extractLsb' 0 3).toNat = Cam.c1.num ∧
    ((BitVec.ofNat 32 0x611).extractLsb' 8 3).toNat = 6 ∧
    (∀ c ∈ [CamSlot.shot 1, .pass 1 0 5, .reject 1 9 5, .noVerdict (some 1)],
      ((judged c 1).tracker.queue.map fun b => b.cams.c1.number) = [some 1]) ∧
    (∀ b ∈ (judged .awaited 1).tracker.queue, b.cams.c1.number ≠ some 1) ∧
    ((judged .awaited 256).tracker.shots.c1 - 1).toInt = 255 ∧
    ((judged .awaited 257).tracker.shots.c1 - 1).toInt = 256 ∧
    ((judged .awaited 0).tracker.shots.c1 - 1).toInt = -1 := by decide +kernel
/-- The kinds of the reports raised by a verdict. -/
def verdictReports (q : Request) (s : State) : List (Option MalformedReason × Nat) :=
  (after (.requestArrival .camera q) s).staging.map fun e => match e.body with
    | .record (.verdictMalformed r ..) _ => (some r, 0)
    | .record (.verdictDuplicate _ _ _ _ _ _ _ agree) _ => (none, if agree then 1 else 2)
    | .record (.verdictLate _ _ _ _ bottle _) _ => (none, if bottle.isSome then 3 else 4)
    | .record (.verdictUnknown ..) _ => (none, 5)
    | _ => (none, 6)
-- R133: the reasons in the order listed.
theorem test_malformed_verdicts :
    let s := judged (.shot 1) 1
    (verdictReports (write 0x020001 .one [1]) s = [(some .shape, 0)]) ∧
    (verdictReports { verdict 0x735 1 with words := List.replicate 8 ⟨0x735, 7⟩ } s =
      [(some .enables, 0)]) ∧
    (verdictReports (verdict 0x735 1) s = [(some .camera, 0)]) ∧
    (verdictReports (verdict 0x734 1) s = [(some .notFitted, 0)]) ∧
    (verdictReports (verdict 0x733 1) s = [(some .verdictCode, 0)]) ∧
    (verdictReports (verdict 0x711 1) s = [(some .filler, 0)]) := by decide +kernel
-- spec/09 section 9.2: taken, duplicate, late with its slot, late without, unknown.
theorem test_verdicts_by_slot :
    ((after (.requestArrival .camera (verdict 0x611 0x90001)) (judged (.shot 1) 1)).tracker.queue.map
      fun b => b.cams.c1) = [.pass 1 9 6] ∧
    verdictReports (verdict 0x611 1) (judged (.pass 1 0 5) 1) = [(none, 1)] ∧
    verdictReports (verdict 0x611 1) (judged (.reject 1 9 6) 1) = [(none, 2)] ∧
    verdictReports (verdict 0x611 1) (judged (.noVerdict (some 1)) 1) = [(none, 3)] ∧
    verdictReports (verdict 0x611 1) (judged .awaited 256) = [(none, 4)] ∧
    verdictReports (verdict 0x611 1) (judged .awaited 257) = [(none, 5)] ∧
    verdictReports (verdict 0x611 1) (judged .awaited 0) = [(none, 5)] := by decide +kernel

theorem witness_QueriesAnswerAndChangeNothing :
    let fields (s : State) := (layWords (robotFields s .r6)).length
    (params [8] hall).takes .s0 ∧ (params [8] hall).paramBits .s0 0 0 8 = SwPort.p8.num ∧
    (params [9] hall).paramBits .s0 0 0 8 = 9 ∧ (params [6] hall).paramBits .s0 0 0 8 = Robot.r6.num ∧
    (params [7] hall).paramBits .s0 0 0 8 = 7 ∧ 14 * pageField (opcodeWord 0x06 1) < fields hall ∧
    (params [0x3F03] hall).paramBits .s0 0 0 2 = 3 ∧ (params [0x3F03] hall).paramBits .s0 0 8 8 = 63 ∧
    (params [0x4003] hall).paramBits .s0 0 8 8 = 64 := by unfold State.takes; decide +kernel
theorem witness_QueriesAnswerAndChangeNothing_page :
    (layWords (switchFields hall .p8)).length ≤ 14 * pageField (opcodeWord 0x50 2) ∧
    (layWords (robotFields hall .r6)).length ≤ 14 * pageField (opcodeWord 0x06 2) ∧
    (layWords (summaryFields hall.tracker)).length ≤ 14 * pageField (opcodeWord 0x12 3) ∧
    (layWords (settingsFields hall.tracker)).length ≤ 14 * pageField (opcodeWord 0x12 3) ∧
    (layWords (entryFields none)).length ≤ 14 * pageField (opcodeWord 0x12 3) := by decide +kernel

theorem witness_KeyAndTheEndingsOfASession :
    let s := window .opened true hall
    let d := s.setWindow { s.window with deadline := some 0 }
    let l := s.setMail { s.mail with serviceLoss := [.p8] }
    (hall.window.key = false ∧ hall.window.state = .closed) ∧
    ((window .keyed true hall).window.key = true ∧ (window .keyed true hall).window.state = .keyed) ∧
    ((window .draining true hall).window.state = .draining) ∧
    (s.window.key = true ∧ s.window.state = .opened ∧ s.takes .s0 ∧ s.loader.condition ≠ .safe) ∧
    (d.window.state = .opened ∧ d.window.deadline = some 0 ∧ (d.clock.m - 0).toNat < 2 ^ 47) ∧
    l.mail.serviceLoss = .p8 :: [] := by unfold State.takes; decide +kernel

/-- KEYED with the parameters of a grant. -/
def keyed (ps : List Nat) : State := params ps (window .keyed true hall)
theorem witness_GrantOpensAndExtendMovesTheDeadline_grants :
    let s := keyed [3601, 0x4004, 0x207, 0x207, 0x207, 0x207]
    let gs : List Grant := List.replicate 4 ⟨7, true⟩
    let rs : PerRobot (Option RobotOutcome) := ⟨none, none, none, none, none, some .requested⟩
    (s.takes .s0 ∧ s.loader.condition ≠ .safe ∧ s.loader.load = none ∧ s.window.state = .keyed ∧
      s.paramWord .s0 0 ≠ 0 ∧ gs.length = s.paramBits .s0 1 0 8 ∧ gs.length ≤ 4 ∧
      (s.param .s0 1).getLsbD 8 = false ∧ (s.param .s0 1).getLsbD 15 = false) ∧
    (∀ (i : Nat) (g : Grant), gs[i]? = some g →
      g.region = s.paramBits .s0 (2 + i) 0 8 ∧ g.region ≤ 15 ∧
      s.paramBits .s0 (2 + i) 8 2 = (if g.rw = true then 2 else 1) ∧
      ∃ e, s.map.entries[g.region]? = some e ∧ e.enabled = true ∧
        RegionKind.ofCode? e.kindCode ≠ some .control) ∧
    (∀ r, rs.get r = if (s.param .s0 1).getLsbD (8 + r.num) then some .requested else none) := by
  refine ⟨by unfold State.takes; decide +kernel, fun i g h => ?_, fun r => ?_⟩
  · match i, h with
    | 0, h | 1, h | 2, h | 3, h =>
      obtain rfl : (⟨7, true⟩ : Grant) = g := Option.some.inj h
      exact ⟨by decide +kernel, by decide, by decide +kernel, region 1 0x400000 4194304 7 7 2, rfl, rfl,
        by decide⟩
    | i + 4, h => cases h
  · cases r <;> decide +kernel
theorem witness_GrantOpensAndExtendMovesTheDeadline_extends :
    let s := (window .opened true hall).setWindow
      { (window .opened true hall).window with deadline := some 1 }
    s.takes .s0 ∧ s.loader.condition ≠ .safe ∧ s.window.state = .opened ∧
    s.window.deadline = some 1 ∧ ¬ (s.clock.m - 1).toNat < 2 ^ 47 := by
  unfold State.takes; decide +kernel
/-- The second data word of a result. -/
def secondWord (b : EntryBody) : Option Word :=
  match b with
  | .result _ _ _ _ data => data.bind fun ws => ws[1]?
  | .record _ _ => none
/-- OPEN at its deadline, the expiry not yet taken. -/
def atDeadline : State :=
  (window .opened true hall).setWindow { (window .opened true hall).window with deadline := some 0 }
theorem witness_GrantOpensAndExtendMovesTheDeadline_at_the_deadline :
    atDeadline.takes .s0 ∧ atDeadline.loader.condition ≠ .safe ∧ atDeadline.window.state = .opened ∧
    atDeadline.window.deadline = some 0 ∧ (atDeadline.clock.m - 0).toNat < 2 ^ 47 ∧
    windowTimerDue atDeadline = true := by unfold State.takes; decide +kernel
-- R149: the extension taken first moves the deadline, and no expiry follows; the result is in ms.
theorem test_extend_at_the_deadline :
    (let t := after (.serviceExtend .s0 0) (params [5] atDeadline)
     (t.window.state, t.window.deadline, windowTimerDue t,
       t.staging.map fun e => secondWord e.body)) = (.opened, some 5000000, false, [some 5000]) := by decide +kernel
theorem witness_GrantOpensAndExtendMovesTheDeadline_refused :
    (safe.takes .s0 ∧ safe.loader.condition = .safe) ∧
    (let s := keyed [1, 5]
     s.takes .s0 ∧ s.window.state = .keyed ∧ s.window.state ≠ .opened ∧
     4 < s.paramBits .s0 1 0 8) := by unfold State.takes; decide +kernel
theorem witness_GrantOpensAndExtendMovesTheDeadline_bad_grants :
    let bad (ps : List Nat) :=
      (after (.serviceGrant .s0 0) (keyed ps)).staging.map fun e =>
        match e.body with | .result _ code _ _ _ => some code | .record _ _ => none
    (let s := (keyed [60, 1, 0x210]).setLoader { hall.loader with load := some .reload }
     s.takes .s0 ∧ s.loader.load ≠ none) ∧
    15 < (keyed [60, 1, 0x210]).paramBits .s0 2 0 8 ∧ (keyed [60, 1, 7]).paramBits .s0 2 8 2 ∉ [1, 2] ∧
    ((hall.map.entries[8]?).map RegionEntry.enabled) = some false ∧
    ((hall.map.entries[0]?).map fun e => RegionKind.ofCode? e.kindCode) = some (some .control) ∧
    (keyed [60, 0x100]).paramBits .s0 1 0 8 = 0 ∧ ((keyed [60, 0x100]).param .s0 1).getLsbD 8 = true ∧
    [bad [60, 1, 0x210], bad [60, 1, 7], bad [60, 1, 0x208], bad [60, 1, 0x200], bad [60, 0x100],
      bad [60, 0x8000]] = List.replicate 6 [some .refusedParam] := by
  unfold State.takes; decide +kernel

theorem witness_RobotReturnTakesTheRobotBack :
    let s := noticed [] [] [] [.giveBack .r2] (withRobot { filling with owner := .service } hall)
    let u := noticed [] [] [] [.giveBack .r2] (withRobot { filling with transferPending := true } hall)
    let v := noticed [] [] [] [.giveBack .r2] (withRobot filling hall)
    (s.mail.transfers = .giveBack .r2 :: [] ∧ (s.robots.table.get .r2).owner = .service) ∧
    (u.mail.transfers = .giveBack .r2 :: [] ∧ (u.robots.table.get .r2).owner = .line ∧
      (u.robots.table.get .r2).transferPending = true) ∧
    (v.mail.transfers = .giveBack .r2 :: [] ∧ (v.robots.table.get .r2).owner = .line ∧
      (v.robots.table.get .r2).transferPending = false) := by decide +kernel
theorem witness_RefusalAndAnswersReachTheWindow :
    let s := hall.setWindow { hall.window with state := .draining, refusal := true }
    let u := (setMasterPort .service (.held (read 0 .one)) s).setWindow
      { s.window with robotSet := s.window.robotSet.set .r2 (some .returnSent) }
    let v := hall.setMail { hall.mail with answers := [.pending .r2] }
    (s.window.refusal = true ∧ s.lanesTaken ∧ ∀ q, s.transit.ports.service ≠ .held q) ∧
    (u.lanesTaken ∧ u.transit.lanes.service = [] ∧ u.window.refusal = true ∧ u.transit.ports.service = .held (read 0 .one) ∧
      u.window.robotSet.get .r2 = some .returnSent) ∧
    v.mail.answers = .pending .r2 :: [] := by
  refine ⟨⟨rfl, free_lanes rfl, fun q h => ?_⟩, ⟨free_lanes rfl, rfl, rfl, rfl, rfl⟩, rfl⟩
  cases h
-- R153: with the refusal taken and nothing else outstanding the window settles.
theorem test_refusal_of_a_held_request_settles :
    (let t := after .serviceRefusal ((setMasterPort .service (.held (read 0 .one)) hall).setWindow
        { hall.window with state := .draining, refusal := true, key := true })
     (t.window.state, t.limiters.service.total)) = (.keyed, 1) := by decide +kernel
-- log 36: an answer found with its robot TAKEN leaves it so.
theorem test_answer_after_taken :
    (after .transferAnswer ((hall.setWindow { hall.window with
      state := .opened, robotSet := .all (some .taken) }).setMail
      { hall.mail with answers := [.pending .r2] })).window.robotSet.r2 = some .taken := by
  decide +kernel

theorem witness_KeepaliveIsArmedRestartedAndLapses :
    let s := atM 10000000 (hall.setKeepalive
      { state := .running, timeout := some 10000, last := 0, timer := some 0 })
    State.reset.loader.condition = .loading ∧ s.loader.condition ≠ .loading ∧
    s.keepalive.state = .running ∧ s.keepalive.timer = some 0 ∧ s.keepalive.timeout = some 10000 ∧
    10000 * 1000 ≤ (s.clock.m - 0).toNat ∧ s.takes .s0 ∧ (1 : Word) ≠ s.keepalive.last := by
  unfold State.takes; decide +kernel

/-- The writer at put and written `p` with take `t`. -/
def ring (p t : Nat) (losing : Bool) (s : State) : State :=
  s.setWriter { put := p, written := p, take := t, lost := 0, losing := losing }
theorem witness_ReportsAreTakenByTheRingTable_normal :
    let full_ := hall.setStaging (List.replicate 8 entry)
    let last := ring 478 0 false (hall.setStaging (List.replicate 7 entry))
    (hall.writer.losing = false ∧ hall.staging.length < 8 ∧
      2 ≤ freeSlots hall.map.ringCapacity hall.writer) ∧
    (last.writer.losing = false ∧ last.staging.length < 8 ∧
      freeSlots last.map.ringCapacity last.writer = 1) ∧
    (full_.writer.losing = false ∧ 8 ≤ full_.staging.length) ∧
    (let none_ := ring 479 0 false hall
     none_.writer.losing = false ∧ none_.staging.length < 8 ∧
      freeSlots none_.map.ringCapacity none_.writer = 0) := by decide +kernel
-- R164: in NORMAL lost becomes 1, whatever it was; without a free slot the model does the same (log 15).
theorem test_losing_begins_at_one :
    (let s := (ring 478 0 false hall).setWriter { (ring 478 0 false hall).writer with lost := 3 }
     let w := (raise (.timeSetLapsed 0) s).writer
     (w.put, w.lost, w.losing)) = (479, 1, true) ∧
    (let w := (raise (.timeSetLapsed 0) (ring 479 0 false hall)).writer
     (w.put, w.lost, w.losing)) = (479, 1, true) := by decide +kernel
theorem witness_ReportsAreTakenByTheRingTable_losing :
    let s := ring 477 0 true (hall.setStaging (List.replicate 6 entry))
    let u := ring 477 0 true (hall.setStaging (List.replicate 7 entry))
    (s.writer.losing = true ∧ 2 ≤ freeSlots s.map.ringCapacity s.writer ∧ s.staging.length ≤ 6) ∧
    (u.writer.losing = true ∧ ¬ (2 ≤ freeSlots u.map.ringCapacity u.writer ∧ u.staging.length ≤ 6)) := by
  decide +kernel
theorem witness_UnknownOpcodesAndOverrunsAreAnswered :
    unknownWf 0xFF = true ∧ hall.takes .s3 ∧
    commandOf .s3 0x60 = some (.reload .s3 0) ∧ hall.loader.condition ≠ .loading ∧
    ((setAwaiting .s3 true hall).slots.get .s3).awaiting = true ∧
    State.reset.loader.condition = .loading ∧ hall.lanesTaken :=
  ⟨by decide +kernel, by unfold State.takes; decide +kernel, by decide +kernel, by decide +kernel,
   by decide +kernel, rfl, free_lanes rfl⟩

/-- LINE's one-word write of the CONTROL page. -/
def page (o : Nat) (w : Nat) (e : BitVec 4) : Request :=
  { dir := .write, addr := BitVec.ofNat 24 (0xFFFF00 + o), len := .one, words := [⟨BitVec.ofNat 32 w, e⟩] }
theorem witness_UnknownOpcodesAndOverrunsAreAnswered_issues :
    Rightful .line (page 63 0x99 15) .control hall ∧ Rightful .line (page 63 0 15) .control hall ∧
    (hall.map.place (page 63 0x99 15).addr.toNat).offset = 16 * Slot.s3.num + 15 ∧
    opcodeField (BitVec.ofNat 32 0) = 0 ∧ commandOf .s3 0x99 = some (.unknownOpcode .s3 0x99) ∧
    hall.loader.condition ≠ .loading ∧
    Answered .s3 0x99 [] .unknown none hall (giveResult .s3 .unknown none (beginIssue .s3 0x99 hall)) :=
  ⟨rightful (by decide +kernel), rightful (by decide +kernel), by decide +kernel, rfl, by decide,
   by decide +kernel, rfl, rfl, rfl⟩
theorem witness_UnknownOpcodesAndOverrunsAreAnswered_words :
    (Rightful .line (page 64 5 15) .control hall ∧ Rightful .line (page 65 5 15) .control hall) ∧
    (Rightful .line (page 61 5 6) .control hall ∧
      (hall.map.place (page 61 5 6).addr.toNat).offset = 16 * Slot.s3.num + 13) ∧
    Rightful .line (page 66 5 15) .control hall ∧ Rightful .line (page 62 5 15) .control hall ∧
    Rightful .line (page 63 5 14) .control hall :=
  ⟨⟨rightful (by decide +kernel), rightful (by decide +kernel)⟩,
   ⟨rightful (by decide +kernel), by decide +kernel⟩, rightful (by decide +kernel),
   rightful (by decide +kernel), rightful (by decide +kernel)⟩
/-- A burst over the end of slot 3: parameters 8 to 13, the result word and an opcode. -/
def pageBurst : Request := write 0xFFFF38 .eight [1, 2, 3, 4, 5, 6, 7, 0x99]
theorem witness_UnknownOpcodesAndOverrunsAreAnswered_burst :
    Rightful .line pageBurst .control hall ∧ pageBurst.len ≠ .one ∧
    (∀ i, i < pageBurst.words.length → hall.map.place (pageBurst.addr.toNat + i) =
      { hall.map.place pageBurst.addr.toNat with
        offset := (hall.map.place pageBurst.addr.toNat).offset + i }) ∧
    (Rightful .line pageBurst .control State.reset ∧ State.reset.loader.condition = .loading) :=
  ⟨rightful (by decide +kernel), by decide, by decide +kernel, rightful (by decide +kernel), rfl⟩
-- R158, R159: enabled bytes are copied; a burst issues nothing; a one-word write of word 15 issues.
theorem test_control_page_writes :
    (after (.requestArrival .line (page 61 0xAABBCCDD 6)) hall).slots.s3.params.getD 13 0 = 0x00BBCC00 ∧
    (let t := after (.requestArrival .line pageBurst) hall
     (t.slots.s3.params.getD 13 0, t.slots.s3.awaiting, t.staging)) = (6, false, []) ∧
    (let t := after (.requestArrival .line (page 63 0x99 15)) hall
     (t.slots.s3.awaiting, t.slots.s3.issues, t.staging.map StagingEntry.addr)) =
      (true, 1, [0xFFFF30]) := by decide +kernel
theorem test_issue_count_wraps :
    (after (.unknownOpcode .s3 0x99) (hall.setSlots { hall.slots with
      s3 := { hall.slots.s3 with issues := 65535 } })).slots.s3.issues = 0 := by decide +kernel

theorem witness_ReloadIsBarredOrResetsTheBlocks_barred :
    let s := withRobot filling hall
    s.takes .s0 ∧ (s.robots.table.get .r2).state ∈ [.ordered, .filling] := by
  unfold State.takes; decide +kernel
theorem witness_ReloadIsBarredOrResetsTheBlocks_load_end :
    storeWf (some smallStore) = true ∧ storeWf none = true ∧ hall.loader.load = none ∧
    hall.lanesTaken ∧ State.reset.loader.load ≠ none ∧ State.reset.lanesTaken ∧
    (∀ m q, State.reset.transit.ports.get m ≠ .held q) ∧ storeGood (some smallStore) = true :=
  ⟨by decide +kernel, rfl, rfl, free_lanes rfl, by decide, free_lanes rfl,
   fun m q => by cases m <;> exact fun h => (by cases h), by decide +kernel⟩
theorem witness_ReloadIsBarredOrResetsTheBlocks_accepted :
    safe.lanesTaken ∧ safe.takes .s0 ∧ ¬ (safe.loader.load ≠ none ∨ safe.tracker.running = true ∨
      safe.window.state ∈ [.opened, .draining] ∨
      ∃ r, (safe.robots.table.get r).state ∈ [.ordered, .filling]) ∧
    (∀ m q, safe.transit.ports.get m ≠ .held q) := by
  refine ⟨free_lanes rfl, by unfold State.takes; decide +kernel, ?_, fun m q => ?_⟩
  · rintro (h | h | h | ⟨r, h⟩)
    · exact h rfl
    · cases h
    · revert h; decide +kernel
    · revert h; cases r <;> decide +kernel
  · exact hall_holds_none m q
theorem witness_LoadEndDeliversTheStoreOrTheAnchor :
    storeWf (some smallStore) = true ∧ State.reset.loader.load = some .powerOn ∧
    (∀ m q, State.reset.transit.ports.get m ≠ .held q) ∧ storeGood (some smallStore) = true ∧
    State.reset.staging.length < 8 ∧ State.reset.lanesTaken := by
  refine ⟨by decide +kernel, rfl, fun m q => ?_, by decide +kernel, by decide, free_lanes rfl⟩
  cases m <;> exact fun h => by cases h
/-- A good store with groups 4 and 5: cameras 1 and 2 fitted, on ports 9 and 3; port 3 a CAMERA port. -/
def cameraStore : List (BitVec 16) :=
  [0x4636, 1, 64, 0x0500] ++ List.replicate 19 0 ++ [0x0003, 0x0039, 0x0400] ++
    List.replicate 37 0 ++ [0xB04D]
/-- LOADING with port 3 DOWN. -/
def portDown : State :=
  setPort .p3 { PortEntry.reset with linkUp := false } State.reset
theorem witness_LoadEndDeliversTheStoreOrTheAnchor_applied :
    storeWf (some cameraStore) = true ∧ portDown.loader.load = some .powerOn ∧
    (∀ m q, portDown.transit.ports.get m ≠ .held q) ∧ portDown.lanesTaken ∧
    storeGood (some cameraStore) = true ∧
    (storeWord cameraStore 3).extractLsb' (2 * 4) 2 = 1 ∧ groupEnd 4 < storeLength cameraStore - 1 ∧
    (storeWord cameraStore 3).extractLsb' (2 * 5) 2 = 1 ∧ groupEnd 5 < storeLength cameraStore - 1 := by
  refine ⟨by decide +kernel, rfl, fun m q => ?_, free_lanes rfl, by decide +kernel, by decide +kernel,
    by decide +kernel, by decide +kernel, by decide +kernel⟩
  cases m <;> exact fun h => by cases h
/-- A good store of 129 words with every group: CONTROL, REPORTS and a PLAIN region of weight 2; SWITCH paced;
camera 1 on port 6; robots 2 and 3 on port 5; a limit of 600 s and a duration of 3600 s. -/
def fullStore : List (BitVec 16) :=
  [0x4636, 1, 129, 0x5555, 0x0F0F] ++ [0x0101, 1, 0x8C10, 64, 0x0101, 1, 0x0101, 1, 0x0101, 1] ++
    [0x0550, 0, 100, 500, 20, 3, 10, 100] ++ [15, 6, 0x0203, 0x5043] ++ List.replicate 9 500 ++
    [600, 3600] ++ List.replicate 26 0 ++
    [0x8017, 0xFFFF, 0x0001, 0x0101, 0x8018, 0xFFF0, 0x000F, 0x0001, 0x8021, 0x4000, 0x4000, 0x0707] ++
    List.replicate 52 0 ++ [0x3FB0]
theorem witness_LoadEndDeliversTheStoreOrTheAnchor_every_group :
    storeWf (some fullStore) = true ∧ storeGood (some fullStore) = true ∧
    ∀ g, g < 8 → (storeWord fullStore 3).extractLsb' (2 * g) 2 = 1 ∧
      groupEnd g < storeLength fullStore - 1 := by decide +kernel
-- R28, R35, R60, R81, R156: what such a store delivers.
theorem test_load_end_delivers_every_group :
    (let t := after (.loadEnd true (some fullStore)) State.reset
     (t.loader.codes, t.map.openSpace, t.map.entries[2]?)) =
      (List.replicate 8 1, { read := 0b01111, write := 0b01111 },
       some (region 1 0x400000 4194304 7 7 2)) ∧
    (let t := after (.loadEnd true (some fullStore)) State.reset
     (t.pacing.switch.account, t.robots.settings.linkPort.r2, t.clock.holdoverLimit,
       t.window.maxDuration)) = (some { credit := 64, timer := 0 }, some .p5, 600, 3600) := by
  decide +kernel
/-- The full store with word i replaced and the checksum made good. -/
def changed (i : Nat) (w : BitVec 16) : List (BitVec 16) :=
  (fullStore.set i w).set 128 (0x3FB0 + fullStore.getD i 0 - w)
theorem witness_LoadEndDeliversTheStoreOrTheAnchor_settled :
    storeWf (some (changed 72 0x8051)) = true ∧ storeGood (some (changed 72 0x8051)) = true ∧
    storeGood (some (changed 68 0x0018)) = true ∧
    (changed 72 0x8051).getD 3 0 = 0x5555 ∧ (changed 68 0x0018).getD 3 0 = 0x5555 := by decide +kernel
-- R28, R29: weight 5 disables an entry with its other fields as stored; a map without REPORTS is set aside,
-- LINE is added to the readers of CONTROL. R45: Q 0 is taken as 1. Each sets ADJUSTED; fullStore sets none.
theorem test_load_end_settles :
    (let t := after (.loadEnd true (some fullStore)) State.reset
     (t.loader.adjusted, t.map.entries.countP RegionEntry.enabled)) = (false, 3) ∧
    (let t := after (.loadEnd true (some (changed 72 0x8051))) State.reset
     (t.loader.adjusted, t.map.entries[2]?)) =
      (true, some { region 1 0x400000 4194304 7 7 5 with enabled := false }) ∧
    (let t := after (.loadEnd true (some (changed 68 0x0018))) State.reset
     (t.loader.adjusted, t.map.entries)) = (true, RegionMap.anchor.entries) ∧
    (let t := after (.loadEnd true (some (changed 67 0x0102))) State.reset
     (t.loader.adjusted, (t.map.entries[0]?).map RegionEntry.readRights)) = (true, some 0b00011) ∧
    (let t := after (.loadEnd true (some (changed 9 0x8200))) State.reset
     (t.loader.adjusted, t.pacing.camera.delivered)) =
      (true, { paced := true, a := 2, b := 0, q := 1, k := 1 }) := by decide +kernel
/-- A store of length 64 whose region group is coded 01. -/
def overlongStore : List (BitVec 16) := [0x4636, 1, 64, 1] ++ List.replicate 59 0 ++ [0xB988]
-- R166, log 26: ADJUSTED of a group that is too long, and of no settlement where the self-check failed.
theorem test_load_end_adjusted :
    (after (.loadEnd true (some overlongStore)) State.reset).loader.adjusted = true ∧
    (after (.loadEnd false (some overlongStore)) State.reset).loader.adjusted = true ∧
    (after (.loadEnd false (some (changed 72 0x8051))) State.reset).loader.adjusted = false ∧
    (after (.loadEnd true none) State.reset).loader.adjusted = false := by decide +kernel
-- R60, R66: a holdover limit that has passed is judged at the end of the load; T, M, f and c stand.
theorem test_load_end_judges_holdover :
    (let s := State.reset.setClock { State.reset.clock with
        state := .holdover, m := 10000000, t := 77, f := 3, c := 3, holdoverStart := some ⟨0, false⟩ }
     let t := after (.loadEnd true (some (changed 36 10))) s
     (t.clock, t.window)) =
      ({ State.reset.clock with
          state := .drifting, m := 10000000, t := 77, f := 3, c := 3, holdoverStart := some ⟨0, false⟩
          holdoverLimit := 10 }, { State.reset.window with maxDuration := 3600 }) := by decide +kernel
/-- A RELOAD's load runs at M = 600 ms, the switch ALIVE since `alive`, robot 1 READY, heard at `heard`. -/
def reloading (alive heard : Micros) : State :=
  let s := atM 600000 hall
  let t := s.setSwitch { s.switch with state := .alive, timer := some alive, timeout := 5000 }
  (setRobot .r1 { robot .ready with heartbeatTimer := some heard } t).setLoader
    { t.loader with load := some .reload }
theorem witness_LoadEndDeliversTheStoreOrTheAnchor_no_timer_past :
    let s := reloading 100001 500001
    s.loader.load = some .reload ∧ s.lanesTaken ∧ (∀ m q, s.transit.ports.get m ≠ .held q) ∧
    s.clock.state ≠ .holdover ∧ s.switch.timer = some 100001 ∧
    ¬ (500 * 1000 ≤ (s.clock.m - 100001).toNat) ∧
    (s.robots.table.get .r1).heartbeatTimer = some 500001 ∧
    ¬ (100 * 1000 ≤ (s.clock.m - 500001).toNat) ∧ (s.robots.table.get .r2).heartbeatTimer = none :=
  ⟨rfl, free_lanes rfl, hall_holds_none, by decide +kernel, rfl, by decide +kernel, rfl,
   by decide +kernel, rfl⟩
theorem witness_LoadEndDeliversTheStoreOrTheAnchor_timers_past :
    let s := reloading 100000 500000
    s.switch.state = .alive ∧ 500 * 1000 ≤ (s.clock.m - 100000).toNat ∧
    (s.robots.table.get .r1).state ∉ [.offline, .silent, .faulted] ∧
    100 * 1000 ≤ (s.clock.m - 500000).toNat := by decide +kernel
-- R67, R81, in a load that ends in SAFE with the default timeouts: timers that have not passed them go on and
-- START alone is raised; those that have, expire.
theorem test_load_end_judges_the_timers :
    (let t := after (.loadEnd true none) (reloading 100001 500001)
     (t.switch.state, t.switch.timer, t.robots.table.r1.state, t.mail, t.staging.length)) =
      (.alive, some 100001, .ready, hall.mail, 1) ∧
    (let t := after (.loadEnd true none) (reloading 100000 500000)
     (t.switch.state, t.switch.timer, t.robots.table.r1.state, t.mail.clock, t.staging.length)) =
      (.silent, none, .silent, [.silent], 3) := by decide +kernel
theorem witness_LoadEndDeliversTheStoreOrTheAnchor_held :
    let s := reloading 100001 500001
    let u := after (.loadEnd true none) s
    s.transit.ports.get .service = .empty ∧ (read 0x400000 .two).wf = true ∧
    (read 0x400000 .two).addr.toNat % (read 0x400000 .two).len.words = 0 ∧
    exec (.loadEnd true none) s = .next u ∧
    (u.map.place 0x400000).region = (u.map.place (0x400000 + 2 - 1)).region :=
  ⟨rfl, by decide +kernel, by decide +kernel, rfl, by decide +kernel⟩
-- R47: a HELD request is looked up in the new map, whose open space SERVICE may not read.
theorem test_load_end_denies_a_held_request :
    (let t := after (.loadEnd true none)
       (setMasterPort .service (.held (read 0x400000 .two)) (reloading 100001 500001))
     (t.transit.ports.service, t.transit.completions.service, t.limiters.service.total)) =
      (.empty, some { status := .denied, data := [0, 0] }, 1) := by decide +kernel
-- R117: port 9 is taken as 0 and such a camera is online; camera 2's port is out of service.
theorem test_load_end_places_the_cameras :
    (let t := (after (.loadEnd true (some cameraStore)) portDown).tracker.cameras
     (t.c1, t.c2, t.c3.fitted)) =
      ({ fitted := true, port := none, online := true },
       { fitted := true, port := some .p3, online := false }, false) := by decide +kernel
theorem witness_ReloadIsBarredOrResetsTheBlocks_held :
    hall.transit.ports.get .switch = .empty ∧ burst.wf = true ∧ burst.addr.toNat % burst.len.words = 0 ∧
    exec (.reload .s0 0) hall = .next (after (.reload .s0 0) hall) ∧
    (let u := after (.reload .s0 0) hall
     (u.map.place burst.addr.toNat).region = (u.map.place (burst.addr.toNat + burst.len.words - 1)).region) :=
  ⟨rfl, by decide +kernel, by decide +kernel, rfl, by decide +kernel⟩
theorem witness_CabinetResetAndPowerOn_held :
    hall.transit.ports.get .switch = .empty ∧
    exec .cabinetReset hall = .next (after .cabinetReset hall) ∧
    (let u := after .cabinetReset hall
     (u.map.place burst.addr.toNat).region = (u.map.place (burst.addr.toNat + burst.len.words - 1)).region) :=
  ⟨rfl, rfl, by decide +kernel⟩
-- R46, R47: the account is full again, so that a request HELD in debt is admitted, charged 16 beats of 64.
theorem test_resets_admit_a_held_request :
    (let s := setMasterPort .switch (.held burst) (atM 30 (paced (-16) hall))
     let d : PaceSetting := { paced := true, a := 4, b := 1, q := 16, k := 64 }
     let s := s.setPacing { s.pacing with switch := { s.pacing.switch with delivered := d } }
     let t := after .cabinetReset s
     let u := after (.reload .s0 0) s
     (t.pacing.switch.account, t.transit.memPort, u.pacing.switch.account, u.transit.memPort)) =
      (some { credit := 48, timer := 30 }, .master .switch, some { credit := 48, timer := 30 },
        .master .switch) := by decide +kernel
-- R168, log 55: the slot is FREE, its copy 0, its issue count and its opcode word kept.
theorem test_cabinet_reset_keeps_the_word_at_issue :
    (let s := after (.robotArm .s0 0x33) (params [2] hall)
     let c := (after .cabinetReset s).slots.s0
     (c.awaiting, c.params, c.issues, c.issued)) =
      (false, List.replicate 14 0, 1, opcodeWord 0x01 0x33) := by decide +kernel
theorem witness_CabinetResetAndPowerOn :
    (∀ m q, State.reset.transit.ports.get m ≠ .held q) ∧ 3 ≤ State.reset.map.ringCapacity ∧
    State.reset.lanesTaken ∧ hall.lanesTaken ∧ (∀ m, hall.transit.lanes.get m = []) ∧
    (∀ r ∈ [burst, burst], r.wf = true) ∧
    State.reset.loader.condition = .loading ∧ (∀ m q, hall.transit.ports.get m ≠ .held q) ∧
    3 ≤ hall.map.ringCapacity ∧ ¬ hall.loader.condition = .loading := by
  refine ⟨fun m q => ?_, by decide +kernel, free_lanes rfl, free_lanes rfl, fun m => by cases m <;> rfl,
    by decide +kernel, rfl, hall_holds_none, by decide +kernel, by decide +kernel⟩
  cases m <;> exact fun h => by cases h
-- spec/01 section 1.8: a request that waits on a lane at power-on is taken as the ports are EMPTY.
theorem test_power_on_takes_the_lanes :
    (let t := after (.powerOn true) (hall.setTransit
        { hall.transit with lanes := hall.transit.lanes.set .line [read 0 .one] })
     (t.transit.lanes.line, t.transit.memPort)) = ([], .master .line) := by decide +kernel
theorem witness_OutputLinesFollowTheState :
    let s := ring 479 478 false hall
    s.writer.written < s.map.ringCapacity ∧ s.writer.take < s.map.ringCapacity := by decide +kernel
/-- RUNNING at 10,000 with the gate ACTIVE until 10,300. -/
def gated : State := withTracker (fun t => { t with gateActive := true, offPos := 10300 }) (runs 10000 [] hall)
theorem witness_OutputLinesFollowTheState_gate : TrackerInv gated ∧ gateLine gated = true ∧
    gateLine hall = false ∧ gateLine (after (.encoderPulse .forward)
      (withTracker (fun t => { t with pos := 10299 }) gated)) = false :=
  ⟨⟨by decide, fun i b h => (by cases h), rfl, fun h => (by cases h), fun _ => ⟨rfl, rfl⟩,
    fun h => (by cases h), fun _ => ⟨track, rfl, by decide +kernel⟩⟩, rfl, rfl, by decide +kernel⟩
theorem witness_TrafficInvariantIsKept :
    TrafficInv hall ∧ step hall = .next (tick hall) := by
  refine ⟨⟨fun m => ⟨fun ⟨x, h⟩ => ?_, fun h => ?_⟩, fun h => ?_, fun _ => ⟨rfl, fun m x => ?_⟩,
    by decide, fun n h => ?_, free_lanes rfl⟩, rfl⟩
  · cases m <;> cases h
  · cases h
  · cases h
  · cases m <;> exact fun h => by cases h
  · cases n <;> exact absurd rfl h
theorem witness_TrackerInvariantIsKept : TrackerInv hall ∧ step hall = .next (tick hall) :=
  ⟨⟨by decide, fun i b h => (by cases h), rfl, fun _ => ⟨rfl, rfl⟩, fun h => (by cases h),
    fun h => (by cases h), fun h => (by cases h)⟩, rfl⟩
/-- No two enabled entries of the map of section 2.5.1 are of one kind. -/
theorem hall_kinds : hall.map.entries.Pairwise fun a b =>
    ¬ (a.enabled = true ∧ b.enabled = true ∧ RegionKind.ofCode? a.kindCode = RegionKind.ofCode? b.kindCode) := by
  decide +kernel
theorem hall_single (i j : Nat) (a b : RegionEntry) (k : RegionKind)
    (ha : hall.map.entries[i]? = some a) (hb : hall.map.entries[j]? = some b) (ea : a.enabled = true)
    (eb : b.enabled = true) (ka : RegionKind.ofCode? a.kindCode = some k)
    (kb : RegionKind.ofCode? b.kindCode = some k) : i = j := by
  obtain ⟨hi, rfl⟩ := List.getElem?_eq_some_iff.mp ha
  obtain ⟨hj, rfl⟩ := List.getElem?_eq_some_iff.mp hb
  have h := List.pairwise_iff_getElem.mp hall_kinds
  rcases Nat.lt_trichotomy i j with l | l | l
  · exact absurd ⟨ea, eb, ka.trans kb.symm⟩ (h i j hi hj l)
  · exact l
  · exact absurd ⟨eb, ea, kb.trans ka.symm⟩ (h j i hj hi l)
theorem witness_MapAndPacingInvariantsAreKept :
    MapInv hall ∧ PacingInv (paced (-32) hall) ∧ MapInv (paced (-32) hall) ∧
    step hall = .next (tick hall) := by
  have h : MapInv hall := ⟨by decide, by decide +kernel, by decide +kernel,
    fun i j a b k ha hb ea eb _ ka kb => hall_single i j a b k ha hb ea eb ka kb,
    ⟨region 7 0xFFFF00 256 1 1 1, by decide +kernel, rfl, rfl⟩,
    ⟨region 8 0xFFF000 3840 1 0 1, by decide +kernel, by decide⟩⟩
  refine ⟨h, ⟨fun m => ?_, fun m => ?_, fun m p hp => ?_, fun m => ?_, fun m a ha => ?_⟩,
    ⟨h.sixteen, h.valid, h.apart, h.single, h.control, h.reports⟩, rfl⟩
  · cases m <;> (unfold PaceSetting.inRange; decide +kernel)
  · cases m <;> (unfold PaceSetting.inRange; decide +kernel)
  · cases m <;> cases hp
  · cases m <;> rfl
  · cases m
    case switch =>
      obtain rfl : ({ credit := -32, timer := 0 } : Account) = a := Option.some.inj ha
      decide +kernel
    all_goals cases ha
theorem hall_owns : OwnershipInv hall :=
  ⟨fun r _ => ⟨by cases r <;> rfl, by cases r <;> exact ⟨rfl, rfl⟩⟩,
   fun r h => absurd h.1 (by decide +kernel), fun r h => absurd h.1 (by decide +kernel)⟩
theorem witness_RobotsInvariantIsKept :
    RobotsInv hall ∧ OwnershipInv hall ∧ step hall = .next (tick hall) := by
  refine ⟨⟨fun r => ?_, by decide, by decide⟩, hall_owns, rfl⟩
  have h : RobotEntry.Inv RobotEntry.reset := ⟨by decide, by decide, by decide, by decide,
    fun _ => rfl, by decide, by decide, by decide, by decide, by decide, by decide, by decide, by decide,
    fun h => (by cases h), fun o h => (by cases h), by decide⟩
  cases r <;> exact h
theorem witness_ClockAndWindowInvariantsAreKept :
    ClockInv hall ∧ WindowInv (window .opened true hall |>.setWindow
      { (window .opened true hall).window with deadline := some 9 }) ∧
    step hall = .next (tick hall) :=
  ⟨⟨by decide, by decide, by decide, by decide, by decide, by decide, by decide, by decide,
    fun p h => (by cases h), by decide⟩,
   ⟨fun h => (by cases h), fun h => (by cases h), fun _ => rfl, by decide +kernel, by decide +kernel,
    fun h => absurd (by decide +kernel) h, by decide +kernel, fun _ => ⟨rfl, rfl⟩, by decide +kernel⟩, rfl⟩

end Sys2Proof.Tests
end

/-!
What a denial does to its master's limiter (R30, R31), by the limiter's mode.
-/
namespace Sys2Proof.Machine

/-- Replacing a limiter commutes with raising a report: the Report Writer reads no limiter. -/
theorem raise_setLimiter (r : Report) (m : Master) (l : Limiter) (s : State) :
    raise r (setLimiter m l s) =
      { s with limiters := s.limiters.set m l
               staging := (raise r s).staging
               writer := (raise r s).writer } := by
  obtain ⟨hstaging, hwriter⟩ := raise_congr r s (setLimiter m l s) rfl rfl rfl rfl
  rw [raise_frame, hstaging, hwriter]
  rfl

theorem countDenial_of_quiet (m : Master) (p : Particulars) (s : State)
    (h : (s.limiters.get m).mode = .quiet) :
    countDenial m p s =
      raise (limiterReport m p 1 (satAdd32 (s.limiters.get m).total 1) s.window)
        (setLimiter m { total := satAdd32 (s.limiters.get m).total 1
                        mode := .muted (s.now + limiterWindow) 0 none } s) := by
  simp only [countDenial, h]

theorem countDenial_of_muted (m : Master) (p : Particulars) (s : State) {e : Micros} {n : Nat}
    {held : Option Particulars} (h : (s.limiters.get m).mode = .muted e n held) :
    countDenial m p s =
      setLimiter m { total := satAdd32 (s.limiters.get m).total 1
                     mode := .muted e (satInc16 n) (some p) } s := by
  simp only [countDenial, h]

/-- Settles O10: in QUIET the report is taken as if the limiter stood, since the Report Writer reads
no limiter; in MUTED only the limiter is written. -/
theorem denialMeetsLimiter : Obligations.DenialMeetsLimiter := by
  intro m p s
  constructor
  case left =>
    intro hquiet
    rw [countDenial_of_quiet m p s hquiet, raise_setLimiter]
    rfl
  case right =>
    intro e n held hmuted
    rw [countDenial_of_muted m p s hmuted]
    rfl

end Sys2Proof.Machine

/-!
The quarantine limit L (R95): QUARANTINE_SET sets it, the reject credits are tested against it, and
no other event moves it but RELOAD, the end of a load, a cabinet reset and power-on.
-/
namespace Sys2Proof.Machine

/-! ### What QUARANTINE_SET answers -/

theorem runQuarantineSet_safe (n : Slot) (s : State) (h : s.loader.condition = .safe) :
    runQuarantineSet n s = refuse s .refusedState := by
  simp [runQuarantineSet, State.isSafe, h]

theorem runQuarantineSet_above (n : Slot) (s : State) (h : s.loader.condition ≠ .safe)
    (hl : 15 < s.paramBits n 0 0 8) : runQuarantineSet n s = refuse s .refusedParam := by
  simp [runQuarantineSet, State.isSafe, h, hl]

theorem runQuarantineSet_sets (n : Slot) (s : State) (h : s.loader.condition ≠ .safe)
    (hl : s.paramBits n 0 0 8 ≤ 15) :
    runQuarantineSet n s =
      { state := s.setRobots { s.robots with limit := s.paramBits n 0 0 8 }, code := .done,
        data := pageOne [byteOf s.robots.limit, byteOf (s.paramBits n 0 0 8)] } := by
  simp [runQuarantineSet, State.isSafe, h, Nat.not_lt.2 hl]

/-- Whatever its answer, QUARANTINE_SET leaves everything but L. -/
theorem runQuarantineSet_frame (n : Slot) (s : State) :
    (runQuarantineSet n s).state =
      s.setRobots { s.robots with limit := (runQuarantineSet n s).state.robots.limit } := by
  unfold runQuarantineSet
  dsimp only
  split_ifs <;> rfl

/-- The issue of a command leaves the parameters that it reads. -/
theorem beginIssue_paramBits (n : Slot) (word : Word) (i lo w : Nat) (s : State) :
    (beginIssue n word s).paramBits n i lo w = s.paramBits n i lo w := by
  simp [State.paramBits, State.param, beginIssue]

/-- QUARANTINE_SET in a FREE slot: the answer of its execution, and L as that leaves it. -/
theorem exec_quarantineSet_of_takes (n : Slot) (rest : BitVec 24) (s : State) (h : s.takes n) :
    let q := runQuarantineSet n (beginIssue n (opcodeWord 0x07 rest) s)
    ∃ t, exec (.quarantineSet n rest) s = .next t ∧ Arbitrated s.transit t ∧
      t = { s with robots := { s.robots with limit := t.robots.limit }, slots := t.slots
                   staging := t.staging, writer := t.writer, transit := t.transit } ∧
      Answered n (opcodeWord 0x07 rest) [] q.code q.data s t ∧
      t.robots.limit = q.state.robots.limit := by
  intro q
  have hexec : exec (.quarantineSet n rest) s =
      .next (arbitrate (giveResult n q.code q.data q.state)) :=
    congrArg finish (issueCommand_takes n _ (runQuarantineSet n) s h)
  obtain ⟨l, hstate⟩ : ∃ l, q.state = (beginIssue n (opcodeWord 0x07 rest) s).setRobots
      { s.robots with limit := l } := ⟨_, runQuarantineSet_frame n _⟩
  rw [hstate] at hexec ⊢
  obtain ⟨hstaging, hslots⟩ := giveResult_congr n q.code q.data
    (beginIssue n (opcodeWord 0x07 rest) s)
    ((beginIssue n (opcodeWord 0x07 rest) s).setRobots { s.robots with limit := l }) rfl rfl rfl
  refine ⟨_, hexec, ?_, ?_, ⟨hstaging, ?_, hslots⟩, ?_⟩
  · simp only [Arbitrated, arbitrate, State.setTransit_transit, State.setTransit_staging,
      giveResult_transit]
    rfl
  · rw [arbitrate_frame, giveResult_frame]
    rfl
  · simp [arbitrate, raiseAll, beginIssue]
  · simp [arbitrate]

/-! ### Reject credits (R94) -/

/-- A reject credit with L at 0, or with a run below L, moves no robot. -/
theorem rejectCredit_state_of_below (r : Robot) (s : State) (c : RobotChange)
    (h : s.robots.limit = 0 ∨ min (c.entry.run + 1) 15 < s.robots.limit) :
    (c.rejectCredit r s).entry.state = c.entry.state := by
  unfold RobotChange.rejectCredit
  split
  · rfl
  · unfold RobotChange.holdTest
    dsimp only [RobotChange.put]
    rw [if_pos h]

/-- A reject credit that takes the run of LINE's active robot to L or above holds it. -/
theorem rejectCredit_state_of_reached (r : Robot) (s : State) (c : RobotChange)
    (howner : c.entry.owner = .line) (hlimit : s.robots.limit ≠ 0)
    (hrun : s.robots.limit ≤ min (c.entry.run + 1) 15) (hactive : c.entry.state.active = true) :
    (c.rejectCredit r s).entry.state = .held := by
  have htest : ¬ (s.robots.limit = 0 ∨ min (c.entry.run + 1) 15 < s.robots.limit) := by omega
  unfold RobotChange.rejectCredit
  rw [howner]
  unfold RobotChange.holdTest
  dsimp only [RobotChange.put]
  rw [if_neg htest, if_pos hactive]
  simp [RobotChange.enter, RobotChange.move, RobotChange.settlePending, RobotChange.put,
    RobotChange.note, RobotEntry.entered]

/-- FILLER_CREDIT with a reject credit: the entry of the robot it names. -/
theorem fillerCredit_reject_entry {r : Robot} {cs : List Credit} {u t : State}
    (hm : u.mail.credits = .reject r :: cs) (h : exec .fillerCredit u = .next t) :
    t.robots.table.get r = (RobotChange.rejectCredit r u (u.robots.table.get r).begin).entry := by
  have ht : finish (creditEvent u) = .next t := h
  cases ht
  simp only [arbitrate, State.setTransit_robots, creditEvent, hm, changeRobot_robots,
    PerRobot.get_set_self]
  rfl

/-! ### Operations that keep L -/

/-- A request of LINE that its port HOLDS or that waits on its lane. -/
def State.lineAwaits (s : State) (q : Request) : Prop :=
  s.transit.ports.line = .held q ∨ q ∈ s.transit.lanes.line

/-- From `s` to `t` nothing touched L, the value that a reset gives it or the condition of the part,
and no request of LINE came to wait. -/
structure LimitKept (s t : State) : Prop where
  limit : t.robots.limit = s.robots.limit
  settings : t.robots.settings = s.robots.settings
  loader : t.loader = s.loader
  line : ∀ q, t.lineAwaits q → s.lineAwaits q

namespace LimitKept

theorem refl (s : State) : LimitKept s s := ⟨rfl, rfl, rfl, fun _ h => h⟩

theorem trans {s t u : State} (h : LimitKept s t) (g : LimitKept t u) : LimitKept s u :=
  ⟨g.limit.trans h.limit, g.settings.trans h.settings, g.loader.trans h.loader,
   fun q hq => h.line q (g.line q hq)⟩

/-- An operation that leaves the Robot Guard, the loader and the traffic. -/
theorem of_eq {s t : State} (hr : t.robots = s.robots) (hl : t.loader = s.loader)
    (ht : t.transit = s.transit) : LimitKept s t :=
  ⟨by rw [hr], by rw [hr], hl, fun q h => by unfold State.lineAwaits at *; rwa [ht] at h⟩

/-- An operation that puts a port into a state other than HELD. -/
theorem of_port {s t : State} (m : Master) (p : PortState) (hp : ∀ q, p ≠ .held q)
    (hr : t.robots = s.robots) (hl : t.loader = s.loader)
    (hports : t.transit.ports = s.transit.ports.set m p)
    (hlanes : t.transit.lanes = s.transit.lanes) : LimitKept s t := by
  refine ⟨by rw [hr], by rw [hr], hl, fun q h => ?_⟩
  unfold State.lineAwaits at *
  rw [hports, hlanes] at h
  cases m with
  | line => exact h.imp_left fun hq => absurd hq (hp q)
  | _ => exact h

theorem of_trackerOnly {s t : State} (h : TrackerOnly s t) : LimitKept s t := by
  unfold TrackerOnly at h
  exact .of_eq (by rw [h]) (by rw [h]) (by rw [h])

theorem of_windowOnly {s t : State} (h : WindowOnly s t) : LimitKept s t := by
  unfold WindowOnly at h
  exact .of_eq (by rw [h]) (by rw [h]) (by rw [h])

theorem ite {s a b : State} {c : Prop} [Decidable c] (ha : LimitKept s a) (hb : LimitKept s b) :
    LimitKept s (if c then a else b) := by
  split_ifs
  · exact ha
  · exact hb

theorem foldl {α : Type} {f : State → α → State} (hf : ∀ s a, LimitKept s (f s a)) (l : List α)
    (s : State) : LimitKept s (l.foldl f s) := by
  induction l generalizing s with
  | nil => exact .refl s
  | cons a l ih => exact (hf s a).trans (ih _)

/-! What follows an operation that keeps L. -/

theorem raise {s t : State} (h : LimitKept s t) (r : Report) : LimitKept s (raise r t) :=
  h.trans (.of_eq (by simp) (by simp) (by simp))

theorem raiseAll {s t : State} (h : LimitKept s t) (rs : List Report) :
    LimitKept s (raiseAll rs t) :=
  h.trans (.of_eq (by simp) (by simp) (by simp))

theorem setPort {s t : State} (h : LimitKept s t) (p : SwPort) (e : PortEntry) :
    LimitKept s (setPort p e t) := h.trans (.of_eq rfl rfl rfl)

theorem setClock {s t : State} (h : LimitKept s t) (x : Clock) : LimitKept s (t.setClock x) :=
  h.trans (.of_eq rfl rfl rfl)

theorem setSwitch {s t : State} (h : LimitKept s t) (x : SwitchWatch) :
    LimitKept s (t.setSwitch x) := h.trans (.of_eq rfl rfl rfl)

theorem setTracker {s t : State} (h : LimitKept s t) (x : Tracker) :
    LimitKept s (t.setTracker x) := h.trans (.of_eq rfl rfl rfl)

theorem setLimiter {s t : State} (h : LimitKept s t) (m : Master) (x : Limiter) :
    LimitKept s (setLimiter m x t) := h.trans (.of_eq rfl rfl rfl)

theorem setKeepalive {s t : State} (h : LimitKept s t) (x : Keepalive) :
    LimitKept s (t.setKeepalive x) := h.trans (.of_eq rfl rfl rfl)

theorem setWriter {s t : State} (h : LimitKept s t) (x : Writer) : LimitKept s (t.setWriter x) :=
  h.trans (.of_eq rfl rfl rfl)

theorem setPace {s t : State} (h : LimitKept s t) (m : Master) (x : Pace) :
    LimitKept s (setPace m x t) := h.trans (.of_eq rfl rfl rfl)

theorem setMail {s t : State} (h : LimitKept s t) (x : Mail) : LimitKept s (t.setMail x) :=
  h.trans (.of_eq rfl rfl rfl)

theorem setWin {s t : State} (h : LimitKept s t) (w : ServiceWindow) : LimitKept s (setWin w t) :=
  h.trans (.of_eq rfl rfl rfl)

theorem changeRobot {s t : State} (h : LimitKept s t) (r : Robot) (f : RobotChange → RobotChange) :
    LimitKept s (changeRobot r f t) := by
  have hc := changeRobot_only r f t
  unfold RobotsOnly at hc
  refine h.trans ⟨by rw [changeRobot_robots], by rw [changeRobot_robots], by rw [hc],
    fun q hq => ?_⟩
  rwa [State.lineAwaits, show (Machine.changeRobot r f t).transit = t.transit by rw [hc]] at hq

theorem setLapsed {s t : State} (h : LimitKept s t) (b : Bool) :
    LimitKept s (t.setRobots { t.robots with lapsed := b }) :=
  h.trans ⟨rfl, rfl, rfl, fun _ hq => hq⟩

theorem settleTest {s t : State} (h : LimitKept s t) : LimitKept s (settleTest t) :=
  h.trans (.of_windowOnly (settleTest_only t))

end LimitKept

/-! ### The Switch Watch and the Hall Clock -/

theorem sendLoss_limitKept (p : SwPort) (s : State) : LimitKept s (sendLoss p s) := by
  unfold sendLoss
  split <;> exact .of_eq rfl rfl rfl

theorem sendReturn_limitKept (p : SwPort) (s : State) : LimitKept s (sendReturn p s) := by
  unfold sendReturn
  split <;> exact .of_eq rfl rfl rfl

theorem sendForUpPorts_limitKept {send : SwPort → State → State}
    (h : ∀ p s, LimitKept s (send p s)) (s : State) : LimitKept s (sendForUpPorts send s) :=
  .foldl (fun s p => .ite (h p s) (.refl s)) allPorts s

theorem decodePortWord_limitKept (p : SwPort) (w : Word) (s : State) :
    LimitKept s (decodePortWord p w s) := by
  unfold decodePortWord
  extract_lets e count d e1 s1 s2 up e2 s3 r s4
  have counted : LimitKept s s1 := (LimitKept.refl s).setPort _ _
  have burst : LimitKept s s2 := .ite (counted.raise _) counted
  have linked : LimitKept s s3 := burst.setPort _ _
  have reported : LimitKept s r := .ite (linked.raise _) linked
  have noticed : LimitKept s s4 :=
    .ite (.ite reported (.ite (reported.trans (sendReturn_limitKept p r))
      (reported.trans (sendLoss_limitKept p r)))) linked
  exact noticed.setPort _ _

theorem decodeHeartbeat_limitKept (w : Word) (s : State) : LimitKept s (decodeHeartbeat w s) := by
  unfold decodeHeartbeat
  extract_lets sq before restart b after s1 mail s2
  have alive : LimitKept s s1 := .of_eq rfl rfl rfl
  have noticed : LimitKept s s2 :=
    .ite ((alive.setMail _).trans (sendForUpPorts_limitKept sendReturn_limitKept _)) alive
  exact .ite (.refl s) (.ite (noticed.raise _) noticed)

theorem decodeMailboxWord_limitKept (o : Nat) (w : WriteWord) (s : State) :
    LimitKept s (decodeMailboxWord o w s) := by
  unfold decodeMailboxWord
  refine .ite (.refl s) (.ite (.of_eq rfl rfl rfl) (.ite (decodeHeartbeat_limitKept _ s) ?_))
  split
  · exact decodePortWord_limitKept _ _ s
  · exact .refl s

theorem decodeMailbox_limitKept (o : Nat) (ws : List WriteWord) (s : State) :
    LimitKept s (decodeMailbox o ws s) := by
  induction ws generalizing o s with
  | nil => exact .refl s
  | cons w ws ih => exact (decodeMailboxWord_limitKept o w s).trans (ih _ _)

theorem switchTimeoutEvent_limitKept (s : State) : LimitKept s (switchTimeoutEvent s) := by
  have silent : LimitKept s (becomeSilent s) :=
    ((((LimitKept.refl s).setSwitch _).raise _).setMail _).trans
      (sendForUpPorts_limitKept sendLoss_limitKept _)
  exact .ite silent (.refl s)

theorem clearLatchesFrom_limitKept (o n : Nat) (s : State) :
    LimitKept s (clearLatchesFrom o n s) := by
  refine .foldl (fun s i => ?_) _ s
  split
  · exact (LimitKept.refl s).setPort _ _
  · exact .refl s

theorem hallPulseEvent_limitKept (s : State) : LimitKept s (hallPulseEvent s) := by
  have accepted : LimitKept s (acceptPulse s) := by
    unfold acceptPulse
    dsimp only
    split <;> exact ((LimitKept.refl s).setClock _).raiseAll _
  exact .ite (.of_eq rfl rfl rfl) (.ite (.of_eq rfl rfl rfl) accepted)

theorem enterHoldover_limitKept (c : TimeCause) (s : State) : LimitKept s (enterHoldover c s) :=
  ((LimitKept.refl s).setClock _).raise _

theorem pulseWatchEvent_limitKept (s : State) : LimitKept s (pulseWatchEvent s) :=
  .ite (enterHoldover_limitKept _ s) (.refl s)

theorem holdoverLimitEvent_limitKept (s : State) : LimitKept s (holdoverLimitEvent s) :=
  .ite (((LimitKept.refl s).setClock _).raise _) (.refl s)

theorem clockNoticeEvent_limitKept (s : State) : LimitKept s (clockNoticeEvent s) := by
  unfold clockNoticeEvent
  split
  · exact .refl s
  · exact ((LimitKept.refl s).setMail _).trans (.ite (enterHoldover_limitKept _ _) (.refl _))

theorem setLapsedEvent_limitKept (s : State) : LimitKept s (setLapsedEvent s) := by
  unfold setLapsedEvent
  split
  · exact .refl s
  · exact .ite (((LimitKept.refl s).setClock _).raise _) (.refl s)

/-! ### The Robot Guard -/

theorem enter_limitKept (r : Robot) (new : RobotState) (hold : Option HoldCause)
    (fault : Option FaultCause) (cause : RobotCause) (s : State) :
    LimitKept s (enter r new hold fault cause s) := (LimitKept.refl s).changeRobot _ _

theorem setRobot_limitKept (r : Robot) (e : RobotEntry) (s : State) :
    LimitKept s (setRobot r e s) := ⟨rfl, rfl, rfl, fun _ h => h⟩

theorem statusWrite_limitKept (m : Master) (o : Nat) (l : BurstLen) (ws : List WriteWord)
    (s : State) : LimitKept s (statusWrite m o l ws s) := by
  unfold statusWrite
  split
  · exact .refl s
  · exact .ite ((LimitKept.refl s).changeRobot _ _) (.refl s)

theorem passOrder_limitKept (r : Robot) (mode : OrderMode) (ws : List WriteWord) (s : State) :
    LimitKept s (passOrder r mode ws s) := by
  cases mode <;> exact (LimitKept.refl s).changeRobot _ _

theorem heartbeatTimeoutEvent_limitKept (r : Robot) (s : State) :
    LimitKept s (heartbeatTimeoutEvent r s) := .ite (enter_limitKept ..) (.refl s)

theorem pickupTimeoutEvent_limitKept (r : Robot) (s : State) :
    LimitKept s (pickupTimeoutEvent r s) := .ite (enter_limitKept ..) (.refl s)

theorem fillTimeoutEvent_limitKept (r : Robot) (s : State) :
    LimitKept s (fillTimeoutEvent r s) := .ite (enter_limitKept ..) (.refl s)

theorem linkNoticeEvent_limitKept (s : State) : LimitKept s (linkNoticeEvent s) := by
  unfold linkNoticeEvent
  split
  · exact .refl s
  · exact ((LimitKept.refl s).setMail _).trans
      (.foldl (fun u _ => .ite (enter_limitKept ..) (.refl u)) allRobots _)
  · exact (LimitKept.refl s).setMail _

theorem creditEvent_limitKept (s : State) : LimitKept s (creditEvent s) := by
  unfold creditEvent
  split
  · exact .refl s
  · exact ((LimitKept.refl s).setMail _).changeRobot _ _
  · exact ((LimitKept.refl s).setMail _).changeRobot _ _

theorem keepaliveNoticeEvent_limitKept (s : State) : LimitKept s (keepaliveNoticeEvent s) := by
  unfold keepaliveNoticeEvent
  split
  · exact .refl s
  · exact (((LimitKept.refl s).setMail _).setLapsed true).trans
      (.foldl (fun u _ => .ite (enter_limitKept ..) (.refl u)) allRobots _)
  · exact ((LimitKept.refl s).setMail _).setLapsed false

theorem transferRequestEvent_limitKept (s : State) : LimitKept s (transferRequestEvent s) := by
  unfold transferRequestEvent
  split
  · exact ((LimitKept.refl s).setMail _).changeRobot _ _
  · exact .refl s
  · exact .refl s

/-! ### The Service Window -/

theorem setOutcome_limitKept (r : Robot) (o : RobotOutcome) (s : State) :
    LimitKept s (setOutcome r o s) := by
  unfold setOutcome
  split
  · exact .refl s
  · exact (LimitKept.refl s).setWin _

theorem takeReturn_limitKept (r : Robot) (s : State) : LimitKept s (takeReturn r s) := by
  unfold takeReturn
  split
  · exact ((LimitKept.refl s).changeRobot _ _).trans (setOutcome_limitKept ..)
  · exact .ite ((setRobot_limitKept ..).trans (setOutcome_limitKept ..)) (.refl s)

theorem robotReturnEvent_limitKept (s : State) : LimitKept s (robotReturnEvent s) := by
  unfold robotReturnEvent
  split
  · exact (((LimitKept.refl s).setMail _).trans (takeReturn_limitKept ..)).settleTest
  · exact .refl s
  · exact .refl s

theorem drain_limitKept (c : WindowCause) (s : State) : LimitKept s (drain c s) :=
  .of_windowOnly (drain_only c s)

theorem changeWindow_limitKept (c : WindowCause) (w : ServiceWindow) (s : State) :
    LimitKept s (changeWindow c w s) := .of_windowOnly (changeWindow_only c w s)

theorem keyEvent_limitKept (level : Bool) (s : State) : LimitKept s (keyEvent level s) := by
  have recorded : LimitKept s (recordKey level s) := (LimitKept.refl s).setWin _
  refine .ite (.refl s) ?_
  split
  · exact recorded.trans (changeWindow_limitKept ..)
  · exact recorded.trans (changeWindow_limitKept ..)
  · exact recorded.trans (drain_limitKept ..)
  all_goals exact recorded

theorem windowTimerEvent_limitKept (s : State) : LimitKept s (windowTimerEvent s) :=
  .ite (drain_limitKept _ s) (.refl s)

theorem linkLossEvent_limitKept (s : State) : LimitKept s (linkLossEvent s) := by
  unfold linkLossEvent
  split
  · exact .refl s
  · exact ((LimitKept.refl s).setMail _).trans (.ite (drain_limitKept ..) (.refl _))

theorem takeAnswer_limitKept (r : Robot) (o : RobotOutcome) (s : State) :
    LimitKept s (takeAnswer r o s) := by
  unfold takeAnswer
  split
  · exact .refl s
  · exact (LimitKept.refl s).setWin _

theorem answerEvent_limitKept (s : State) : LimitKept s (answerEvent s) := by
  unfold answerEvent
  split
  · exact .refl s
  · exact ((LimitKept.refl s).setMail _).trans (takeAnswer_limitKept ..)
  · exact ((LimitKept.refl s).setMail _).trans (takeAnswer_limitKept ..)

/-! ### The Tracker's notices, the limiters and the keepalive -/

theorem cameraOfflineEvent_limitKept (s : State) : LimitKept s (cameraOfflineEvent s) := by
  unfold cameraOfflineEvent
  split <;> exact .of_eq rfl rfl rfl

theorem cameraOnlineEvent_limitKept (s : State) : LimitKept s (cameraOnlineEvent s) := by
  unfold cameraOnlineEvent
  split <;> exact .of_eq rfl rfl rfl

theorem countDenial_limitKept (m : Master) (p : Particulars) (s : State) :
    LimitKept s (countDenial m p s) := .of_eq (by simp) (by simp) (by simp)

theorem limiterWindowEvent_limitKept (m : Master) (s : State) :
    LimitKept s (limiterWindowEvent m s) := by
  have ended : ∀ n latest, LimitKept s (endLimiterWindow m n latest s) := by
    intro n latest
    cases latest with
    | none => exact .of_eq rfl rfl rfl
    | some p =>
      exact .ite (((LimitKept.refl s).setLimiter _ _).raise _) ((LimitKept.refl s).setLimiter _ _)
  unfold limiterWindowEvent
  split
  · exact .refl s
  · exact .ite (ended _ _) (.refl s)

theorem keepaliveValue_limitKept (v : Word) (s : State) : LimitKept s (keepaliveValue v s) := by
  have changed : LimitKept s (keepaliveChange v s) := by
    unfold keepaliveChange
    dsimp only
    split <;> exact .of_eq rfl rfl rfl
  exact .ite (.refl s) changed

theorem keepaliveLapsedEvent_limitKept (s : State) : LimitKept s (keepaliveLapsedEvent s) :=
  .ite ((((LimitKept.refl s).setKeepalive _).raise _).setMail _) (.refl s)

theorem takeIndexValue_limitKept (v : Word) (s : State) : LimitKept s (takeIndexValue v s) :=
  .ite (.of_eq rfl rfl rfl) (.refl s)

/-! ### Commands of the control page -/

/-- A command whose execution keeps L keeps it with its issue and its result. -/
theorem issueCommand_limitKept (n : Slot) (w : Word) {run : State → Reply}
    (h : ∀ u, LimitKept u (run u).state) (s : State) : LimitKept s (issueCommand n w run s) := by
  have begun : LimitKept s (beginIssue n w s) := .of_eq rfl rfl rfl
  have answered (c : ResultCode) (d : Option (List Word)) (u : State) :
      LimitKept u (giveResult n c d u) := .of_eq (by simp) (by simp) (by simp)
  exact .ite (.refl s) (.ite ((LimitKept.refl s).raise _)
    ((begun.trans (h _)).trans (answered _ _ _)))

theorem queryReply_limitKept (n : Slot) (fs : List Field) (s : State) :
    LimitKept s (queryReply s n fs).state := by
  unfold queryReply
  split <;> exact .refl s

/-- The choice between two replies that keep L. -/
theorem LimitKept.reply {s : State} {c : Prop} [Decidable c] {a b : Reply}
    (ha : LimitKept s a.state) (hb : LimitKept s b.state) :
    LimitKept s (if c then a else b).state := by
  split_ifs
  · exact ha
  · exact hb

theorem robotCommand_limitKept (n : Slot) {act : Robot → State → Reply}
    (h : ∀ r u, LimitKept u (act r u).state) (s : State) :
    LimitKept s (robotCommand n act s).state := by
  refine .reply (.refl s) ?_
  split
  · exact .refl s
  · exact h _ s

theorem robotDone_state (r : Robot) (s : State) : (robotDone r s).state = s := rfl

theorem armRobot_limitKept (n : Slot) (r : Robot) (s : State) :
    LimitKept s (armRobot n r s).state := .reply (enter_limitKept ..) (.refl s)

theorem clearRobot_limitKept (n : Slot) (r : Robot) (s : State) :
    LimitKept s (clearRobot n r s).state := .reply (enter_limitKept ..) (.refl s)

theorem holdRobot_limitKept (n : Slot) (r : Robot) (s : State) :
    LimitKept s (holdRobot n r s).state :=
  .reply (enter_limitKept ..) (.reply (.refl s) (.refl s))

theorem releaseRobot_limitKept (n : Slot) (r : Robot) (s : State) :
    LimitKept s (releaseRobot n r s).state :=
  .reply (robotDone_state r _ ▸ (LimitKept.refl s).changeRobot r _) (.refl s)

theorem runRobotEnvelope_limitKept (n : Slot) (s : State) :
    LimitKept s (runRobotEnvelope n s).state := by
  refine .reply (.refl s) ?_
  split
  · exact .refl s
  · exact .reply (.refl s) (.reply (setRobot_limitKept ..) (.refl s))

theorem runRobotQuery_limitKept (n : Slot) (s : State) :
    LimitKept s (runRobotQuery n s).state := by
  unfold runRobotQuery
  split
  · exact .refl s
  · split <;> exact .refl s

theorem runTrackStart_limitKept (n : Slot) (s : State) :
    LimitKept s (runTrackStart n s).state := by
  refine .reply (.refl s) ?_
  split
  · exact .refl s
  · exact .reply (.of_eq rfl rfl rfl) (.refl s)

theorem runTrackStop_limitKept (s : State) : LimitKept s (runTrackStop s).state :=
  .reply (.refl s) (((LimitKept.refl s).setTracker _).raise _)

theorem runTrackQuery_limitKept (n : Slot) (s : State) :
    LimitKept s (runTrackQuery n s).state := by
  unfold runTrackQuery
  dsimp only
  split
  · exact queryReply_limitKept ..
  · exact queryReply_limitKept ..
  · exact .reply (.refl s) (queryReply_limitKept ..)
  · exact .refl s

theorem runTimeSet_limitKept (n : Slot) (s : State) : LimitKept s (runTimeSet n s).state :=
  .reply (.refl s) (.reply (.refl s) (.of_eq rfl rfl rfl))

theorem runKeepaliveSet_limitKept (n : Slot) (s : State) :
    LimitKept s (runKeepaliveSet n s).state :=
  .reply (.refl s) (.reply (.refl s) (.reply (.refl s) (.of_eq rfl rfl rfl)))

theorem runPaceSet_limitKept (n : Slot) (s : State) : LimitKept s (runPaceSet n s).state := by
  refine .reply (.refl s) ?_
  split
  · exact .refl s
  · split
    · exact .reply (.refl s) (.of_eq rfl rfl rfl)
    · exact .of_eq rfl rfl rfl
    · exact .refl s

theorem runServiceGrant_limitKept (n : Slot) (s : State) :
    LimitKept s (runServiceGrant n s).state := by
  refine .reply (.refl s) (.reply (.refl s) ?_)
  split
  · exact .refl s
  · exact (changeWindow_limitKept ..).setMail _

theorem runServiceExtend_limitKept (n : Slot) (s : State) :
    LimitKept s (runServiceExtend n s).state :=
  .reply (.refl s) (.of_eq rfl rfl rfl)

theorem runServiceRevoke_limitKept (s : State) : LimitKept s (runServiceRevoke s).state :=
  .reply (.refl s) (drain_limitKept ..)

theorem runSwitchQuery_limitKept (n : Slot) (s : State) :
    LimitKept s (runSwitchQuery n s).state := by
  unfold runSwitchQuery
  split
  · exact .refl s
  · exact queryReply_limitKept ..

theorem issueUnknown_limitKept (n : Slot) (w : Word) (s : State) :
    LimitKept s (issueUnknown n w s) :=
  issueCommand_limitKept n w (run := fun u => refuse u .unknown) (fun u => .refl u) s

/-- An issued command keeps L, unless it is QUARANTINE_SET or RELOAD. -/
theorem issueInstr_limitKept (reload : Slot → BitVec 24 → State → State) (i : Instr)
    (hq : ∀ n rest, i ≠ .quarantineSet n rest) (hr : ∀ n rest, i ≠ .reload n rest) (s : State) :
    LimitKept s (issueInstr reload i s) := by
  cases i with
  | robotArm n rest =>
    exact issueCommand_limitKept n _ (robotCommand_limitKept n (armRobot_limitKept n)) s
  | robotClear n rest =>
    exact issueCommand_limitKept n _ (robotCommand_limitKept n (clearRobot_limitKept n)) s
  | robotHold n rest =>
    exact issueCommand_limitKept n _ (robotCommand_limitKept n (holdRobot_limitKept n)) s
  | robotRelease n rest =>
    exact issueCommand_limitKept n _ (robotCommand_limitKept n (releaseRobot_limitKept n)) s
  | robotEnvelope n rest => exact issueCommand_limitKept n _ (runRobotEnvelope_limitKept n) s
  | robotQuery n rest => exact issueCommand_limitKept n _ (runRobotQuery_limitKept n) s
  | quarantineSet n rest => exact absurd rfl (hq n rest)
  | trackStart n rest => exact issueCommand_limitKept n _ (runTrackStart_limitKept n) s
  | trackStop n rest => exact issueCommand_limitKept n _ runTrackStop_limitKept s
  | trackQuery n rest => exact issueCommand_limitKept n _ (runTrackQuery_limitKept n) s
  | timeSet n rest => exact issueCommand_limitKept n _ (runTimeSet_limitKept n) s
  | timeQuery n rest =>
    exact issueCommand_limitKept n _ (fun u => queryReply_limitKept n (timeFields u.clock) u) s
  | keepaliveSet n rest => exact issueCommand_limitKept n _ (runKeepaliveSet_limitKept n) s
  | paceSet n rest => exact issueCommand_limitKept n _ (runPaceSet_limitKept n) s
  | serviceGrant n rest => exact issueCommand_limitKept n _ (runServiceGrant_limitKept n) s
  | serviceExtend n rest => exact issueCommand_limitKept n _ (runServiceExtend_limitKept n) s
  | serviceRevoke n rest => exact issueCommand_limitKept n _ runServiceRevoke_limitKept s
  | switchQuery n rest => exact issueCommand_limitKept n _ (runSwitchQuery_limitKept n) s
  | reload n rest => exact absurd rfl (hr n rest)
  | unknownOpcode n w => exact issueUnknown_limitKept n w s
  | _ => exact .refl s

/-- The word carries the opcode of neither QUARANTINE_SET nor RELOAD. -/
def sparesLimit (w : Word) : Prop := opcodeField w ≠ 0x07 ∧ opcodeField w ≠ 0x60

/-- An opcode word that spares L issues a command that keeps it. -/
theorem issueOpcode_limitKept (reload : Slot → BitVec 24 → State → State) (n : Slot) (w : Word)
    (h : sparesLimit w) (s : State) : LimitKept s (issueOpcode reload n w s) := by
  unfold issueOpcode
  split
  · exact .refl s
  · next i hi =>
    have spelled := Laws.Spelled.issuedBy_of_commandOf n w i hi
    refine issueInstr_limitKept reload i ?_ ?_ s
    · rintro m rest rfl
      cases spelled
      exact h.1 (Laws.Spelled.field_of_word 0x07 rest)
    · rintro m rest rfl
      cases spelled
      exact h.2 (Laws.Spelled.field_of_word 0x60 rest)

/-- What an opcode word does keeps L, where the word spares it. -/
def IssueKeepsLimit (issue : Slot → Word → State → State) : Prop :=
  ∀ n w s, sparesLimit w → LimitKept s (issue n w s)

theorem issueFull_keepsLimit : IssueKeepsLimit issueFull :=
  fun n w s h => issueOpcode_limitKept issueReloadFull n w h s

theorem issueWithin_keepsLimit : IssueKeepsLimit issueWithin :=
  fun n w s h => issueOpcode_limitKept (issueReload id) n w h s

theorem pageWord_limitKept {issue : Slot → Word → State → State}
    (hi : IssueKeepsLimit issue) (alone : Bool) (o : Nat)
    (w : WriteWord) (h : sparesLimit w.data) (s : State) :
    LimitKept s (pageWord issue alone o w s) := by
  refine .ite (.ite (keepaliveValue_limitKept _ s) (.refl s))
    (.ite (.ite (takeIndexValue_limitKept _ s) (.refl s)) ?_)
  split
  · exact .refl s
  · exact .ite (.of_eq rfl rfl rfl) (.ite (.ite (hi _ _ s h) (.refl s)) (.refl s))

theorem pageWords_limitKept {issue : Slot → Word → State → State}
    (hi : IssueKeepsLimit issue) (alone : Bool) (o : Nat)
    (ws : List WriteWord) (h : ∀ w ∈ ws, sparesLimit w.data) (s : State) :
    LimitKept s (pageWords issue alone o ws s) := by
  induction ws generalizing o s with
  | nil => exact .refl s
  | cons w ws ih =>
    rw [List.forall_mem_cons] at h
    exact (pageWord_limitKept hi alone o w h.1 s).trans (ih _ h.2 _)

/-! ### Admission -/

/-- A request of LINE that issues neither QUARANTINE_SET nor RELOAD: the page is not decoded
(R158), or none of its words carries one of the two opcodes. -/
def harmless (l : Loader) (q : Request) : Prop :=
  l.condition = .loading ∨ ∀ w ∈ q.words, sparesLimit w.data

theorem pageWrite_limitKept {issue : Slot → Word → State → State}
    (hi : IssueKeepsLimit issue) (m : Master) (o : Nat) (q : Request)
    (s : State) (h : m = .line → harmless s.loader q) :
    LimitKept s (pageWrite issue m o q.len q.words s) := by
  unfold pageWrite
  split_ifs with hm
  · obtain ⟨rfl, hd⟩ := hm
    have decoded : s.loader.condition ≠ .loading := by simpa [State.isLoading] using hd
    exact pageWords_limitKept hi _ o q.words ((h rfl).resolve_left decoded) s
  · exact .refl s

theorem handleOrder_limitKept {m : Master} {q : Request} {o : Nat} {s : State}
    {ws : List WriteWord} {eff : State → State} (h : handleOrder m q o s = .accept ws eff)
    (u : State) : LimitKept u (eff u) := by
  unfold handleOrder at h
  split_ifs at h
  · split at h
    · cases h; exact .refl u
    · split at h
      · cases h
      · cases h; exact passOrder_limitKept ..
  · cases h; exact .refl u

/-- The effect that an owner gives an admission keeps L. -/
theorem handle_limitKept {issue : Slot → Word → State → State}
    (hi : IssueKeepsLimit issue) {m : Master} {q : Request}
    {p : Place} {s : State} {ws : List WriteWord} {eff : State → State}
    (h : handle issue m q p s = .accept ws eff) (u : State)
    (hq : m = .line → harmless u.loader q) : LimitKept u (eff u) := by
  unfold handle at h
  split at h
  · cases h; exact .refl u
  · unfold handleWrite at h
    split at h
    case h_1 => cases h; exact .refl u
    case h_2 => cases h; exact .refl u
    case h_3 => exact handleOrder_limitKept h u
    case h_4 =>
      split_ifs at h
      · cases h; exact statusWrite_limitKept ..
      · cases h; exact .refl u
    case h_5 => cases h; exact .of_trackerOnly (verdictWrite_only ..)
    case h_6 =>
      cases h
      split_ifs
      · exact decodeMailbox_limitKept ..
      · exact .refl u
    case h_7 => cases h; exact pageWrite_limitKept hi m _ q u hq
    case h_8 => cases h

theorem deliver_limitKept (m : Master) (c : Completion) (s : State) :
    LimitKept s (deliver m c s) :=
  .of_port m .empty (fun _ h => nomatch h) rfl rfl rfl rfl

theorem deny_limitKept (m : Master) (q : Request) (c : DenialCause) (g : Option RegionRef)
    (rep : Option Report) (s : State) : LimitKept s (deny m q c g rep s) := by
  have delivered := deliver_limitKept m { status := .denied, data := zeroData q.dir q.len } s
  cases rep with
  | none => exact delivered.trans (countDenial_limitKept ..)
  | some r => exact (delivered.raise r).trans (countDenial_limitKept ..)

theorem enterWaiting_limitKept (m : Master) (t : Txn) (cost : Nat) (s : State) :
    LimitKept s (enterWaiting m t cost s) := by
  refine .of_port m (.waiting t) (fun _ h => nomatch h) ?_ ?_ ?_ ?_ <;> rw [enterWaiting_frame]

theorem arbitrate_limitKept (s : State) : LimitKept s (arbitrate s) := by
  have internal : LimitKept s (s.setTransit s.transit.grantInternal) :=
    ⟨rfl, rfl, rfl, fun _ h => h⟩
  have master (m : Master) : LimitKept s (s.setTransit (s.transit.grantMaster m)) := by
    unfold Transit.grantMaster
    split
    · exact .of_port m (.inMemory _) (fun _ h => nomatch h) rfl rfl rfl rfl
    all_goals exact .refl s
  unfold arbitrate Transit.arbitrate
  split
  · exact .refl s
  · exact .refl s
  · split
    · exact internal
    · split
      · exact master _
      · split
        · exact internal
        · exact .refl s

/-! ### Traffic while L stands -/

/-- L and its delivered value are those of `g`, the loader is `l`, and no request of LINE that waits
issues QUARANTINE_SET or RELOAD. -/
structure LimitStands (g : RobotGuard) (l : Loader) (s : State) : Prop where
  limit : s.robots.limit = g.limit
  settings : s.robots.settings = g.settings
  loader : s.loader = l
  line : ∀ q, s.lineAwaits q → harmless l q

namespace LimitStands

variable {g : RobotGuard} {l : Loader} {s t : State}

theorem here (h : ∀ q, s.lineAwaits q → harmless s.loader q) :
    LimitStands s.robots s.loader s := ⟨rfl, rfl, rfl, h⟩

theorem then_kept (h : LimitStands g l s) (k : LimitKept s t) : LimitStands g l t :=
  ⟨k.limit.trans h.limit, k.settings.trans h.settings, k.loader.trans h.loader,
   fun q hq => h.line q (k.line q hq)⟩

theorem foldl {α : Type} {f : State → α → State} {P : α → Prop}
    (hf : ∀ s a, P a → LimitStands g l s → LimitStands g l (f s a)) (xs : List α)
    (hx : ∀ a ∈ xs, P a) (h : LimitStands g l s) : LimitStands g l (xs.foldl f s) := by
  induction xs generalizing s with
  | nil => exact h
  | cons a xs ih =>
    rw [List.forall_mem_cons] at hx
    exact ih hx.2 (hf s a hx.1 h)

/-- A request that the Pacing Unit holds. -/
theorem hold (h : LimitStands g l s) (m : Master) (q : Request) (hq : m = .line → harmless l q) :
    LimitStands g l (setMasterPort m (.held q) s) := by
  refine ⟨h.limit, h.settings, h.loader, fun r hr => ?_⟩
  cases m with
  | line =>
    rcases hr with hr | hr
    · cases hr; exact hq rfl
    · exact h.line r (.inr hr)
  | _ => exact h.line r hr

theorem setLane (h : LimitStands g l s) (m : Master) (qs : List Request)
    (hq : ∀ q ∈ qs, m = .line → harmless l q) : LimitStands g l (setLane m qs s) := by
  refine ⟨h.limit, h.settings, h.loader, fun r hr => ?_⟩
  cases m with
  | line =>
    rcases hr with hr | hr
    · exact h.line r (.inl hr)
    · exact hq r hr rfl
  | _ => exact h.line r hr

/-- What waits on a lane is harmless where the lane is LINE's. -/
theorem onLane (h : LimitStands g l s) (m : Master) :
    ∀ q ∈ s.transit.lanes.get m, m = .line → harmless l q := by
  rintro q hq rfl
  exact h.line q (.inr hq)

theorem examine {issue : Slot → Word → State → State}
    (hi : IssueKeepsLimit issue) (h : LimitStands g l s) (m : Master)
    (q : Request) (hq : m = .line → harmless l q) : LimitStands g l (examine issue m q s) := by
  unfold Machine.examine
  dsimp only
  split
  · exact h.then_kept (deny_limitKept ..)
  · split
    · exact h.then_kept (deny_limitKept ..)
    · next words eff hacc =>
      unfold paceAndAdmit
      split_ifs
      · exact h.hold m q hq
      · refine (h.then_kept (enterWaiting_limitKept ..)).then_kept
          (handle_limitKept hi hacc _ fun hm => ?_)
        rw [(enterWaiting_limitKept ..).loader, h.loader]
        exact hq hm

theorem reexamine {issue : Slot → Word → State → State}
    (hi : IssueKeepsLimit issue) (h : LimitStands g l s) (m : Master) :
    LimitStands g l (reexamine issue m s) := by
  unfold Machine.reexamine
  split
  · next q held => exact h.examine hi m q (by rintro rfl; exact h.line q (.inl held))
  all_goals exact h

theorem reexamineAll {issue : Slot → Word → State → State}
    (hi : IssueKeepsLimit issue) (h : LimitStands g l s) :
    LimitStands g l (reexamineAll issue s) :=
  foldl (P := fun _ => True) (fun _ m _ hs => hs.reexamine hi m) masters (fun _ _ => trivial) h

theorem arrive (h : LimitStands g l s) (m : Master) (q : Request)
    (hq : m = .line → harmless l q) : LimitStands g l (arrive m q s) := by
  unfold Machine.arrive
  split_ifs
  · exact h.then_kept (deny_limitKept ..)
  · exact h.then_kept (deny_limitKept ..)
  · exact h.examine issueFull_keepsLimit m q hq

theorem presentRequest (h : LimitStands g l s) (m : Master) (q : Request)
    (hq : m = .line → harmless l q) : LimitStands g l (presentRequest m q s) := by
  have waits : LimitStands g l (Machine.setLane m (s.transit.lanes.get m ++ [q]) s) :=
    h.setLane m _ fun r hr => (List.mem_append.1 hr).elim (h.onLane m r)
      fun hr => List.mem_singleton.1 hr ▸ hq
  by_cases taken : s.transit.ports.get m = .empty ∧ s.transit.lanes.get m = []
  · obtain ⟨hp, hl⟩ := taken
    have e : Machine.presentRequest m q s = Machine.arrive m q s := by
      simp [Machine.presentRequest, hp, hl]
    exact e ▸ h.arrive m q hq
  · have e : Machine.presentRequest m q s =
        Machine.setLane m (s.transit.lanes.get m ++ [q]) s := by
      unfold Machine.presentRequest
      split
      · next hp hl => exact absurd ⟨hp, hl⟩ taken
      · next hl => rw [hl]
      all_goals rfl
    exact e ▸ waits

theorem serveLane (h : LimitStands g l s) (m : Master) : LimitStands g l (serveLane m s) := by
  unfold Machine.serveLane
  split
  · refine foldl (fun u q hq hu => ?_) _ (h.onLane m) (h.setLane m [] (by simp))
    exact (hu.then_kept (arbitrate_limitKept u)).presentRequest m q hq
  all_goals exact h

/-- The end of an event: the lanes are served, then the arbiter looks. -/
theorem finishLanes (h : LimitStands g l s) (ht : finishLanes s = .next t) :
    LimitStands g l t := by
  cases ht
  have served : LimitStands g l (serveLanes s) :=
    foldl (P := fun _ => True) (fun _ m _ hs => hs.serveLane m) masters (fun _ _ => trivial) h
  exact served.then_kept (arbitrate_limitKept _)

end LimitStands

/-! ### Completions, the refusal and refills -/

theorem freePort_limitKept (s : State) : LimitKept s (freePort s) := ⟨rfl, rfl, rfl, fun _ h => h⟩

theorem completeTxn_limitKept (m : Master) (t : Txn) (ok : Bool) (data : List Word) (s : State) :
    LimitKept s (completeTxn m t ok data s) := by
  have freed := freePort_limitKept s
  have noted (u : State) : LimitKept u (noteDelivery m u) :=
    .ite ((LimitKept.refl u).setWin _).settleTest (.refl u)
  have okay (u : State) : LimitKept u (deliverOkay m t data u) := by
    unfold deliverOkay
    split
    · exact deliver_limitKept ..
    · exact (deliver_limitKept ..).trans (.ite (clearLatchesFrom_limitKept ..) (.refl _))
  exact (LimitKept.ite (freed.trans (okay _)) ((freed.trans (deliver_limitKept ..)).raise _)).trans
    (noted _)

theorem leaveStaging_limitKept (e : StagingEntry) (rest : List StagingEntry) (s : State) :
    LimitKept s (leaveStaging e rest s) := by
  have noted : LimitKept s (noteLeaving e (s.setStaging rest)) := by
    refine .ite ?_ (.of_eq rfl rfl rfl)
    split <;> exact .of_eq rfl rfl rfl
  have joined (u : State) : LimitKept u (joinWaiting u) :=
    .of_eq (by rw [joinWaiting_frame]) (by rw [joinWaiting_frame]) (by rw [joinWaiting_frame])
  exact LimitKept.trans (.ite (noted.setWriter _) noted) (joined _)

theorem internalAnswer_limitKept (ok : Bool) (s : State) : LimitKept s (internalAnswer ok s) := by
  unfold internalAnswer
  split
  · exact (freePort_limitKept s).trans (.ite (.of_eq rfl rfl rfl) (leaveStaging_limitKept ..))
  all_goals exact .refl s

theorem refusalEvent_limitKept (s : State) : LimitKept s (refusalEvent s) := by
  have refused : LimitKept s (refuseHeld s) := by
    unfold refuseHeld
    split
    · exact deny_limitKept ..
    all_goals exact .refl s
  exact .ite (refused.setWin _).settleTest (.refl s)

theorem LimitStands.refillEvent {g : RobotGuard} {l : Loader} {s : State} (h : LimitStands g l s)
    (m : Master) : LimitStands g l (refillEvent m s) := by
  unfold Machine.refillEvent
  dsimp only
  split
  · exact h
  · split_ifs
    · exact (h.then_kept ((LimitKept.refl s).setPace _ _)).reexamine issueFull_keepsLimit m
    · exact h

/-! ### Every command but the five keeps L -/

/-- An event that keeps L, and the arbiter's look at its end. -/
theorem LimitKept.finish {u s t : State} (h : LimitKept u s) (ht : finish s = .next t) :
    t.robots.limit = u.robots.limit := by
  cases ht
  exact h.limit

/-- The requests of LINE in the event of `c` issue neither QUARANTINE_SET nor RELOAD. -/
def sparedBy (c : Instr) (u : State) : Prop :=
  ∀ q, c = .requestArrival .line q ∨ u.transit.ports.line = .held q ∨ q ∈ u.transit.lanes.line →
    ∀ w ∈ q.words, opcodeField w.data ≠ 0x07 ∧ opcodeField w.data ≠ 0x60

theorem sparedBy.waiting {c : Instr} {u : State} (h : sparedBy c u) (l : Loader) :
    ∀ q, u.lineAwaits q → harmless l q := fun q hq => .inr (h q (.inr hq))

/-- An opcode word issued as a row of its own (log 23) keeps L. -/
theorem exec_issued_limit {i : Instr} {u t : State} (h : exec i u = .next t)
    (hi : exec i u = finish (issueInstr issueReloadFull i u))
    (hq : ∀ n rest, i ≠ .quarantineSet n rest) (hr : ∀ n rest, i ≠ .reload n rest) :
    t.robots.limit = u.robots.limit :=
  (issueInstr_limitKept issueReloadFull i hq hr u).finish (hi ▸ h)

/-- A command in an event without a request of LINE that issues QUARANTINE_SET or RELOAD keeps L,
but for those two, the end of a load, a cabinet reset and power-on. -/
theorem exec_keeps_limit (c : Instr) (u t : State) (hs : sparedBy c u) (h : exec c u = .next t)
    (hq : ∀ n rest, c ≠ .quarantineSet n rest) (hr : ∀ n rest, c ≠ .reload n rest)
    (hl : ∀ pass store, c ≠ .loadEnd pass store) (hc : c ≠ .cabinetReset)
    (hp : ∀ key, c ≠ .powerOn key) : t.robots.limit = u.robots.limit := by
  have stands : LimitStands u.robots u.loader u := .here (hs.waiting _)
  cases c with
  | requestArrival m r =>
    change (if r.wf then finishLanes (presentRequest m r u) else .refused .malformed) = _ at h
    split_ifs at h
    refine ((stands.presentRequest m r ?_).finishLanes h).limit
    rintro rfl
    exact .inr (hs r (.inl rfl))
  | memoryCompletion origin ok data =>
    change execMemoryCompletion origin ok data u = _ at h
    unfold execMemoryCompletion at h
    split at h
    · cases h; rfl
    · cases h; rfl
    · split_ifs at h
      exact ((stands.then_kept (completeTxn_limitKept ..)).finishLanes h).limit
  | internalWriteCompletion origin ok =>
    cases origin with
    | beforePowerOn => cases h; rfl
    | current => exact (internalAnswer_limitKept ok u).finish h
  | serviceRefusal => exact ((stands.then_kept (refusalEvent_limitKept u)).finishLanes h).limit
  | refillExpiry m => exact ((stands.refillEvent m).finishLanes h).limit
  | limiterWindowEnd m => exact (limiterWindowEvent_limitKept m u).finish h
  | hallPulse => exact (hallPulseEvent_limitKept u).finish h
  | correctionAdjustment =>
    cases h
    exact (LimitKept.ite ((LimitKept.refl u).setClock _) (.refl u)).limit
  | correctionPeriod =>
    cases h
    exact (LimitKept.ite ((LimitKept.refl u).setClock _) (.refl u)).limit
  | pulseWatchExpiry => exact (pulseWatchEvent_limitKept u).finish h
  | holdoverLimit => exact (holdoverLimitEvent_limitKept u).finish h
  | clockSourceNotice => exact (clockNoticeEvent_limitKept u).finish h
  | timeSetLapsed => exact (setLapsedEvent_limitKept u).finish h
  | switchTimeout => exact (switchTimeoutEvent_limitKept u).finish h
  | heartbeatTimeout r => exact (heartbeatTimeoutEvent_limitKept r u).finish h
  | pickupTimeout r => exact (pickupTimeoutEvent_limitKept r u).finish h
  | fillTimeout r => exact (fillTimeoutEvent_limitKept r u).finish h
  | robotLinkNotice => exact (linkNoticeEvent_limitKept u).finish h
  | fillerCredit => exact (creditEvent_limitKept u).finish h
  | keepaliveNotice => exact (keepaliveNoticeEvent_limitKept u).finish h
  | transferRequest => exact (transferRequestEvent_limitKept u).finish h
  | robotReturn => exact (robotReturnEvent_limitKept u).finish h
  | encoderPulse d => exact (LimitKept.of_trackerOnly (encoderEvent_only d u)).finish h
  | cameraTrigger k => exact (LimitKept.of_trackerOnly (triggerEvent_only k u)).finish h
  | cameraOffline => exact (cameraOfflineEvent_limitKept u).finish h
  | cameraOnline => exact (cameraOnlineEvent_limitKept u).finish h
  | serviceKey level => exact (keyEvent_limitKept level u).finish h
  | windowTimerExpiry => exact (windowTimerEvent_limitKept u).finish h
  | serviceLinkLoss => exact (linkLossEvent_limitKept u).finish h
  | transferAnswer => exact (answerEvent_limitKept u).finish h
  | keepaliveWrite v =>
    exact (LimitKept.ite (.refl u) (keepaliveValue_limitKept v u)).finish h
  | keepaliveLapsed => exact (keepaliveLapsedEvent_limitKept u).finish h
  | takeIndexWrite v =>
    exact (LimitKept.ite (.refl u) (takeIndexValue_limitKept v u)).finish h
  | unknownOpcode n w =>
    change (if unknownWf w then finish (issueUnknown n w u) else .refused .malformed) = _ at h
    split_ifs at h
    exact (issueUnknown_limitKept n w u).finish h
  | quarantineSet n rest => exact absurd rfl (hq n rest)
  | reload n rest => exact absurd rfl (hr n rest)
  | loadEnd pass store => exact absurd rfl (hl pass store)
  | powerOn key => exact absurd rfl (hp key)
  | cabinetReset => exact absurd rfl hc
  | _ => exact exec_issued_limit h rfl hq hr

/-! ### What gives L its delivered value (R104) -/

/-- START's report leaves the Robot Guard and the traffic. -/
theorem startAfterReset_robots (s : State) : (startAfterReset s).robots = s.robots := by
  unfold startAfterReset raiseStart
  split_ifs <;> simp

theorem startAfterReset_transit (s : State) : (startAfterReset s).transit = s.transit := by
  unfold startAfterReset raiseStart
  split_ifs <;> simp

theorem cabinetReset_limit (u t : State) (hs : sparedBy .cabinetReset u)
    (h : exec .cabinetReset u = .next t) : t.robots.limit = u.robots.settings.limit := by
  let v := startAfterReset (resetTraffic (resetBlocks u))
  have waiting : ∀ q, v.lineAwaits q → harmless v.loader q := by
    intro q hq
    simp only [v, State.lineAwaits, startAfterReset_transit] at hq
    exact hs.waiting _ q hq
  have done : LimitStands v.robots v.loader t :=
    ((LimitStands.here waiting).reexamineAll issueFull_keepsLimit).finishLanes h
  calc t.robots.limit = v.robots.limit := done.limit
    _ = (resetTraffic (resetBlocks u)).robots.limit := by rw [startAfterReset_robots]
    _ = u.robots.settings.limit := rfl

theorem powerOn_limit (key : Bool) (u t : State) (h : exec (.powerOn key) u = .next t) :
    t.robots.limit = t.robots.settings.limit := by
  have done : LimitStands RobotGuard.reset Loader.reset t :=
    LimitStands.finishLanes (s := powerOnEvent key u)
      ⟨rfl, rfl, rfl, fun _ _ => .inl rfl⟩ h
  rw [done.limit, done.settings]
  rfl

theorem reloadResets_transit (s : State) : (reloadResets s).transit = s.transit := by
  simp [reloadResets, resetPacing, resetKeepalive]

theorem reloadResets_limit (s : State) :
    (reloadResets s).robots.limit = s.robots.settings.limit := by
  simp [reloadResets, resetPacing, resetKeepalive, RobotGuard.resetKeepingSettings]

/-- An accepted RELOAD, known by the load that it starts, gives L its delivered value. -/
theorem reload_limit (n : Slot) (rest : BitVec 24) (u t : State) (hs : sparedBy (.reload n rest) u)
    (hn : u.loader.load = none) (h : exec (.reload n rest) u = .next t)
    (ht : t.loader.load = some .reload) : t.robots.limit = u.robots.settings.limit := by
  change finishLanes (issueReloadFull n rest u) = _ at h
  have stands : LimitStands u.robots u.loader u := .here (hs.waiting _)
  have begun : LimitKept u (beginIssue n (opcodeWord 0x60 rest) u) := .of_eq rfl rfl rfl
  -- No load starts where the loader is left alone.
  have unloaded (v : State) (hk : LimitKept u v) (hv : issueReloadFull n rest u = v) : False := by
    have done := (stands.then_kept hk).finishLanes (hv ▸ h)
    rw [done.loader, hn] at ht
    cases ht
  unfold issueReloadFull issueReload at h unloaded
  dsimp only at h unloaded
  split_ifs at h unloaded with loading awaiting barred
  · exact (unloaded _ (.refl u) rfl).elim
  · exact (unloaded _ ((LimitKept.refl u).raise _) rfl).elim
  · exact (unloaded _ (begun.trans (.of_eq (by simp) (by simp) (by simp))) rfl).elim
  · let s1 := giveResult n .done none (beginIssue n (opcodeWord 0x60 rest) u)
    have hrobots : s1.robots = u.robots := by simp [s1, beginIssue]
    have htransit : s1.transit = u.transit := by simp [s1, beginIssue]
    have waiting : ∀ q, (reloadResets s1).lineAwaits q →
        harmless (reloadResets s1).loader q := by
      intro q hq
      rw [State.lineAwaits, reloadResets_transit, htransit] at hq
      exact hs.waiting _ q hq
    have done := ((LimitStands.here waiting).reexamineAll issueWithin_keepsLimit).finishLanes h
    calc t.robots.limit = (reloadResets s1).robots.limit := done.limit
      _ = s1.robots.settings.limit := reloadResets_limit s1
      _ = u.robots.settings.limit := by rw [hrobots]

/-! ### The obligation -/

/-- The three answers of QUARANTINE_SET, with L as each leaves it. -/
theorem quarantineSet_answers (n : Slot) (rest : BitVec 24) (s : State) :
    let q := runQuarantineSet n (beginIssue n (opcodeWord 0x07 rest) s)
    let l := s.paramBits n 0 0 8
    (s.loader.condition = .safe →
      q.code = .refusedState ∧ q.data = none ∧ q.state.robots.limit = s.robots.limit) ∧
    (s.loader.condition ≠ .safe → 15 < l →
      q.code = .refusedParam ∧ q.data = none ∧ q.state.robots.limit = s.robots.limit) ∧
    (s.loader.condition ≠ .safe → l ≤ 15 →
      q.code = .done ∧ q.data = pageOne [byteOf s.robots.limit, byteOf l] ∧
        q.state.robots.limit = l) := by
  intro q l
  have hl : (beginIssue n (opcodeWord 0x07 rest) s).paramBits n 0 0 8 = l :=
    beginIssue_paramBits ..
  refine ⟨fun safe => ?_, fun open_ above => ?_, fun open_ fits => ?_⟩
  · have hq : q = refuse _ .refusedState := runQuarantineSet_safe n _ safe
    rw [hq]
    exact ⟨rfl, rfl, rfl⟩
  · have hq : q = refuse _ .refusedParam := runQuarantineSet_above n _ open_ (hl ▸ above)
    rw [hq]
    exact ⟨rfl, rfl, rfl⟩
  · have hq : q = _ := runQuarantineSet_sets n _ open_ (hl ▸ fits)
    rw [hq, hl]
    exact ⟨rfl, rfl, rfl⟩

/-- Settles O27: QUARANTINE_SET writes L alone; every operation of the other events keeps L, as an
opcode word that LINE writes issues only the command it spells; the three resets give L its
delivered value before the requests that wait are looked at. -/
theorem quarantineSetChangesTheLimitOnly : Obligations.QuarantineSetChangesTheLimitOnly := by
  intro n rest s htakes
  refine ⟨?_, ?_, exec_keeps_limit, cabinetReset_limit, reload_limit, powerOn_limit⟩
  · obtain ⟨t, hexec, harb, hframe, hans, hlimit⟩ := exec_quarantineSet_of_takes n rest s htakes
    exact ⟨t, _, _, hexec, harb, hframe, hans, hlimit ▸ quarantineSet_answers n rest s⟩
  · intro r cs u t hmail hexec
    rw [fillerCredit_reject_entry hmail hexec]
    refine ⟨rejectCredit_state_of_below r u (u.robots.table.get r).begin,
      fun howner hlimit hrun hstate => ?_⟩
    refine rejectCredit_state_of_reached r u (u.robots.table.get r).begin howner hlimit hrun ?_
    change (u.robots.table.get r).state.active = true
    simp only [List.mem_cons, List.not_mem_nil, or_false] at hstate
    rcases hstate with h | h | h <;> rw [h] <;> rfl

end Sys2Proof.Machine

/-!
What every operation keeps: the invariants of the statements as a relation of the state before and
after, proved once for each operation.
-/
namespace Sys2Proof.Machine

/-! ### The invariants read only their own blocks -/

theorem ClockInv.congr {s t : State} (hk : t.clock = s.clock) (h : ClockInv s) : ClockInv t := by
  obtain ⟨⟩ := h
  constructor <;> rw [hk] <;> assumption

theorem MapInv.congr {s t : State} (hm : t.map = s.map) (h : MapInv s) : MapInv t := by
  obtain ⟨⟩ := h
  constructor <;> rw [hm] <;> assumption

theorem PacingInv.congr {s t : State} (hp : t.pacing = s.pacing) (h : PacingInv s) :
    PacingInv t := by
  obtain ⟨⟩ := h
  constructor <;> rw [hp] <;> assumption

theorem RobotsInv.congr {s t : State} (hr : t.robots = s.robots) (h : RobotsInv s) :
    RobotsInv t := by
  obtain ⟨⟩ := h
  constructor <;> rw [hr] <;> assumption

theorem TrackerInv.congr {s t : State} (ht : t.tracker = s.tracker) (hl : t.loader = s.loader)
    (h : TrackerInv s) : TrackerInv t := by
  obtain ⟨⟩ := h
  constructor <;> simp only [ht, hl] <;> assumption

theorem WindowInv.congr {s t : State} (hw : t.window = s.window) (hl : t.loader = s.loader)
    (h : WindowInv s) : WindowInv t := by
  obtain ⟨⟩ := h
  constructor <;> simp only [hw, hl] <;> assumption

/-- The ownership invariant reads owners, pending transfers, the window and the messages. -/
theorem OwnershipInv.congr {s t : State} (hr : ∀ r, t.atHome r ↔ s.atHome r)
    (hw : t.window.state = s.window.state) (ho : t.window.robotSet = s.window.robotSet)
    (hm : t.mail.transfers = s.mail.transfers) (h : OwnershipInv s) : OwnershipInv t := by
  have hmsg : ∀ r, t.messagesFor r = s.messagesFor r := fun r => by
    simp only [State.messagesFor, hm]
  have hset : ∀ r, t.inSet r ↔ s.inSet r := fun r => by simp only [State.inSet, hw, ho]
  obtain ⟨⟩ := h
  constructor <;> simp only [hmsg, hset, hr, hw, ho] <;> assumption

/-- The traffic while an event runs: the part of the invariant that does not wait for the arbiter's
look and for the lanes at the event's end. -/
structure RunningTraffic (s : State) : Prop where
  carried : ∀ m, s.inMemoryAt m ↔ s.transit.memPort = .master m
  writing : s.transit.memPort = .internal → s.staging ≠ []
  room : s.staging.length ≤ 8
  full : ∀ n, (s.slots.get n).waiting ≠ none → s.staging.length = 8

theorem TrafficInv.running {s : State} (h : TrafficInv s) : RunningTraffic s :=
  ⟨h.carried, h.writing, h.room, h.full⟩

theorem RunningTraffic.congr {s t : State} (hp : t.transit.ports = s.transit.ports)
    (hm : t.transit.memPort = s.transit.memPort) (hq : t.staging.length = s.staging.length)
    (hw : ∀ n, (t.slots.get n).waiting = (s.slots.get n).waiting) (h : RunningTraffic s) :
    RunningTraffic t := by
  obtain ⟨hcarried, hwriting, hroom, hfull⟩ := h
  have hne : t.staging ≠ [] ↔ s.staging ≠ [] := by
    rw [← List.length_pos_iff, hq, List.length_pos_iff]
  exact ⟨by simpa only [State.inMemoryAt, hp, hm] using hcarried,
    by simpa only [hm, hne] using hwriting, by rwa [hq], by simpa only [hq, hw] using hfull⟩

/-! ### The relation -/

/-- What held of the blocks in `s` holds in `t`. -/
structure Keeps (s t : State) : Prop where
  clock : ClockInv s → ClockInv t := by exact ClockInv.congr rfl
  map : MapInv s → MapInv t := by exact MapInv.congr rfl
  pacing : MapInv s → PacingInv s → PacingInv t := by exact fun _ => PacingInv.congr rfl
  robots : RobotsInv s → RobotsInv t := by exact RobotsInv.congr rfl
  ownership : OwnershipInv s → OwnershipInv t := by
    exact OwnershipInv.congr (fun _ => Iff.rfl) rfl rfl rfl
  tracker : TrackerInv s → TrackerInv t := by exact TrackerInv.congr rfl rfl
  window : WindowInv s → WindowInv t := by exact WindowInv.congr rfl rfl
  traffic : RunningTraffic s → RunningTraffic t := by
    exact RunningTraffic.congr rfl rfl rfl (fun _ => rfl)

/-- An operation of a block: it keeps the invariants and leaves the Transit Path. -/
structure BlockKeeps (s t : State) : Prop extends Keeps s t where
  transit : t.transit = s.transit := by rfl

namespace Keeps

theorem refl (s : State) : Keeps s s := {}

theorem trans {s t u : State} (h : Keeps s t) (g : Keeps t u) : Keeps s u where
  clock x := g.clock (h.clock x)
  map x := g.map (h.map x)
  pacing x y := g.pacing (h.map x) (h.pacing x y)
  robots x := g.robots (h.robots x)
  ownership x := g.ownership (h.ownership x)
  tracker x := g.tracker (h.tracker x)
  window x := g.window (h.window x)
  traffic x := g.traffic (h.traffic x)

theorem ite {s a b : State} {c : Prop} [Decidable c] (ha : Keeps s a) (hb : Keeps s b) :
    Keeps s (if c then a else b) := by
  split_ifs
  · exact ha
  · exact hb

theorem foldl {α : Type} {f : State → α → State} (hf : ∀ s a, Keeps s (f s a)) (l : List α)
    (s : State) : Keeps s (l.foldl f s) := by
  induction l generalizing s with
  | nil => exact .refl s
  | cons a l ih => exact (hf s a).trans (ih _)

end Keeps

namespace BlockKeeps

theorem refl (s : State) : BlockKeeps s s := {}

theorem trans {s t u : State} (h : BlockKeeps s t) (g : BlockKeeps t u) : BlockKeeps s u where
  toKeeps := h.toKeeps.trans g.toKeeps
  transit := g.transit.trans h.transit

theorem ite {s a b : State} {c : Prop} [Decidable c] (ha : BlockKeeps s a) (hb : BlockKeeps s b) :
    BlockKeeps s (if c then a else b) := by
  split_ifs
  · exact ha
  · exact hb

/-- An operation done where its test holds. -/
theorem iteOf {s a b : State} {c : Prop} [Decidable c] (ha : c → BlockKeeps s a)
    (hb : ¬c → BlockKeeps s b) : BlockKeeps s (if c then a else b) := by
  split_ifs with h
  · exact ha h
  · exact hb h

theorem foldl {α : Type} {f : State → α → State} (hf : ∀ s a, BlockKeeps s (f s a)) (l : List α)
    (s : State) : BlockKeeps s (l.foldl f s) := by
  induction l generalizing s with
  | nil => exact .refl s
  | cons a l ih => exact (hf s a).trans (ih _)

end BlockKeeps

/-! ### Records and results -/

theorem placeRecord_staging (r : Report) (s : State) :
    (placeRecord r s).staging = s.staging ++ [recordEntry r s] := rfl

/-- A record that joins the staging queue while there is room. -/
theorem RunningTraffic.longer {s t : State} (h : RunningTraffic s)
    (ht : t.transit = s.transit) (hs : t.slots = s.slots)
    (hlen : t.staging.length = s.staging.length ∨
      s.staging.length < t.staging.length ∧ t.staging.length ≤ 8) : RunningTraffic t := by
  rcases hlen with heq | ⟨hlt, hroom⟩
  · exact h.congr (by rw [ht]) (by rw [ht]) heq (by simp [hs])
  · refine ⟨by simpa only [State.inMemoryAt, ht] using h.carried, fun _ => ?_, hroom, fun n hn => ?_⟩
    · exact List.ne_nil_of_length_pos (by omega)
    · rw [hs] at hn
      have := h.full n hn
      omega

/-- Taking a report lengthens the staging queue only while it has room. -/
theorem takeNormal_length (r : Report) (s : State) :
    (takeNormal r s).staging.length = s.staging.length ∨
      (s.staging.length < (takeNormal r s).staging.length ∧
        (takeNormal r s).staging.length ≤ 8) := by
  unfold takeNormal
  split_ifs with hfull <;> simp only [stagingMax] at hfull
  · exact .inl rfl
  · right; simp [placeRecord_staging]; omega
  · right; simp [beginLosing, placeRecord_staging]; omega
  · exact .inl rfl

theorem resumeWriter_staging_length (s : State) :
    (resumeWriter s).staging.length = s.staging.length + 1 := by
  simp [resumeWriter, placeRecord_staging]

theorem raise_length (r : Report) (s : State) :
    (raise r s).staging.length = s.staging.length ∨
      (s.staging.length < (raise r s).staging.length ∧ (raise r s).staging.length ≤ 8) := by
  unfold raise
  split_ifs with hlosing hroom
  · right
    have hlen := resumeWriter_staging_length s
    have := takeNormal_length r (resumeWriter s)
    simp only [stagingMax] at hroom
    omega
  · exact .inl rfl
  · exact takeNormal_length r s

theorem raise_keeps (r : Report) (s : State) : BlockKeeps s (raise r s) where
  clock := .congr (by simp)
  map := .congr (by simp)
  pacing _ := .congr (by simp)
  robots := .congr (by simp)
  ownership := .congr (by simp [State.atHome]) (by simp) (by simp) (by simp)
  tracker := .congr (by simp) (by simp)
  window := .congr (by simp) (by simp)
  traffic h := h.longer (by simp) (by simp) (raise_length r s)
  transit := by simp

namespace BlockKeeps

/-! What follows an operation of a block. -/

theorem raise {s t : State} (h : BlockKeeps s t) (r : Report) : BlockKeeps s (raise r t) :=
  h.trans (raise_keeps r t)

theorem raiseAll {s t : State} (h : BlockKeeps s t) (rs : List Report) :
    BlockKeeps s (raiseAll rs t) := h.trans (.foldl (fun u r => raise_keeps r u) rs t)

theorem setPort {s t : State} (h : BlockKeeps s t) (p : SwPort) (e : PortEntry) :
    BlockKeeps s (setPort p e t) := h.trans {}

theorem setSwitch {s t : State} (h : BlockKeeps s t) (x : SwitchWatch) :
    BlockKeeps s (t.setSwitch x) := h.trans {}

theorem setLimiter {s t : State} (h : BlockKeeps s t) (m : Master) (x : Limiter) :
    BlockKeeps s (setLimiter m x t) := h.trans {}

theorem setKeepalive {s t : State} (h : BlockKeeps s t) (x : Keepalive) :
    BlockKeeps s (t.setKeepalive x) := h.trans {}

theorem setWriter {s t : State} (h : BlockKeeps s t) (x : Writer) :
    BlockKeeps s (t.setWriter x) := h.trans {}

/-- A change of the notices other than the Service Window's messages to the Robot Guard. -/
theorem setMail {s t : State} (h : BlockKeeps s t) (x : Mail)
    (hx : x.transfers = t.mail.transfers := by rfl) : BlockKeeps s (t.setMail x) :=
  h.trans { ownership := .congr (fun _ => Iff.rfl) rfl rfl hx }

theorem setClock {s t : State} (h : BlockKeeps s t) (k : Clock)
    (hk : ClockInv t → ClockInv (t.setClock k)) : BlockKeeps s (t.setClock k) :=
  h.trans { clock := hk }

theorem setTracker {s t : State} (h : BlockKeeps s t) (x : Tracker)
    (hx : TrackerInv t → TrackerInv (t.setTracker x)) : BlockKeeps s (t.setTracker x) :=
  h.trans { tracker := hx }

end BlockKeeps

end Sys2Proof.Machine

namespace Sys2Proof.Machine

/-! ### The Hall Clock (R50 to R63) -/

theorem clampInt_bounds {lo hi : Int} (x : Int) (h : lo ≤ hi) :
    lo ≤ clampInt x lo hi ∧ clampInt x lo hi ≤ hi := by
  unfold clampInt; omega

/-- A new period has no adjustment behind it. -/
theorem ClockInv.beginPeriod {s : State} (h : ClockInv s) :
    ClockInv (s.setClock s.clock.beginPeriod) :=
  { h with adjustments := Nat.zero_le _ }

/-- An adjustment is made only where fewer than |C| were. -/
theorem ClockInv.adjust {s : State} (h : ClockInv s) (hd : s.clock.adjustmentDue = true) :
    ClockInv (s.setClock s.clock.adjust) := by
  simp only [Clock.adjustmentDue, Bool.and_eq_true, decide_eq_true_eq] at hd
  obtain ⟨⟨-, hlt⟩, -⟩ := hd
  exact { h with adjustments := hlt }

/-- The discipline brings F and C into their bounds, in a period without adjustments (R54). -/
theorem ClockInv.discipline {s : State} (h : ClockInv s) (hs : s.clock.state = .locking ∨
    s.clock.state = .locked) (h0 : s.clock.adjustments = 0) (e : Int) :
    ClockInv (s.setClock (s.clock.discipline e)) :=
  { h with
    f := clampInt_bounds _ (by decide)
    c := clampInt_bounds _ (by decide)
    adjustments := by
      change s.clock.adjustments ≤ _
      omega
    coasting := fun hc => by
      change s.clock.state ∈ _ at hc
      rcases hs with hs | hs <;> simp [hs] at hc }

/-- A pulse in LOCKING (R55). -/
theorem ClockInv.pulseLocking {s : State} (h : ClockInv s) (hs : s.clock.state = .locking)
    (h0 : s.clock.adjustments = 0) (e : Int) : ClockInv (s.setClock (s.clock.pulseLocking e)) := by
  have hd := h.discipline (.inl hs) h0 e
  have hrun : s.clock.nextLockRun e ≤ 8 := by
    have := h.lockRun.2 hs
    unfold Clock.nextLockRun
    split_ifs <;> omega
  have hw : s.clock.pulseWatch ≠ none := h.watch.2 (by simp [hs])
  have hh : s.clock.holdoverStart = none := by
    by_contra hn
    simpa [hs] using h.holdover.1 hn
  unfold Clock.pulseLocking
  dsimp only
  split_ifs with hstep hlock
  · exact { h with
      c := ⟨by have := h.f.1; change -500 ≤ s.clock.f; omega,
        by have := h.f.2; change s.clock.f ≤ 500; omega⟩
      lockRun := ⟨Nat.zero_le 8, fun _ => Nat.zero_lt_succ 7⟩
      coasting := fun _ => rfl
      adjustments := by change s.clock.adjustments ≤ _; omega }
  · exact { hd with
      lockRun := ⟨hrun, fun hc => nomatch hc⟩
      outlierRun := Nat.zero_le 2
      watch := ⟨fun _ => by simp, fun _ => hw⟩
      holdover := ⟨fun hn => absurd hh hn, fun hc => by simp at hc⟩
      coasting := fun hc => by simp at hc }
  · exact { hd with lockRun := ⟨hrun, fun _ => by change s.clock.nextLockRun e < 8; omega⟩ }

/-- Entry to LOCKING with the watch running and the holdover timer stopped. -/
theorem ClockInv.enterLocking {s : State} (h : ClockInv s) (w : Micros) :
    ClockInv (s.setClock { s.clock.enterLocking with
      pulseWatch := some w, holdoverStart := none }) :=
  { h with
    lockRun := ⟨Nat.zero_le 8, fun _ => Nat.zero_lt_succ 7⟩
    outlierRun := Nat.zero_le 2
    watch := ⟨fun _ => by simp [Clock.enterLocking], fun _ => by simp⟩
    holdover := ⟨fun hn => by simp at hn, fun hc => by simp [Clock.enterLocking] at hc⟩
    coasting := fun hc => by simp [Clock.enterLocking] at hc }

/-- The pulse watch restarts while it runs. -/
theorem ClockInv.restartWatch {s : State} (h : ClockInv s) (w : Micros)
    (hs : s.clock.state = .locking ∨ s.clock.state = .locked) :
    ClockInv (s.setClock { s.clock with pulseWatch := some w }) :=
  { h with watch := ⟨fun _ => by simpa using hs, fun _ => by simp⟩ }

theorem pulseLocking_setWatch (k : Clock) (e : Int) (w : Option Micros) :
    { k.pulseLocking e with pulseWatch := w } =
      ({ k with pulseWatch := w } : Clock).pulseLocking e := by
  unfold Clock.pulseLocking Clock.phaseStep Clock.nextLockRun Clock.discipline
  dsimp only
  split_ifs <;> rfl

/-- A pulse in LOCKED (R56). -/
theorem ClockInv.pulseLocked {s : State} (h : ClockInv s) (hs : s.clock.state = .locked)
    (h0 : s.clock.adjustments = 0) (e : Int) (w : Micros) :
    ClockInv (s.setClock { s.clock.pulseLocked e with pulseWatch := some w }) := by
  have hh : s.clock.holdoverStart = none := by
    by_contra hn
    simpa [hs] using h.holdover.1 hn
  unfold Clock.pulseLocked
  split_ifs with hsmall hout
  · exact ({ h.discipline (.inr hs) h0 e with outlierRun := Nat.zero_le 2 } :
      ClockInv (s.setClock { s.clock.discipline e with outlierRun := 0 })).restartWatch w (.inr hs)
  · exact ({ h with outlierRun := by change s.clock.outlierRun + 1 ≤ 2; omega } :
      ClockInv (s.setClock { s.clock with outlierRun := s.clock.outlierRun + 1 })).restartWatch w
        (.inr hs)
  · rw [pulseLocking_setWatch]
    have he := h.enterLocking w
    rw [← hh] at he
    exact he.pulseLocking rfl h0 e

/-- A pulse in HOLDOVER or DRIFTING (R57). -/
theorem ClockInv.pulseHoldover {s : State} (h : ClockInv s) (h0 : s.clock.adjustments = 0)
    (e : Int) (w : Micros) :
    ClockInv (s.setClock { s.clock.pulseHoldover e with pulseWatch := some w }) := by
  unfold Clock.pulseHoldover
  rw [pulseLocking_setWatch]
  exact (h.enterLocking w).pulseLocking rfl h0 e

theorem ClockInv.noteAccepted {s : State} (h : ClockInv s) :
    ClockInv (s.setClock s.clock.noteAccepted) := { h.beginPeriod with }

/-- An accepted pulse without a pending set (R53). -/
theorem ClockInv.pulseByState {s : State} (h : ClockInv s) (h0 : s.clock.adjustments = 0) :
    ClockInv (s.setClock s.clock.pulseByState) := by
  unfold Clock.pulseByState
  generalize phaseError s.clock.t = e
  have he : ClockInv (s.setClock { s.clock with lastError := e }) := { h with }
  dsimp only
  split
  · exact h
  · next hs =>
    rw [pulseLocking_setWatch]
    exact (he.restartWatch s.clock.m (.inl hs)).pulseLocking hs h0 _
  · next hs => exact he.pulseLocked hs h0 _ _
  · exact he.pulseHoldover h0 _ _
  · exact he.pulseHoldover h0 _ _

/-- T is replaced at the entry to LOCKING that a pending set makes (R62). -/
theorem ClockInv.replaceTime {s : State} (h : ClockInv s) (h0 : s.clock.adjustments = 0)
    (t : Micros) :
    ClockInv (s.setClock { s.clock.enterLocking with
      t := t, c := s.clock.f, pendingSet := none, holdoverStart := none
      pulseWatch := some s.clock.m, lastReplaced := some (.of s.clock.m) }) :=
  { h.enterLocking s.clock.m with
    c := ⟨by have := h.f.1; change -500 ≤ s.clock.f; omega,
      by have := h.f.2; change s.clock.f ≤ 500; omega⟩
    coasting := fun _ => rfl
    adjustments := by change s.clock.adjustments ≤ _; omega
    pending := fun _ hp => nomatch hp }

theorem ClockInv.applySet {s : State} (h : ClockInv s) (h0 : s.clock.adjustments = 0) (n : Nat) :
    ClockInv (s.setClock (s.clock.applySet n)) := h.replaceTime h0 (.ofNat 48 (n * 1000000))

/-- Entry to HOLDOVER (R58). -/
theorem ClockInv.enterHoldover {s : State} (h : ClockInv s) :
    ClockInv (s.setClock s.clock.enterHoldover) :=
  { h.beginPeriod with
    c := ⟨by have := h.f.1; change -500 ≤ s.clock.f; omega,
      by have := h.f.2; change s.clock.f ≤ 500; omega⟩
    lockRun := ⟨h.lockRun.1, fun hc => nomatch hc⟩
    watch := ⟨fun hn => absurd rfl hn, fun hc => by simp [Clock.enterHoldover] at hc⟩
    holdover := ⟨fun _ => by simp [Clock.enterHoldover], fun _ => by simp [Clock.enterHoldover]⟩
    coasting := fun _ => rfl
    adjustments := Nat.zero_le _ }

/-- HOLDOVER becomes DRIFTING (R60). -/
theorem ClockInv.drift {s : State} (h : ClockInv s) (hd : s.clock.limitDue = true) :
    ClockInv (s.setClock { s.clock with state := .drifting }) := by
  simp only [Clock.limitDue, Bool.and_eq_true, decide_eq_true_eq] at hd
  obtain ⟨hs, -⟩ := hd
  have hstart : s.clock.holdoverStart ≠ none := h.holdover.2 (by simp [hs])
  have hwatch : s.clock.pulseWatch = none := by
    by_contra hn
    simpa [hs] using h.watch.1 hn
  exact { h with
    lockRun := ⟨h.lockRun.1, fun hc => nomatch hc⟩
    watch := ⟨fun hn => absurd hwatch hn, fun hc => by simp at hc⟩
    holdover := ⟨fun _ => by simp, fun _ => hstart⟩
    coasting := fun _ => h.coasting (by simp [hs]) }

theorem ClockInv.tick {s : State} (h : ClockInv s) : ClockInv (tick s) :=
  { h with
    watch := h.watch
    holdover := by
      change (Option.map _ s.clock.holdoverStart) ≠ none ↔ s.clock.state ∈ _
      rw [← h.holdover, ne_eq, Option.map_eq_none_iff] }

theorem acceptPulse_keeps (s : State) : BlockKeeps s (acceptPulse s) := by
  have hset (n : Nat) : BlockKeeps s (s.setClock (s.clock.noteAccepted.applySet n)) :=
    (BlockKeeps.refl s).setClock _ fun h => h.noteAccepted.applySet rfl n
  have hpulse : BlockKeeps s (s.setClock s.clock.noteAccepted.pulseByState) :=
    (BlockKeeps.refl s).setClock _ fun h => h.noteAccepted.pulseByState rfl
  unfold acceptPulse
  dsimp only
  split
  · exact (hset _).raiseAll _
  · exact hpulse.raiseAll _

theorem hallPulseEvent_keeps (s : State) : BlockKeeps s (hallPulseEvent s) :=
  .ite ((BlockKeeps.refl s).setClock _ fun h => { h with })
    (.ite ((BlockKeeps.refl s).setClock _ fun h => { h with }) (acceptPulse_keeps s))

theorem enterHoldover_keeps (cause : TimeCause) (s : State) :
    BlockKeeps s (enterHoldover cause s) :=
  ((BlockKeeps.refl s).setClock _ fun h => h.enterHoldover).raise _

theorem pulseWatchEvent_keeps (s : State) : BlockKeeps s (pulseWatchEvent s) :=
  .ite (enterHoldover_keeps _ s) (.refl s)

theorem holdoverLimitEvent_keeps (s : State) : BlockKeeps s (holdoverLimitEvent s) :=
  .iteOf (fun hd => ((BlockKeeps.refl s).setClock _ fun h => h.drift hd).raise _) fun _ => .refl s

theorem takeClockNotice_keeps (c : ClockNotice) (s : State) :
    BlockKeeps s (takeClockNotice c s) := .ite (enterHoldover_keeps _ s) (.refl s)

theorem clockNoticeEvent_keeps (s : State) : BlockKeeps s (clockNoticeEvent s) := by
  unfold clockNoticeEvent
  split
  · exact .refl s
  · exact ((BlockKeeps.refl s).setMail _).trans (takeClockNotice_keeps _ _)

/-- A clock whose pending set is dropped. -/
theorem setLapsedEvent_keeps (s : State) : BlockKeeps s (setLapsedEvent s) := by
  unfold setLapsedEvent
  split
  · exact .refl s
  · exact .ite (((BlockKeeps.refl s).setClock { s.clock with pendingSet := none } fun h =>
      { h with pending := fun _ hp => by cases hp }).raise _) (.refl s)

theorem tick_keeps (s : State) : BlockKeeps s (tick s) where
  clock := ClockInv.tick
  robots h :=
    { h with
      robots := fun r => by
        have hr := h.robots r
        rw [show (tick s).robots.table.get r = _ from PerRobot.get_map ..]
        exact { hr with } }
  ownership := .congr
    (fun r => by simp only [State.atHome, tick, PerRobot.get_map]) rfl rfl rfl

/-! ### The Switch Watch -/

theorem sendLoss_keeps (p : SwPort) (s : State) : BlockKeeps s (sendLoss p s) := by
  unfold sendLoss
  split <;> first | exact .refl s | exact (BlockKeeps.refl s).setMail _

theorem sendReturn_keeps (p : SwPort) (s : State) : BlockKeeps s (sendReturn p s) := by
  unfold sendReturn
  split <;> first | exact .refl s | exact (BlockKeeps.refl s).setMail _

theorem sendForUpPorts_keeps {send : SwPort → State → State}
    (h : ∀ p s, BlockKeeps s (send p s)) (s : State) : BlockKeeps s (sendForUpPorts send s) :=
  .foldl (fun s p => .ite (h p s) (.refl s)) allPorts s

theorem decodePortWord_keeps (p : SwPort) (w : Word) (s : State) :
    BlockKeeps s (decodePortWord p w s) := by
  unfold decodePortWord
  extract_lets e count d e1 s1 s2 up e2 s3 r s4
  have counted : BlockKeeps s s1 := (BlockKeeps.refl s).setPort _ _
  have burst : BlockKeeps s s2 := .ite (counted.raise _) counted
  have linked : BlockKeeps s s3 := burst.setPort _ _
  have reported : BlockKeeps s r := .ite (linked.raise _) linked
  have noticed : BlockKeeps s s4 :=
    .ite (.ite reported (.ite (reported.trans (sendReturn_keeps p r))
      (reported.trans (sendLoss_keeps p r)))) linked
  exact noticed.setPort _ _

theorem decodeHeartbeat_keeps (w : Word) (s : State) : BlockKeeps s (decodeHeartbeat w s) := by
  unfold decodeHeartbeat
  extract_lets sq before restart b after s1 mail s2
  have alive : BlockKeeps s s1 := (BlockKeeps.refl s).setSwitch _
  have noticed : BlockKeeps s s2 :=
    .ite ((alive.setMail _).trans (sendForUpPorts_keeps sendReturn_keeps _)) alive
  exact .ite (.refl s) (.ite (noticed.raise _) noticed)

theorem decodeMailboxWord_keeps (o : Nat) (w : WriteWord) (s : State) :
    BlockKeeps s (decodeMailboxWord o w s) := by
  unfold decodeMailboxWord
  refine .ite (.refl s) (.ite ((BlockKeeps.refl s).setSwitch _)
    (.ite (decodeHeartbeat_keeps _ s) ?_))
  split
  · exact decodePortWord_keeps _ _ s
  · exact .refl s

theorem decodeMailbox_keeps (o : Nat) (ws : List WriteWord) (s : State) :
    BlockKeeps s (decodeMailbox o ws s) := by
  induction ws generalizing o s with
  | nil => exact .refl s
  | cons w ws ih => exact (decodeMailboxWord_keeps o w s).trans (ih _ _)

theorem switchTimeoutEvent_keeps (s : State) : BlockKeeps s (switchTimeoutEvent s) :=
  .ite (((((BlockKeeps.refl s).setSwitch _).raise _).setMail _).trans
    (sendForUpPorts_keeps sendLoss_keeps _)) (.refl s)

theorem clearLatchesFrom_keeps (o n : Nat) (s : State) :
    BlockKeeps s (clearLatchesFrom o n s) := by
  refine .foldl (fun s i => ?_) _ s
  split
  · exact (BlockKeeps.refl s).setPort _ _
  · exact .refl s

/-! ### The limiters, the keepalive and the take index -/

theorem countDenial_keeps (m : Master) (p : Particulars) (s : State) :
    BlockKeeps s (countDenial m p s) := by
  unfold countDenial
  dsimp only
  split
  · exact ((BlockKeeps.refl s).setLimiter _ _).raise _
  · exact (BlockKeeps.refl s).setLimiter _ _

theorem limiterWindowEvent_keeps (m : Master) (s : State) :
    BlockKeeps s (limiterWindowEvent m s) := by
  have quiet (l : Limiter) : BlockKeeps s (setLimiter m l s) := (BlockKeeps.refl s).setLimiter _ _
  have ended : ∀ n latest, BlockKeeps s (endLimiterWindow m n latest s) := by
    intro n latest
    cases latest with
    | none => exact quiet _
    | some p => exact .ite ((quiet _).raise _) (quiet _)
  unfold limiterWindowEvent
  split
  · exact .refl s
  · exact .ite (ended _ _) (.refl s)

theorem keepaliveValue_keeps (v : Word) (s : State) : BlockKeeps s (keepaliveValue v s) := by
  have changed : BlockKeeps s (keepaliveChange v s) := by
    unfold keepaliveChange
    dsimp only
    split
    · exact (BlockKeeps.refl s).setKeepalive _
    · exact (BlockKeeps.refl s).setKeepalive _
    · exact ((BlockKeeps.refl s).setKeepalive _).setMail _
  exact .ite (.refl s) changed

theorem keepaliveLapsedEvent_keeps (s : State) : BlockKeeps s (keepaliveLapsedEvent s) :=
  .ite ((((BlockKeeps.refl s).setKeepalive _).raise _).setMail _) (.refl s)

theorem takeIndexValue_keeps (v : Word) (s : State) : BlockKeeps s (takeIndexValue v s) :=
  .ite ((BlockKeeps.refl s).setWriter _) (.refl s)

end Sys2Proof.Machine

namespace Sys2Proof.Machine

/-! ### One robot's entry -/

/-- The robot is LINE's with no transfer pending. -/
def RobotEntry.home (e : RobotEntry) : Prop := e.owner = .line ∧ e.transferPending = false

/-- The entry without its pending transfer: what step 6 of R82 does not wait for. -/
def RobotEntry.unpended (e : RobotEntry) : RobotEntry := { e with transferPending := false }

/-- An event takes the entry `e` to `e'` without moving the robot to or from SERVICE. -/
structure EntryKeeps (e e' : RobotEntry) : Prop where
  inv : e.Inv → e'.Inv
  home : e'.home ↔ e.home

/-- What entry to a state asks of the entry before and of the causes that the rule names. -/
def RobotEntry.mayEnter (e : RobotEntry) (hold : Option HoldCause) (fault : Option FaultCause) :
    RobotState → Prop
  | .starting => True
  | .silent => True
  | .ready => e.state.heartbeatRuns = true
  | .held => e.state.heartbeatRuns = true ∧ hold ≠ none
  | .faulted => fault ≠ none
  | .offline => False
  | .ordered => False
  | .filling => False

theorem RobotEntry.Inv.unpended {e : RobotEntry} (h : e.Inv) : e.unpended.Inv :=
  { h with pending := nofun }

theorem heartbeatRuns_iff (st : RobotState) :
    st.heartbeatRuns = true ↔ st ∈ [.starting, .ready, .ordered, .filling, .held] := by
  cases st <;> simp [RobotState.heartbeatRuns]

/-- Steps 1 to 4 of R82 keep the entry's invariant but for a pending transfer. -/
theorem RobotEntry.Inv.entered {e : RobotEntry} (h : e.unpended.Inv) (now : Micros)
    {new : RobotState} {hold : Option HoldCause} {fault : Option FaultCause}
    (hm : e.mayEnter hold fault new) : (e.entered now new hold fault).unpended.Inv := by
  have htimer := h.heartbeat
  have hfault := h.fault
  have horder := h.order
  simp only [RobotEntry.unpended] at htimer hfault horder
  cases new <;> simp only [RobotEntry.mayEnter, heartbeatRuns_iff] at hm
  all_goals
    refine { h with
      flow := ?_, still := ?_, heartbeat := ?_, pickup := ?_, fill := ?_, record := ?_, held := ?_
      causes := ?_, fault := ?_, ordered := ?_, order := ?_, pending := ?_ } <;>
    simp_all [RobotEntry.entered, RobotState.working, RobotEntry.unpended]

/-- What a transfer may wait for: a LINE-owned robot that is not OFFLINE. -/
def RobotEntry.mayPend (e : RobotEntry) : Prop :=
  e.transferPending = true → e.owner = .line ∧ e.state ≠ .offline

theorem RobotEntry.Inv.mayPend {e : RobotEntry} (h : e.Inv) : e.mayPend := fun hp => by
  have := h.pending hp
  simp_all

/-- A robot that passes to SERVICE (R102). -/
theorem takeTransfer_inv (r : Robot) (now : Micros) (c : RobotChange)
    (h : c.entry.unpended.Inv) : (c.takeTransfer r now).entry.Inv := by
  unfold RobotChange.takeTransfer
  dsimp only
  split_ifs with hs
  · have hm : ({ c.entry with owner := .service, transferPending := false } : RobotEntry).mayEnter
        none none .ready := by
      rcases hs with hs | hs <;> simp [RobotEntry.mayEnter, hs, RobotState.heartbeatRuns]
    have hu : ({ c.entry with owner := .service, transferPending := false } :
        RobotEntry).unpended.Inv := { h with pending := nofun }
    exact { hu.entered now hm with pending := nofun }
  · have hf := h.flow
    have hh : c.entry.state ≠ .held := fun hc => hs (.inr hc)
    exact { h with
      flow := Nat.zero_le _
      still := fun _ => rfl
      held := fun hc => absurd hc hh
      causes := fun hc => absurd rfl hc
      pending := nofun }

/-- Step 6 of R82 completes the invariant of an entry in which a transfer may wait. -/
theorem settlePending_inv (r : Robot) (now : Micros) (c : RobotChange)
    (h : c.entry.unpended.Inv) (hp : c.entry.mayPend) :
    (c.settlePending r now).entry.Inv := by
  unfold RobotChange.settlePending
  split_ifs with hs
  · exact takeTransfer_inv r now c h
  · refine { h with pending := fun hpend => ?_ }
    obtain ⟨howner, hstate⟩ := hp hpend
    have : c.entry.state ≠ .ready := fun hr => hs ⟨hr, hpend⟩
    simp [howner, hstate, this]

theorem takeTransfer_away (r : Robot) (now : Micros) (c : RobotChange) :
    ¬ (c.takeTransfer r now).entry.home := fun h => by
  simpa [(takeTransfer_entry r now c).1] using h.1

theorem settlePending_home (r : Robot) (now : Micros) (c : RobotChange) :
    (c.settlePending r now).entry.home ↔ c.entry.home := by
  unfold RobotChange.settlePending
  split_ifs with hs
  · exact iff_of_false (takeTransfer_away r now c) fun h => by simp [h.2] at hs
  · rfl

namespace EntryKeeps

theorem refl (e : RobotEntry) : EntryKeeps e e := ⟨id, Iff.rfl⟩

theorem trans {a b c : RobotEntry} (h : EntryKeeps a b) (g : EntryKeeps b c) : EntryKeeps a c :=
  ⟨fun x => g.inv (h.inv x), g.home.trans h.home⟩

theorem ite {a : RobotEntry} {b d : RobotChange} {c : Prop} [Decidable c]
    (hb : c → EntryKeeps a b.entry) (hd : ¬c → EntryKeeps a d.entry) :
    EntryKeeps a (if c then b else d).entry := by
  split_ifs with h
  · exact hb h
  · exact hd h

end EntryKeeps

/-- A change of state with all the steps of R82. -/
theorem enter_keeps (r : Robot) (now : Micros) {new : RobotState} {hold : Option HoldCause}
    {fault : Option FaultCause} (cause : RobotCause) (c : RobotChange)
    (hm : c.entry.mayEnter hold fault new) :
    EntryKeeps c.entry (c.enter r now new hold fault cause).entry where
  inv h := settlePending_inv r now _ (h.unpended.entered now hm) fun hp =>
    ⟨(h.mayPend hp).1, fun ho => by
      change new = .offline at ho
      simp [ho, RobotEntry.mayEnter] at hm⟩
  home := (settlePending_home r now _).trans Iff.rfl

/-! ### Quarantine and heartbeats (R85 to R89, R94) -/

/-- An entry of which only values that no other field depends on are written. -/
theorem setRun_keeps (e : RobotEntry) (n : Nat) (hn : n ≤ 15) :
    EntryKeeps e { e with run := n } := ⟨fun h => { h with run := hn }, Iff.rfl⟩

theorem active_heartbeatRuns {st : RobotState} (h : st.active = true) :
    st.heartbeatRuns = true := by
  cases st <;> simp_all [RobotState.active, RobotState.heartbeatRuns]

theorem holdTest_keeps (r : Robot) (s : State) (c : RobotChange) :
    EntryKeeps c.entry (c.holdTest r s).entry := by
  unfold RobotChange.holdTest
  extract_lets e d
  refine .ite (fun _ => .refl _) fun _ => .ite (fun ha => ?_) fun _ => .ite (fun hs => ?_)
    fun _ => .refl _
  · exact enter_keeps r s.now .quarantine d ⟨active_heartbeatRuns ha, by simp⟩
  · refine ⟨fun h => { h with
      held := fun _ => by simp [RobotChange.put]
      causes := fun _ => ?_ }, Iff.rfl⟩
    change e.state ∈ _
    rcases hs.1 with hs | hs <;> simp [hs]

theorem passCredit_keeps (c : RobotChange) : EntryKeeps c.entry c.passCredit.entry := by
  unfold RobotChange.passCredit
  split
  · exact .refl _
  · exact setRun_keeps c.entry 0 (Nat.zero_le _)

theorem rejectCredit_keeps (r : Robot) (s : State) (c : RobotChange) :
    EntryKeeps c.entry (c.rejectCredit r s).entry := by
  unfold RobotChange.rejectCredit
  split
  · exact .refl _
  · exact (setRun_keeps c.entry (min (c.entry.run + 1) 15) (Nat.min_le_right ..)).trans
      (holdTest_keeps r s (c.put { c.entry with run := min (c.entry.run + 1) 15 }))

theorem deviationCheck_keeps (r : Robot) (s : State) (tag : BitVec 16) (d g : Nat)
    (c : RobotChange) : EntryKeeps c.entry (c.deviationCheck r s tag d g).entry :=
  .ite (fun _ => rejectCredit_keeps r s (c.note _)) fun _ => .refl _

/-- A fill that ends in a state in which the heartbeat timer runs. -/
theorem endFill_keeps (r : Robot) (s : State) (rec : StatusRecord) (g : Option Nat)
    (c : RobotChange) (hr : c.entry.state.heartbeatRuns = true) :
    EntryKeeps c.entry (c.endFill r s rec g).entry := by
  have hd := enter_keeps (hold := none) (fault := none) r s.now .fillEnd c (new := .ready) hr
  unfold RobotChange.endFill
  dsimp only
  split
  · exact .ite (fun _ => hd.trans (deviationCheck_keeps ..)) fun _ => hd
  · exact hd

theorem countMismatch_keeps (c : RobotChange) : EntryKeeps c.entry c.countMismatch.entry :=
  ⟨fun h => { h with }, Iff.rfl⟩

/-- A picked-up order is with the robot in FILLING with its fill record (R87). -/
theorem pickUp_keeps (now : Micros) (tag : BitVec 16) (c : RobotChange)
    (hs : c.entry.state = .ordered) : EntryKeeps c.entry (c.pickUp now tag).entry where
  inv h := by
    have htimer := h.heartbeat
    have hhold := h.causes
    have hfault := h.fault
    have hpend := h.pending
    refine { h with
      still := ?_, heartbeat := ?_, pickup := ?_, fill := ?_, record := ?_
      held := ?_, causes := ?_, fault := ?_, ordered := ?_, pending := ?_ } <;>
      simp_all [RobotChange.pickUp, RobotChange.move, RobotChange.put, RobotChange.note,
        RobotEntry.entered, RobotState.working]
  home := Iff.rfl

theorem conditionOrdered_keeps (r : Robot) (s : State) (rec : StatusRecord) (c : RobotChange)
    (hs : c.entry.state = .ordered) :
    EntryKeeps c.entry (c.conditionOrdered r s rec).entry := by
  have hr : c.entry.state.heartbeatRuns = true := by rw [hs]; rfl
  unfold RobotChange.conditionOrdered
  dsimp only
  split
  · exact .refl _
  · exact .refl _
  · exact .ite (fun _ => pickUp_keeps _ _ c hs) fun _ => countMismatch_keeps c
  · exact .ite (fun _ => endFill_keeps r s rec _ c hr) fun _ => countMismatch_keeps c
  · exact .ite (fun _ => endFill_keeps r s rec _ c hr) fun _ => countMismatch_keeps c

theorem conditionFilling_keeps (r : Robot) (s : State) (rec : StatusRecord) (c : RobotChange)
    (hs : c.entry.state = .filling) :
    EntryKeeps c.entry (c.conditionFilling r s rec).entry := by
  have hr : c.entry.state.heartbeatRuns = true := by rw [hs]; rfl
  unfold RobotChange.conditionFilling
  dsimp only
  split
  · exact .refl _
  · exact .refl _
  · exact .ite (fun _ => .refl _) fun _ => countMismatch_keeps c
  · exact .ite (fun _ => endFill_keeps r s rec _ c hr) fun _ => countMismatch_keeps c
  · exact .ite (fun _ => endFill_keeps r s rec _ c hr) fun _ => countMismatch_keeps c

theorem restartHeartbeat_keeps (now : Micros) (c : RobotChange)
    (hr : c.entry.state.heartbeatRuns = true) :
    EntryKeeps c.entry (c.restartHeartbeat now).entry :=
  ⟨fun h => { h with
    heartbeat := iff_of_true (by simp [RobotChange.restartHeartbeat, RobotChange.put])
      ((heartbeatRuns_iff _).1 hr) }, Iff.rfl⟩

theorem leaveStarting_keeps (r : Robot) (s : State) (c : RobotChange)
    (hs : c.entry.state = .starting) : EntryKeeps c.entry (c.leaveStarting r s).entry := by
  have hr : c.entry.state.heartbeatRuns = true := by rw [hs]; rfl
  unfold RobotChange.leaveStarting
  dsimp only
  refine .ite (fun _ => ?_) fun _ => .refl _
  split
  · exact enter_keeps r s.now _ c ⟨hr, by simp⟩
  · exact .ite (fun _ => enter_keeps r s.now _ c ⟨hr, by simp⟩) fun _ =>
      enter_keeps r s.now _ c (new := .ready) hr

theorem heartbeatByState_keeps (r : Robot) (s : State) (rec : StatusRecord) (c : RobotChange) :
    EntryKeeps c.entry (c.heartbeatByState r s rec).entry := by
  have restarted (hr : c.entry.state.heartbeatRuns = true) := restartHeartbeat_keeps s.now c hr
  unfold RobotChange.heartbeatByState
  split
  · exact .refl _
  · exact .refl _
  · next hs => exact (restarted (by rw [hs]; rfl)).trans (leaveStarting_keeps r s _ hs)
  · next hs => exact restarted (by rw [hs]; rfl)
  · next hs => exact restarted (by rw [hs]; rfl)
  · next hs => exact (restarted (by rw [hs]; rfl)).trans (conditionOrdered_keeps r s rec _ hs)
  · next hs => exact (restarted (by rw [hs]; rfl)).trans (conditionFilling_keeps r s rec _ hs)
  · exact .ite (fun _ => enter_keeps r s.now _ c (new := .starting) trivial) fun _ => .refl _

theorem faultReported_keeps (r : Robot) (now : Micros) (rec : StatusRecord) (c : RobotChange) :
    EntryKeeps c.entry (c.faultReported r now rec).entry := by
  have hcoded : EntryKeeps c.entry (c.put { c.entry with faultCode := rec.faultCode }).entry :=
    ⟨fun h => { h with }, Iff.rfl⟩
  have hfaulted := hcoded.trans (enter_keeps r now .faultReported _ (new := .faulted)
    (hold := none) (fault := some .reported) (by simp [RobotEntry.mayEnter]))
  unfold RobotChange.faultReported
  dsimp only
  split
  · exact .refl _
  · exact hcoded
  all_goals exact hfaulted

theorem validHeartbeat_keeps (r : Robot) (s : State) (rec : StatusRecord) (c : RobotChange) :
    EntryKeeps c.entry (c.validHeartbeat r s rec).entry := by
  have hd : EntryKeeps c.entry (c.put { c.entry with
      lastHeartbeat := some rec.heartbeat, lastValid := some (.of s.now) }).entry :=
    ⟨fun h => { h with }, Iff.rfl⟩
  exact hd.trans (.ite (fun _ => faultReported_keeps ..) fun _ => heartbeatByState_keeps ..)

/-! ### Orders (R108) -/

/-- The order that a robot takes: a volume exactly with FILL, and inside every envelope's bound. -/
def Order.ok (o : Order) : Prop :=
  (o.volume ≠ none ↔ o.mode = .fill) ∧ ∀ v, o.volume = some v → v ≤ 30000

/-- A passed FILL: the robot is ORDERED with it, in READY and ORDERED alike. -/
theorem passFill_keeps (r : Robot) (now : Micros) (tag : BitVec 16) (v f h : Nat) (g : Guarded)
    (c : RobotChange) (hs : c.entry.state = .ready ∨ c.entry.state = .ordered)
    (hg : c.entry.Inv → g.v ≤ 30000 ∧ g.f ≤ 1000) :
    EntryKeeps c.entry (c.passFill r now tag v f h g).entry := by
  have hfill : (c.passFill r now tag v f h g).entry =
      ((c.orderFill now).takeOrder { tag := tag, mode := .fill, volume := some g.v } g.f).entry := by
    unfold RobotChange.passFill
    dsimp only
    split_ifs <;> rfl
  rw [hfill]
  refine ⟨fun hi => ?_, ?_⟩
  · have htimer := hi.heartbeat
    have hhold := hi.causes
    have hfault := hi.fault
    have hpend := hi.pending
    have hrecord := hi.record
    have hfilltimer := hi.fill
    obtain ⟨hv, hf⟩ := hg hi
    unfold RobotChange.orderFill
    rcases hs with hs | hs <;> simp only [hs] <;>
    refine { hi with
      flow := hf, still := ?_, heartbeat := ?_, pickup := ?_, fill := ?_, record := ?_
      held := ?_, causes := ?_, fault := ?_, ordered := ?_, order := ?_, pending := ?_ } <;>
      simp_all [RobotChange.takeOrder, RobotChange.move, RobotChange.put, RobotChange.note,
        RobotEntry.entered, RobotState.working]
  · unfold RobotChange.orderFill
    rcases hs with hs | hs <;> simp only [hs] <;> exact Iff.rfl

/-- An order without a volume taken where no FILL order is asked for. -/
theorem RobotEntry.Inv.takeStop {e : RobotEntry} (h : e.unpended.Inv) (hs : e.state ≠ .ordered)
    (tag : BitVec 16) (mode : OrderMode) (hm : mode ≠ .fill) :
    ({ e with order := some { tag := tag, mode := mode, volume := none }
              fresh := false, fp := 0 } : RobotEntry).unpended.Inv :=
  { h with
    flow := Nat.zero_le _
    still := fun _ => rfl
    ordered := fun hc => absurd hc hs
    order := fun o ho => by cases ho; simp [hm] }

/-- A passed HOLD or PARK. -/
theorem passStop_keeps (r : Robot) (now : Micros) (tag : BitVec 16) (mode : OrderMode)
    (hm : mode ≠ .fill) (c : RobotChange) :
    EntryKeeps c.entry (c.passStop r now tag mode).entry := by
  unfold RobotChange.passStop
  dsimp only
  refine .ite (fun hs => ⟨fun h => ?_, ?_⟩) fun hs => ⟨fun h => ?_, Iff.rfl⟩
  · have hready : c.entry.mayEnter none none .ready := by
      simp [RobotEntry.mayEnter, hs, RobotState.heartbeatRuns]
    have hentered := h.unpended.entered now hready
    exact settlePending_inv r now _ (hentered.takeStop (by simp [RobotEntry.entered]) tag mode hm)
      fun hp => ⟨(h.mayPend hp).1, nofun⟩
  · exact (settlePending_home r now _).trans Iff.rfl
  · exact { h.unpended.takeStop hs tag mode hm with pending := h.pending }

end Sys2Proof.Machine

namespace Sys2Proof.Machine

/-! ### The Robot Guard's operations -/

theorem setRobot_keeps (r : Robot) (e : RobotEntry) (s : State)
    (h : EntryKeeps (s.robot r) e) : BlockKeeps s (setRobot r e s) where
  robots hs :=
    { hs with
      robots := fun q => by
        change ((s.robots.table.set r e).get q).Inv
        by_cases hq : q = r
        · rw [hq, PerRobot.get_set_self]
          exact h.inv (hs.robots r)
        · rw [PerRobot.get_set_of_ne _ _ _ _ hq]
          exact hs.robots q }
  ownership := .congr (fun q => by
    change ((s.robots.table.set r e).get q).home ↔ _
    by_cases hq : q = r
    · rw [hq, PerRobot.get_set_self]
      exact h.home
    · rw [PerRobot.get_set_of_ne _ _ _ _ hq]
      exact Iff.rfl) rfl rfl rfl

/-- An event that moves one robot, not to SERVICE or back. -/
theorem changeRobot_keeps (r : Robot) (f : RobotChange → RobotChange) (s : State)
    (h : EntryKeeps (s.robot r).begin.entry (f (s.robot r).begin).entry) :
    BlockKeeps s (changeRobot r f s) :=
  ((setRobot_keeps r _ s h).raiseAll _).setMail _

/-- Robot r enters a state that its own allows. -/
theorem enterRobot_keeps (r : Robot) {new : RobotState} {hold : Option HoldCause}
    {fault : Option FaultCause} (cause : RobotCause) (s : State)
    (h : (s.robot r).mayEnter hold fault new) : BlockKeeps s (enter r new hold fault cause s) :=
  changeRobot_keeps r _ s (enter_keeps r s.now cause (s.robot r).begin h)

theorem statusWrite_keeps (m : Master) (o : Nat) (l : BurstLen) (ws : List WriteWord)
    (s : State) : BlockKeeps s (statusWrite m o l ws s) := by
  unfold statusWrite
  split
  · exact .refl s
  · exact .ite (changeRobot_keeps _ _ s (validHeartbeat_keeps _ s _ _)) (.refl s)

theorem guardFill_bounds {e : RobotEntry} (h : e.Inv) (flow v f hh : Nat) :
    (guardFill e flow v f hh).v ≤ 30000 ∧ (guardFill e flow v f hh).f ≤ 1000 := by
  have hv := h.volumes.2
  have hf := h.flows.1
  have heff : effectiveFmax e flow ≤ e.envelope.fmax := by
    unfold effectiveFmax
    split <;> omega
  simp only [guardFill]
  omega

/-- An order that its robot's state does not refuse (R107). -/
theorem passOrder_keeps (r : Robot) (mode : OrderMode) (ws : List WriteWord) (s : State)
    (h : (s.robot r).state.refuses mode = none) : BlockKeeps s (passOrder r mode ws s) := by
  cases mode with
  | fill =>
    have hs : (s.robot r).state = .ready ∨ (s.robot r).state = .ordered := by
      cases hs : (s.robot r).state <;> simp_all [RobotState.refuses]
    exact changeRobot_keeps r _ s (passFill_keeps r _ _ _ _ _ _ (s.robot r).begin hs fun hi =>
      guardFill_bounds (e := s.robot r) hi _ _ _ _)
  | hold => exact changeRobot_keeps r _ s (passStop_keeps r _ _ .hold nofun _)
  | park => exact changeRobot_keeps r _ s (passStop_keeps r _ _ .park nofun _)

theorem heartbeatTimeoutEvent_keeps (r : Robot) (s : State) :
    BlockKeeps s (heartbeatTimeoutEvent r s) :=
  .ite (enterRobot_keeps r _ s (new := .silent) trivial) (.refl s)

theorem pickupTimeoutEvent_keeps (r : Robot) (s : State) :
    BlockKeeps s (pickupTimeoutEvent r s) :=
  .ite (enterRobot_keeps r _ s (new := .faulted) (by simp [RobotEntry.mayEnter])) (.refl s)

theorem fillTimeoutEvent_keeps (r : Robot) (s : State) : BlockKeeps s (fillTimeoutEvent r s) :=
  .ite (enterRobot_keeps r _ s (new := .faulted) (by simp [RobotEntry.mayEnter])) (.refl s)

theorem linkNoticeEvent_keeps (s : State) : BlockKeeps s (linkNoticeEvent s) := by
  unfold linkNoticeEvent
  split
  · exact .refl s
  · exact ((BlockKeeps.refl s).setMail _).trans (.foldl (fun u r =>
      .ite (enterRobot_keeps r _ u (new := .silent) trivial) (.refl u)) allRobots _)
  · exact (BlockKeeps.refl s).setMail _

theorem creditEvent_keeps (s : State) : BlockKeeps s (creditEvent s) := by
  unfold creditEvent
  split
  · exact .refl s
  · exact ((BlockKeeps.refl s).setMail _).trans
      (changeRobot_keeps _ _ _ (passCredit_keeps _))
  · exact ((BlockKeeps.refl s).setMail _).trans
      (changeRobot_keeps _ _ _ (rejectCredit_keeps _ s _))

theorem setLapsed_keeps (b : Bool) (s : State) :
    BlockKeeps s (s.setRobots { s.robots with lapsed := b }) where
  robots h := { h with }

theorem keepaliveNoticeEvent_keeps (s : State) : BlockKeeps s (keepaliveNoticeEvent s) := by
  unfold keepaliveNoticeEvent
  split
  · exact .refl s
  · refine (((BlockKeeps.refl s).setMail _).trans (setLapsed_keeps true _)).trans
      (.foldl (fun u r => .iteOf (fun hr => ?_) fun _ => .refl u) allRobots _)
    exact enterRobot_keeps r _ u (new := .held) ⟨active_heartbeatRuns hr.2, by simp⟩
  · exact ((BlockKeeps.refl s).setMail _).trans (setLapsed_keeps false _)

/-! ### Ownership (R102, R103, R147, R151) -/

/-- The staging queue is as long as before, or longer and within its size. -/
def StagingGrows (s t : State) : Prop :=
  t.staging.length = s.staging.length ∨
    s.staging.length < t.staging.length ∧ t.staging.length ≤ 8

namespace StagingGrows

theorem refl (s : State) : StagingGrows s s := .inl rfl

theorem trans {s t u : State} (h : StagingGrows s t) (g : StagingGrows t u) :
    StagingGrows s u := by
  unfold StagingGrows at *
  omega

theorem raiseAll (rs : List Report) (s : State) : StagingGrows s (raiseAll rs s) := by
  induction rs generalizing s with
  | nil => exact .refl s
  | cons r rs ih => exact StagingGrows.trans (raise_length r s) (ih _)

theorem changeRobot (r : Robot) (f : RobotChange → RobotChange) (s : State) :
    StagingGrows s (changeRobot r f s) := raiseAll _ (setRobot r (f (s.robot r).begin).entry s)

end StagingGrows

/-- An event of the Robot Guard and the Service Window: what it does to robots, messages and window
decides the rest. -/
theorem BlockKeeps.of_guardAndWindow {s t : State}
    (hf : t = { s with robots := t.robots, window := t.window, staging := t.staging
                       writer := t.writer, mail := t.mail })
    (hlen : StagingGrows s t) (hr : RobotsInv s → RobotsInv t) (hw : WindowInv s → WindowInv t)
    (ho : OwnershipInv s → OwnershipInv t) : BlockKeeps s t where
  clock := .congr (by rw [hf])
  map := .congr (by rw [hf])
  pacing _ := .congr (by rw [hf])
  robots := hr
  ownership := ho
  tracker := .congr (by rw [hf]) (by rw [hf])
  window := hw
  traffic h := h.longer (by rw [hf]) (by rw [hf]) hlen
  transit := by rw [hf]

/-- What the ownership invariant says of one robot: by the window's state and the robot's outcome, the
messages on their way and whether the robot is at home. -/
def Accounted (r : Robot) (home : Prop) (msgs : List TransferMsg) :
    WindowState → Option RobotOutcome → Prop
  | .opened, some _ => (msgs = [.request r] ∧ home) ∨ (msgs = [] ∧ ¬home)
  | .draining, some o =>
      (o = .returnSent ∧ ((msgs = [.request r, .giveBack r] ∧ home) ∨
        (msgs = [.giveBack r] ∧ ¬home))) ∨ (o ≠ .returnSent ∧ msgs = [] ∧ home)
  | _, _ => msgs = [] ∧ home

/-- The account of robot r in the state `s`. -/
def State.accounted (s : State) (r : Robot) : Prop :=
  Accounted r (s.atHome r) (s.messagesFor r) s.window.state (s.window.robotSet.get r)

theorem ownershipInv_iff (s : State) : OwnershipInv s ↔ ∀ r, s.accounted r := by
  constructor
  · intro h r
    have houtside := h.outside r
    have hopened := h.opened r
    have hdraining := h.draining r
    simp only [State.inSet] at houtside hopened hdraining
    unfold State.accounted
    generalize s.window.robotSet.get r = o, s.window.state = st at *
    cases st <;> cases o <;> simp_all [Accounted]
  · intro h
    refine ⟨fun r hset => ?_, fun r hset hst => ?_, fun r hset hst => ?_⟩
    all_goals
      have hr := h r
      simp only [State.inSet] at hset
      unfold State.accounted at hr
      generalize s.window.robotSet.get r = o, s.window.state = st at *
    · cases st <;> cases o <;> simp_all [Accounted]
    · cases o <;> simp_all [Accounted]
    · cases o <;> simp_all [Accounted]

/-- Taking the oldest message leaves the messages about the other robots. -/
theorem messagesFor_cons {s t : State} {x : TransferMsg} {rest : List TransferMsg}
    (hm : s.mail.transfers = x :: rest) (ht : t.mail.transfers = rest) (r : Robot) :
    s.messagesFor r = if x.robot = r then x :: t.messagesFor r else t.messagesFor r := by
  unfold State.messagesFor
  rw [hm, ht, List.filter_cons]
  simp

/-- A message about robot r is taken, and what it does concerns r alone. -/
theorem OwnershipInv.takeMessage {s t : State} {x : TransferMsg} {rest : List TransferMsg}
    (h : OwnershipInv s) (hm : s.mail.transfers = x :: rest) (ht : t.mail.transfers = rest)
    (hw : t.window.state = s.window.state)
    (hs : ∀ q, q ≠ x.robot → t.window.robotSet.get q = s.window.robotSet.get q)
    (ho : ∀ q, q ≠ x.robot → (t.atHome q ↔ s.atHome q))
    (hr : s.messagesFor x.robot = x :: t.messagesFor x.robot → s.accounted x.robot →
      t.accounted x.robot) : OwnershipInv t := by
  rw [ownershipInv_iff] at h ⊢
  intro q
  have hmsg := messagesFor_cons hm ht q
  by_cases hq : x.robot = q
  · subst hq
    rw [if_pos rfl] at hmsg
    exact hr hmsg (h _)
  · rw [if_neg hq] at hmsg
    have hacc := h q
    unfold State.accounted at hacc ⊢
    rw [hw, hs q (Ne.symm hq), ← hmsg, propext (ho q (Ne.symm hq))]
    exact hacc

/-- A taken request leaves its robot with SERVICE or with the transfer pending. -/
theorem OwnershipInv.takeRequest {s t : State} {r : Robot} {rest : List TransferMsg}
    (h : OwnershipInv s) (hm : s.mail.transfers = .request r :: rest)
    (ht : t.mail.transfers = rest) (hw : t.window = s.window) (hr : ¬ t.atHome r)
    (ho : ∀ q, q ≠ r → (t.atHome q ↔ s.atHome q)) : OwnershipInv t := by
  refine h.takeMessage hm ht (by rw [hw]) (fun q _ => by rw [hw]) ho fun hmsg hacc => ?_
  change s.messagesFor r = .request r :: t.messagesFor r at hmsg
  change t.accounted r
  change s.accounted r at hacc
  unfold State.accounted at hacc ⊢
  rw [hw]
  rw [hmsg] at hacc
  generalize s.window.robotSet.get r = o at *
  cases hst : s.window.state <;> cases o <;> simp_all [Accounted]

/-- A taken return leaves its robot at home, and its outcome says so. -/
theorem OwnershipInv.takeReturn {s t : State} {r : Robot} {rest : List TransferMsg}
    (h : OwnershipInv s) (hm : s.mail.transfers = .giveBack r :: rest)
    (ht : t.mail.transfers = rest) (hw : t.window.state = s.window.state)
    (hs : ∀ q, q ≠ r → t.window.robotSet.get q = s.window.robotSet.get q)
    (ho : ∀ q, q ≠ r → (t.atHome q ↔ s.atHome q))
    (hr : ¬ s.atHome r → s.window.robotSet.get r ≠ none → t.atHome r ∧
      ∃ o, o ≠ .returnSent ∧ t.window.robotSet.get r = some o) : OwnershipInv t := by
  refine h.takeMessage hm ht hw hs ho fun hmsg hacc => ?_
  change s.messagesFor r = .giveBack r :: t.messagesFor r at hmsg
  change t.accounted r
  change s.accounted r at hacc
  unfold State.accounted at hacc ⊢
  rw [hw]
  rw [hmsg] at hacc
  generalize s.window.robotSet.get r = o, s.window.state = st at *
  rcases st with _ | _ | _ | _ <;> rcases o with _ | x
  case draining.some =>
    have hreturn : t.messagesFor r = [] ∧ ¬ s.atHome r := by simp_all [Accounted]
    obtain ⟨hhome, y, hy, hset⟩ := hr hreturn.2 nofun
    rw [hset]
    exact .inr ⟨hy, hreturn.1, hhome⟩
  all_goals simp_all [Accounted]

end Sys2Proof.Machine

namespace Sys2Proof.Machine

theorem changeRobot_robot_self (r : Robot) (f : RobotChange → RobotChange) (s : State) :
    (changeRobot r f s).robot r = (f (s.robot r).begin).entry := by
  simp [State.robot, changeRobot_robots]

theorem changeRobot_robot_of_ne {r q : Robot} (hq : q ≠ r) (f : RobotChange → RobotChange)
    (s : State) : (changeRobot r f s).robot q = s.robot q := by
  simp [State.robot, changeRobot_robots, PerRobot.get_set_of_ne _ _ _ _ hq]

/-- The robots' invariant after a change of one of them. -/
theorem RobotsInv.changeRobot {s : State} (h : RobotsInv s) (r : Robot)
    (f : RobotChange → RobotChange)
    (hi : (s.robot r).begin.entry.Inv → (f (s.robot r).begin).entry.Inv) :
    RobotsInv (changeRobot r f s) := by
  refine ⟨fun q => ?_, ?_, ?_⟩
  · change ((Machine.changeRobot r f s).robot q).Inv
    by_cases hq : q = r
    · rw [hq, changeRobot_robot_self]
      exact hi (h.robots r)
    · rw [changeRobot_robot_of_ne hq]
      exact h.robots q
  · rw [changeRobot_robots]
    exact h.limit
  · rw [changeRobot_robots]
    exact h.serviceFlow

/-! ### Transfer requests (R102) -/

theorem takeTransfer_of_invariant (r : Robot) (now : Micros) (c : RobotChange)
    (h : c.entry.Inv) : (c.takeTransfer r now).entry.Inv :=
  takeTransfer_inv r now c h.unpended

/-- A transfer that waits for the robot's entry to READY. -/
theorem pendTransfer_inv (r : Robot) (c : RobotChange) (h : c.entry.Inv)
    (ho : c.entry.owner = .line) (hs : c.entry.state ∉ [.ready, .offline]) :
    (c.pendTransfer r).entry.Inv := { h with pending := fun _ => ⟨ho, hs⟩ }

theorem requestTransfer_inv (r : Robot) (now : Micros) (c : RobotChange) (h : c.entry.Inv) :
    (c.requestTransfer r now).entry.Inv := by
  unfold RobotChange.requestTransfer
  split
  · exact h
  · next ho =>
    split
    case h_1 | h_2 | h_3 | h_4 => exact takeTransfer_of_invariant r now c h
    all_goals
      next hs => exact pendTransfer_inv r c h ho (by simp [hs])

/-- After a transfer request the robot is SERVICE's, or its transfer is pending. -/
theorem requestTransfer_away (r : Robot) (now : Micros) (c : RobotChange) :
    ¬ (c.requestTransfer r now).entry.home := by
  unfold RobotChange.requestTransfer
  split
  · next ho => simp [RobotEntry.home, ho]
  · split
    case h_1 | h_2 | h_3 | h_4 => exact takeTransfer_away r now c
    all_goals exact fun h => nomatch h.2

theorem transferRequestEvent_keeps (s : State) : BlockKeeps s (transferRequestEvent s) := by
  unfold transferRequestEvent
  split
  · next r rest hm =>
    let s1 := s.setMail { s.mail with transfers := rest }
    let f := RobotChange.requestTransfer r s.now
    have hwin : (changeRobot r f s1).window = s.window := by rw [changeRobot_only r f s1]; rfl
    refine .of_guardAndWindow (s := s) ?_ (StagingGrows.changeRobot r f s1)
      (fun h => RobotsInv.changeRobot (s := s1) (RobotsInv.congr (s := s) rfl h) r f (requestTransfer_inv r _ _))
      (.congr hwin (by rw [changeRobot_only]; rfl)) fun h => h.takeRequest hm ?_ hwin ?_ ?_
    · rw [changeRobot_only]; rfl
    · rw [changeRobot_mail]; rfl
    · intro hhome
      change ((changeRobot r f s1).robot r).home at hhome
      rw [changeRobot_robot_self] at hhome
      exact requestTransfer_away r _ _ hhome
    · intro q hq
      change ((changeRobot r f s1).robot q).home ↔ _
      rw [changeRobot_robot_of_ne hq]
      exact Iff.rfl
  · exact .refl s
  · exact .refl s

/-! ### Returns (R103) -/

/-- A return gives the robot back to LINE in a state that its own allows. -/
theorem giveBack_inv (r : Robot) (now : Micros) (c : RobotChange) (h : c.entry.Inv) :
    (c.giveBack r now).entry.Inv := by
  let e : RobotEntry := { c.entry with owner := .line, transferPending := false }
  have he : e.Inv := { h with pending := nofun }
  have held (hr : e.state.heartbeatRuns = true) :
      ((c.put e).enter r now .held (some .serviceEnded) none .serviceReturn).entry.Inv :=
    (enter_keeps r now .serviceReturn (c.put e) (new := .held) ⟨hr, by simp⟩).inv he
  unfold RobotChange.giveBack
  dsimp only
  split
  case h_5 hs =>
    exact { he with
      held := fun _ => by simp [RobotChange.put]
      causes := fun _ => by simp [RobotChange.put, hs] }
  case h_6 | h_7 | h_8 => exact he
  all_goals
    next hs => exact held (by simp [e, hs, RobotState.heartbeatRuns])

theorem giveBack_home (r : Robot) (now : Micros) (c : RobotChange) :
    (c.giveBack r now).entry.home := by
  have held (e : RobotEntry) (h : e.home) :
      ((c.put e).enter r now .held (some .serviceEnded) none .serviceReturn).entry.home :=
    (settlePending_home r now _).2 h
  unfold RobotChange.giveBack
  dsimp only
  split
  case h_1 | h_2 | h_3 | h_4 => exact held _ ⟨rfl, rfl⟩
  all_goals exact ⟨rfl, rfl⟩

theorem setOutcome_robots (r : Robot) (o : RobotOutcome) (s : State) :
    (setOutcome r o s).robots = s.robots := by
  unfold setOutcome
  split <;> rfl

/-- Recording an outcome writes the robot set, of a robot that is in it. -/
theorem setOutcome_frame (r : Robot) (o : RobotOutcome) (s : State) :
    setOutcome r o s = { s with window := { s.window with
      robotSet := (setOutcome r o s).window.robotSet } } := by
  unfold setOutcome
  split <;> rfl

theorem setOutcome_of_mem {r : Robot} {s : State} (h : s.window.robotSet.get r ≠ none)
    (o : RobotOutcome) : (setOutcome r o s).window.robotSet.get r = some o := by
  unfold setOutcome
  split
  · contradiction
  · simp [setWin]

theorem setOutcome_of_ne {r q : Robot} (hq : q ≠ r) (o : RobotOutcome) (s : State) :
    (setOutcome r o s).window.robotSet.get q = s.window.robotSet.get q := by
  unfold setOutcome
  split
  · rfl
  · simp [setWin, PerRobot.get_set_of_ne _ _ _ _ hq]

/-- A change of the outcomes of robots that are in the set. -/
theorem WindowInv.outcomes {s t : State} (h : WindowInv s) {rs : PerRobot (Option RobotOutcome)}
    (hf : t.window = { s.window with robotSet := rs }) (hl : t.loader = s.loader)
    (hs : ∀ r, s.window.robotSet.get r = none → rs.get r = none) : WindowInv t := by
  obtain ⟨hclosed, hkeyed, hopened, hdeadline, hfew, hsession, hrefusal, hcond, hload⟩ := h
  refine ⟨?_, ?_, ?_, ?_, ?_, fun hst => ?_, ?_, ?_, ?_⟩ <;> simp only [hf, hl] at *
  all_goals try assumption
  obtain ⟨hgrants, hset⟩ := hsession hst
  exact ⟨hgrants, fun r => hs r (hset r)⟩

theorem setOutcome_none {r q : Robot} {s : State} (o : RobotOutcome)
    (h : s.window.robotSet.get q = none) : (setOutcome r o s).window.robotSet.get q = none := by
  by_cases hq : q = r
  · subst hq
    unfold setOutcome
    rw [h]
    exact h
  · rw [setOutcome_of_ne hq]
    exact h

/-- What the taking of a return for robot r does, with the robot's change in `u`. -/
theorem takenReturn_keeps {s u : State} {r : Robot} {rest : List TransferMsg} (o : RobotOutcome)
    (hm : s.mail.transfers = .giveBack r :: rest) (hu : RobotsOnly s u)
    (hmail : u.mail.transfers = rest) (hlen : StagingGrows s u) (hinv : RobotsInv s → RobotsInv u)
    (hhome : u.atHome r) (hothers : ∀ q, q ≠ r → u.robot q = s.robot q)
    (ho : o ≠ .returnSent) : BlockKeeps s (setOutcome r o u) := by
  have hwin : u.window = s.window := by rw [hu]
  have hload : u.loader = s.loader := by rw [hu]
  have hrob := setOutcome_robots r o u
  refine .of_guardAndWindow ?_ ?_ (fun h => (hinv h).congr hrob) (fun h => ?_) fun h => ?_
  · rw [setOutcome_frame, hu]
  · rw [setOutcome_frame]; exact hlen
  · exact WindowInv.outcomes h (by rw [setOutcome_frame, hwin])
      (by rw [setOutcome_frame, hload]) fun q hq => setOutcome_none o (hwin ▸ hq)
  · refine h.takeReturn hm (by rw [setOutcome_frame]; exact hmail)
      (by rw [setOutcome_frame, hwin])
      (fun q hq => by rw [setOutcome_of_ne hq, hwin]) (fun q hq => ?_) fun _ hset => ?_
    · simp only [State.atHome, hrob]
      exact iff_of_eq (congrArg RobotEntry.home (hothers q hq))
    · refine ⟨by simpa only [State.atHome, hrob] using hhome, o, ho, ?_⟩
      exact setOutcome_of_mem (by rw [hwin]; exact hset) o

theorem takeReturn_keeps {s : State} {r : Robot} {rest : List TransferMsg}
    (hm : s.mail.transfers = .giveBack r :: rest) :
    BlockKeeps s (takeReturn r (s.setMail { s.mail with transfers := rest })) := by
  let s1 := s.setMail { s.mail with transfers := rest }
  have hs1 : RobotsOnly s s1 := rfl
  unfold takeReturn
  split
  · let f := RobotChange.giveBack r s1.now
    refine takenReturn_keeps .returned hm (hs1.trans (changeRobot_only r f s1)) ?_
      (StagingGrows.changeRobot r f s1)
      (fun h => RobotsInv.changeRobot (s := s1) (RobotsInv.congr (s := s) rfl h) r f (giveBack_inv r _ _)) ?_
      (fun q hq => changeRobot_robot_of_ne hq f s1) nofun
    · rw [changeRobot_mail]; rfl
    · change ((changeRobot r f s1).robot r).home
      rw [changeRobot_robot_self]
      exact giveBack_home r _ _
  · next ho =>
    split_ifs with hp
    · refine takenReturn_keeps .cancelled hm (hs1.trans (setRobot_only r _ s1)) rfl (.refl s)
        (fun h => ?_) ?_ (fun q hq => PerRobot.get_set_of_ne _ _ _ _ hq) nofun
      · refine ⟨fun q => ?_, h.limit, h.serviceFlow⟩
        change ((s.robots.table.set r _).get q).Inv
        by_cases hq : q = r
        · rw [hq, PerRobot.get_set_self]
          exact { h.robots r with pending := nofun }
        · rw [PerRobot.get_set_of_ne _ _ _ _ hq]
          exact h.robots q
      · change ((s.robots.table.set r _).get r).home
        rw [PerRobot.get_set_self]
        exact ⟨ho, rfl⟩
    · refine .of_guardAndWindow rfl (.refl s) (.congr rfl) (.congr rfl rfl) fun h => ?_
      have home : s.atHome r := ⟨ho, eq_false_of_ne_true hp⟩
      exact h.takeReturn hm rfl rfl (fun _ _ => rfl) (fun _ _ => Iff.rfl)
        fun haway => absurd home haway

end Sys2Proof.Machine

namespace Sys2Proof.Machine

/-! ### The Service Window (R145 to R153) -/

theorem drain_grows (c : WindowCause) (s : State) : StagingGrows s (drain c s) :=
  raise_length _ (setWin s.window.drained s)

theorem drain_window (c : WindowCause) (s : State) : (drain c s).window = s.window.drained := by
  simp [drain, sendTransfers, changeWindow, setWin]

theorem drain_transfers (c : WindowCause) (s : State) :
    (drain c s).mail.transfers =
      s.mail.transfers ++ forRobotSet s.window.robotSet .giveBack := by
  simp [drain, sendTransfers, changeWindow, setWin]

/-- Of the messages to a robot set, one names robot r where r is in the set. -/
theorem forRobotSet_filter (rs : PerRobot (Option RobotOutcome)) (msg : Robot → TransferMsg)
    (hmsg : ∀ r, (msg r).robot = r) (r : Robot) :
    (forRobotSet rs msg).filter (fun x => decide (x.robot = r)) =
      if (rs.get r).isSome then [msg r] else [] := by
  have hone (p : Robot → Bool) :
      allRobots.filter (fun q => decide (q = r) && p q) = if p r then [r] else [] := by
    cases r <;> cases hp : p _ <;> simp [allRobots, hp]
  have hcomp : ((fun x : TransferMsg => decide (x.robot = r)) ∘ msg) = fun q => decide (q = r) := by
    funext q
    simp [hmsg]
  rw [forRobotSet, List.filter_map, hcomp, List.filter_filter, hone]
  split_ifs <;> rfl

/-- Messages to a robot set join those on their way. -/
theorem messagesFor_append {s t : State} (rs : PerRobot (Option RobotOutcome))
    (msg : Robot → TransferMsg) (hmsg : ∀ r, (msg r).robot = r)
    (ht : t.mail.transfers = s.mail.transfers ++ forRobotSet rs msg) (r : Robot) :
    t.messagesFor r = s.messagesFor r ++ if (rs.get r).isSome then [msg r] else [] := by
  rw [State.messagesFor, ht, List.filter_append, forRobotSet_filter rs msg hmsg]
  rfl

/-- A DRAINING window has no deadline, whatever the key. -/
theorem WindowInv.drained {s : State} (h : WindowInv s) (hs : s.window.state = .opened)
    (level : Bool) :
    WindowInv (setWin ({ s.window with key := level } : ServiceWindow).drained s) :=
  { h with
    closed := nofun
    keyed := nofun
    opened := nofun
    deadline := iff_of_false (fun hn => hn rfl) nofun
    session := fun hn => absurd (by simp [setWin, ServiceWindow.drained]) hn
    refusal := fun _ => rfl
    condition := fun _ => h.condition (by simp [hs]) }

/-- An OPEN window drains, with the key level as recorded in the event: the returns go out for its
robots. -/
theorem drain_keeps (c : WindowCause) (level : Bool) (s : State) (h : s.window.state = .opened) :
    BlockKeeps s (drain c (recordKey level s)) := by
  have hframe := drain_only c (recordKey level s)
  have hwin := drain_window c (recordKey level s)
  refine .of_guardAndWindow (by rw [hframe]; rfl) (drain_grows c (recordKey level s))
    (.congr (by rw [hframe]; rfl))
    (fun hi => (hi.drained h level).congr hwin (by rw [hframe]; rfl)) fun ho => ?_
  · rw [ownershipInv_iff] at ho ⊢
    intro r
    have hr := ho r
    have hmsg := messagesFor_append (s := s) (t := drain c (recordKey level s)) s.window.robotSet
      .giveBack (fun _ => rfl) (drain_transfers c _) r
    have hhome : (drain c (recordKey level s)).atHome r ↔ s.atHome r := by
      rw [hframe]; exact Iff.rfl
    unfold State.accounted at hr ⊢
    rw [hmsg, hwin, propext hhome]
    simp only [ServiceWindow.drained, recordKey, setWin, State.setWindow_window, PerRobot.get_map]
    rw [h] at hr
    cases hset : s.window.robotSet.get r with
    | none => simpa [Accounted, hset] using hr
    | some o =>
      rw [hset] at hr
      rcases hr with ⟨hm, hh⟩ | ⟨hm, hh⟩ <;> simp [Accounted, hm, hh]

theorem recordKey_self (s : State) : recordKey s.window.key s = s := rfl

theorem drainOpen_keeps (c : WindowCause) (s : State) (h : s.window.state = .opened) :
    BlockKeeps s (drain c s) := drain_keeps c s.window.key s h

theorem drainIfOpen_keeps (c : WindowCause) (s : State) : BlockKeeps s (drainIfOpen c s) :=
  .iteOf (drainOpen_keeps c s) fun _ => .refl s

/-- A change of the window that leaves its state, its robots and its ownership. -/
theorem setWin_keeps (w : ServiceWindow) (s : State) (hst : w.state = s.window.state)
    (hset : w.robotSet = s.window.robotSet) (hw : WindowInv s → WindowInv (setWin w s)) :
    BlockKeeps s (setWin w s) where
  window := hw
  ownership := .congr (fun _ => Iff.rfl) hst hset rfl

theorem setInFlight_keeps (b : Bool) (s : State) :
    BlockKeeps s (setWin { s.window with inFlight := b } s) :=
  setWin_keeps _ s rfl rfl fun h => { h with }

/-- The accounts of robots that are in no session. -/
theorem accounted_idle {r : Robot} {home : Prop} {msgs : List TransferMsg} {st : WindowState}
    (hst : st ∉ [.opened, .draining]) (o : Option RobotOutcome) :
    Accounted r home msgs st o ↔ msgs = [] ∧ home := by
  cases st <;> cases o <;> simp_all [Accounted]

/-- CLOSED and KEYED follow the key, with no robot in either. -/
theorem changeIdle_keeps (c : WindowCause) (w : ServiceWindow) (s : State)
    (hs : s.window.state ∉ [.opened, .draining]) (hw : w.state ∉ [.opened, .draining])
    (hi : WindowInv s → WindowInv (setWin w s)) : BlockKeeps s (changeWindow c w s) := by
  have hset : BlockKeeps s (setWin w s) :=
    { window := hi
      ownership := fun h => by
        rw [ownershipInv_iff] at h ⊢
        intro r
        have hr := h r
        unfold State.accounted at hr ⊢
        rw [accounted_idle hs] at hr
        exact (accounted_idle hw _).2 hr }
  exact hset.raise _

/-- An idle window with the state that its key asks for. -/
theorem WindowInv.setIdle {s : State} (h : WindowInv s) {st : WindowState} {key : Bool}
    (hs : s.window.state ∉ [.opened, .draining])
    (hk : (st = .closed ∧ key = false) ∨ (st = .keyed ∧ key = true)) :
    WindowInv (setWin { s.window with key := key, state := st } s) := by
  have hdeadline : s.window.deadline = none := by
    by_contra hn
    simp [h.deadline.1 hn] at hs
  have hrefusal : s.window.refusal ≠ true := fun hr => by simp [h.refusal hr] at hs
  obtain ⟨hgrants, hset⟩ := h.session hs
  rcases hk with ⟨rfl, rfl⟩ | ⟨rfl, rfl⟩ <;>
    constructor <;> simp_all [setWin, h.loading]

theorem WindowInv.recordKey {s : State} (h : WindowInv s) (level : Bool)
    (hs : s.window.state = .draining ∨ level = s.window.key) :
    WindowInv (recordKey level s) := by
  rcases hs with hs | rfl
  · exact { h with
      closed := fun hc => by simp [Machine.recordKey, setWin, hs] at hc
      keyed := fun hc => by simp [Machine.recordKey, setWin, hs] at hc
      opened := fun hc => by simp [Machine.recordKey, setWin, hs] at hc }
  · exact h

/-- A change of the key whose new level the window's state does not ask about. -/
theorem recordKey_keeps (level : Bool) (s : State)
    (h : WindowInv s → s.window.state = .draining ∨ level = s.window.key) :
    BlockKeeps s (recordKey level s) :=
  setWin_keeps _ s rfl rfl fun hi => hi.recordKey level (h hi)

theorem keyEvent_keeps (level : Bool) (s : State) : BlockKeeps s (keyEvent level s) := by
  refine .ite (.refl s) ?_
  split
  · next hs =>
    exact changeIdle_keeps .keyOn { s.window with key := true, state := .keyed } s
      (by simp [hs]) (by simp) fun h => h.setIdle (by simp [hs]) (by simp)
  · next hs =>
    exact changeIdle_keeps .keyOff { s.window with key := false, state := .closed } s
      (by simp [hs]) (by simp) fun h => h.setIdle (by simp [hs]) (by simp)
  · next hs => exact drain_keeps .keyOff false s hs
  · next hs => exact recordKey_keeps false s fun h => .inr (h.closed hs).symm
  · next hs => exact recordKey_keeps true s fun h => .inr (h.keyed hs).symm
  · next hs => exact recordKey_keeps true s fun h => .inr (h.opened hs).symm
  · next hs => exact recordKey_keeps _ s fun _ => .inl hs

theorem windowTimerEvent_keeps (s : State) : BlockKeeps s (windowTimerEvent s) := by
  refine .iteOf (fun hd => drainOpen_keeps _ s ?_) fun _ => .refl s
  simp only [windowTimerDue, Bool.and_eq_true, decide_eq_true_eq] at hd
  exact hd.1

theorem linkLossEvent_keeps (s : State) : BlockKeeps s (linkLossEvent s) := by
  unfold linkLossEvent
  split
  · exact .refl s
  · exact ((BlockKeeps.refl s).setMail _).trans (drainIfOpen_keeps ..)

/-! ### Settling (R153) -/

theorem settle_window (s : State) :
    (settle s).window =
      { s.window with state := idleState s.window.key, grants := [], robotSet := .all none } := by
  simp [settle, setWin]

theorem settle_grows (s : State) : StagingGrows s (settle s) :=
  raise_length _ (setWin { s.window with state := idleState s.window.key } s)

theorem settle_only (s : State) : WindowOnly s (settle s) := by
  unfold WindowOnly settle setWin
  dsimp only
  rw [raise_frame]
  rfl

theorem settle_mail (s : State) : (settle s).mail = s.mail := by
  simp [settle, setWin]

theorem returnsTaken_iff (w : ServiceWindow) :
    w.returnsTaken = true ↔ ∀ r, w.robotSet.get r ≠ some .returnSent := by
  constructor
  · intro h r
    simp only [ServiceWindow.returnsTaken, PerRobot.toList, List.all_cons, List.all_nil,
      Bool.and_true, Bool.and_eq_true, decide_eq_true_eq] at h
    cases r <;> simp_all [PerRobot.get]
  · intro h
    simp only [ServiceWindow.returnsTaken, PerRobot.toList, List.all_cons, List.all_nil,
      Bool.and_true, Bool.and_eq_true, decide_eq_true_eq]
    exact ⟨h .r1, h .r2, h .r3, h .r4, h .r5, h .r6⟩

/-- What the three conditions of settling say. -/
theorem settles_iff (w : ServiceWindow) :
    w.settles = true ↔ w.state = .draining ∧ w.refusal = false ∧ w.inFlight = false ∧
      ∀ r, w.robotSet.get r ≠ some .returnSent := by
  simp [ServiceWindow.settles, returnsTaken_iff, and_assoc]

/-- The window that settles leaves no session. -/
theorem WindowInv.settled {s : State} (h : WindowInv s) (hs : s.window.settles = true) :
    WindowInv (setWin { s.window with
      state := idleState s.window.key, grants := [], robotSet := .all none } s) := by
  obtain ⟨hst, hrefusal, -, -⟩ := (settles_iff _).1 hs
  have hdeadline : s.window.deadline = none := by
    by_contra hn
    simpa [hst] using h.deadline.1 hn
  have hloading := h.loading
  cases hk : s.window.key <;> constructor <;> simp_all [setWin, idleState]

theorem settle_keeps (s : State) (hs : s.window.settles = true) : BlockKeeps s (settle s) := by
  have hframe := settle_only s
  refine .of_guardAndWindow (by rw [hframe]) (settle_grows s) (.congr (by rw [hframe]))
    (fun h => (h.settled hs).congr (settle_window s) (by rw [hframe]; rfl)) fun h => ?_
  obtain ⟨hst, -, -, hreturns⟩ := (settles_iff _).1 hs
  rw [ownershipInv_iff] at h ⊢
  intro r
  have hr := h r
  have hhome : (settle s).atHome r ↔ s.atHome r := by rw [hframe]; exact Iff.rfl
  unfold State.accounted at hr ⊢
  rw [propext hhome, settle_window, State.messagesFor, settle_mail]
  refine (accounted_idle ?_ _).2 ?_
  · cases s.window.key <;> simp [idleState]
  · rw [hst] at hr
    have hret := hreturns r
    cases hset : s.window.robotSet.get r <;> simp_all [Accounted, State.messagesFor]

theorem settleTest_keeps (s : State) : BlockKeeps s (settleTest s) :=
  .iteOf (settle_keeps s) fun _ => .refl s

theorem robotReturnEvent_keeps (s : State) : BlockKeeps s (robotReturnEvent s) := by
  unfold robotReturnEvent
  split
  · next hm => exact (takeReturn_keeps hm).trans (settleTest_keeps _)
  · exact .refl s
  · exact .refl s

/-! ### Answers (R147) -/

/-- An answer replaces an outcome, but no RETURN_SENT, and by no RETURN_SENT. -/
theorem takeAnswer_keeps (r : Robot) (new : RobotOutcome) (hn : new ≠ .returnSent) (s : State) :
    BlockKeeps s (takeAnswer r new s) := by
  unfold takeAnswer
  split
  · exact .refl s
  · next old hold =>
    have hnone (q : Robot) (hq : s.window.robotSet.get q = none) :
        (s.window.robotSet.set r (some (answered old new))).get q = none := by
      by_cases hqr : q = r
      · simp [hqr, hold] at hq
      · rwa [PerRobot.get_set_of_ne _ _ _ _ hqr]
    refine .of_guardAndWindow rfl (.refl s) (.congr rfl) (fun h => h.outcomes rfl rfl hnone)
      fun h => ?_
    rw [ownershipInv_iff] at h ⊢
    intro q
    have hq := h q
    unfold State.accounted at hq ⊢
    change Accounted q (s.atHome q) (s.messagesFor q) s.window.state
      ((s.window.robotSet.set r (some (answered old new))).get q)
    by_cases hqr : q = r
    · subst hqr
      rw [PerRobot.get_set_self]
      rw [hold] at hq
      have hans : answered old new = .returnSent ↔ old = .returnSent := by
        cases old <;> simp [answered, hn]
      cases hst : s.window.state <;> simp_all [Accounted]
    · rwa [PerRobot.get_set_of_ne _ _ _ _ hqr]

theorem answerEvent_keeps (s : State) : BlockKeeps s (answerEvent s) := by
  unfold answerEvent
  split
  · exact .refl s
  · exact ((BlockKeeps.refl s).setMail _).trans (takeAnswer_keeps _ _ (by decide) _)
  · exact ((BlockKeeps.refl s).setMail _).trans (takeAnswer_keeps _ _ (by decide) _)

/-! ### A grant opens the window (R146, R147) -/

theorem WindowInv.granted {s : State} (h : WindowInv s) (hs : s.window.state = .keyed)
    (hl : s.loader.load = none) (hsafe : s.loader.condition ≠ .safe) (now : Micros) (d : Nat)
    (gs : List Grant) (hg : gs.length ≤ 4) (rs : PerRobot (Option RobotOutcome)) :
    WindowInv (setWin (s.window.granted now d gs rs) s) := by
  have hcond : s.loader.condition = .running := by
    have := h.loading
    cases hc : s.loader.condition <;> simp_all
  exact { h with
    closed := nofun
    keyed := nofun
    opened := fun _ => h.keyed hs
    deadline := iff_of_true nofun rfl
    few := hg
    session := fun hn => absurd (by simp [setWin, ServiceWindow.granted]) hn
    refusal := fun hr => by simp [h.refusal hr] at hs
    condition := fun _ => ⟨hcond, hl⟩ }

theorem openWindow_keeps (d : Nat) (gs : List Grant) (hg : gs.length ≤ 4)
    (rs : PerRobot (Option RobotOutcome)) (s : State) (hs : s.window.state = .keyed)
    (hl : s.loader.load = none) (hsafe : s.loader.condition ≠ .safe) :
    BlockKeeps s (openWindow d gs rs s) := by
  have hframe : WindowOnly s (openWindow d gs rs s) := (changeWindow_only ..).trans rfl
  have hwin : (openWindow d gs rs s).window = s.window.granted s.now d gs rs := by
    simp [openWindow, sendTransfers, changeWindow, setWin]
  refine .of_guardAndWindow (by rw [hframe])
    (raise_length _ (setWin (s.window.granted s.now d gs rs) s)) (.congr (by rw [hframe]))
    (fun h => (h.granted hs hl hsafe s.now d gs hg rs).congr hwin (by rw [hframe]; rfl))
    fun h => ?_
  rw [ownershipInv_iff] at h ⊢
  intro r
  have hr := h r
  have hmsg := messagesFor_append (s := s) (t := openWindow d gs rs s) rs .request
    (fun _ => rfl) (by simp [openWindow, sendTransfers, changeWindow, setWin]) r
  have hhome : (openWindow d gs rs s).atHome r ↔ s.atHome r := by rw [hframe]; exact Iff.rfl
  unfold State.accounted at hr ⊢
  rw [hmsg, hwin, propext hhome]
  rw [accounted_idle (by simp [hs])] at hr
  simp only [ServiceWindow.granted]
  cases rs.get r <;> simp [Accounted, hr.1, hr.2]

end Sys2Proof.Machine

namespace Sys2Proof.Machine

/-! ### The Inspection Tracker (R115 to R131) -/

/-- The consecutive numbers of a queue up to the next one, of the numbers alone. -/
theorem numbered_iff (q : List Bottle) (next : BitVec 16) :
    (∀ i b, q[i]? = some b → b.number + BitVec.ofNat 16 (q.length - i) = next) ↔
      ∀ (i : Nat) n, (q.map Bottle.number)[i]? = some n →
        n + BitVec.ofNat 16 ((q.map Bottle.number).length - i) = next := by
  simp only [List.getElem?_map, Option.map_eq_some_iff, List.length_map]
  constructor
  · rintro h i n ⟨b, hb, rfl⟩
    exact h i b hb
  · exact fun h i b hb => h i _ ⟨b, hb, rfl⟩

/-- An event of the Tracker that keeps the bottles' numbers, the counts of the bottles and the run. -/
theorem TrackerInv.sameBottles {s t : State} (h : TrackerInv s)
    (hq : t.tracker.queue.map Bottle.number = s.tracker.queue.map Bottle.number)
    (hn : t.tracker.nextBottle = s.tracker.nextBottle := by rfl)
    (ha : t.tracker.counters.accepted = s.tracker.counters.accepted := by rfl)
    (hp : t.tracker.counters.passed = s.tracker.counters.passed := by rfl)
    (hr : t.tracker.counters.rejected = s.tracker.counters.rejected := by rfl)
    (hd : t.tracker.counters.dropped = s.tracker.counters.dropped := by rfl)
    (hrun : t.tracker.running = s.tracker.running := by rfl)
    (hg : s.tracker.gateActive = false → t.tracker.gateActive = false := by exact fun hg => hg)
    (hk : t.tracker.params = s.tracker.params := by rfl)
    (hl : t.loader = s.loader := by rfl) : TrackerInv t := by
  have hlen : t.tracker.queue.length = s.tracker.queue.length := by
    simpa using congrArg List.length hq
  obtain ⟨hroom, hnumbered, hcounted, hstopped, hcond, hload, hparams⟩ := h
  refine ⟨by rwa [hlen], ?_, by rwa [ha, hp, hr, hd, hlen], fun hs => ?_, ?_, ?_, ?_⟩
  · rw [numbered_iff] at hnumbered ⊢
    rw [hq, hn]
    exact hnumbered
  · obtain ⟨hempty, hgate⟩ := hstopped (hrun ▸ hs)
    exact ⟨List.length_eq_zero_iff.1 (by rw [hlen, hempty]; rfl), hg hgate⟩
  · rwa [hrun, hl]
  · rwa [hl]
  · rwa [hrun, hk]

/-- The inverse of `TrackerInv.stopped`: a queue with an entry belongs to a run. -/
theorem TrackerInv.running_of_queue {s : State} (h : TrackerInv s) (hq : s.tracker.queue ≠ []) :
    s.tracker.running = true := by
  by_contra hr
  exact hq (h.stopped (eq_false_of_ne_true hr)).1

/-- An event of the Tracker: what it does to the Tracker decides the rest. -/
theorem BlockKeeps.of_tracker {s t : State} (hf : TrackerOnly s t)
    (hm : t.mail.transfers = s.mail.transfers) (hlen : StagingGrows s t)
    (ht : TrackerInv s → TrackerInv t) : BlockKeeps s t where
  clock := .congr (by rw [hf])
  map := .congr (by rw [hf])
  pacing _ := .congr (by rw [hf])
  robots := .congr (by rw [hf])
  ownership := .congr (fun r => by rw [hf]; exact Iff.rfl) (by rw [hf]) (by rw [hf]) hm
  tracker := ht
  window := .congr (by rw [hf]) (by rw [hf])
  traffic h := h.longer (by rw [hf]) (by rw [hf]) hlen
  transit := by rw [hf]

theorem setCam_number (k : Cam) (c : CamSlot) (b : Bottle) : (b.setCam k c).number = b.number := rfl

theorem updateFirst_numbers (p : Bottle → Bool) (k : Cam) (c : CamSlot) (q : List Bottle) :
    (updateFirst p (Bottle.setCam k c) q).map Bottle.number = q.map Bottle.number := by
  induction q with
  | nil => rfl
  | cons b bs ih =>
    unfold updateFirst
    split_ifs
    · rfl
    · rw [List.map_cons, ih, List.map_cons]

theorem missCam_number (k : TrackParams) (p : Pos) (b : Bottle) (c : Cam) :
    (missCam k p b c).number = b.number := by
  unfold missCam
  split
  · split_ifs <;> rfl
  all_goals rfl

theorem misses_number (k : TrackParams) (p : Pos) (b : Bottle) :
    (b.misses k p).number = b.number := by
  simp [Bottle.misses, allCams, missCam_number]

theorem misses_numbers (k : TrackParams) (t : Tracker) :
    (t.misses k).queue.map Bottle.number = t.queue.map Bottle.number := by
  simp [Tracker.misses, misses_number, Function.comp_def]

/-! #### Decisions (R138) -/

/-- What a decision does to the Tracker: the head leaves, one of two counters rises, the gate may
open. -/
theorem decideHead_tracker (k : TrackParams) (b : Bottle) (rest : List Bottle) (s : State) :
    (decideHead k b rest s).tracker =
      { s.tracker with
        queue := rest
        counters := s.tracker.counters.decided (b.decision k.action).1
        passCredits := (decideHead k b rest s).tracker.passCredits
        rejectCredits := (decideHead k b rest s).tracker.rejectCredits
        gateActive := (decideHead k b rest s).tracker.gateActive
        offPos := (decideHead k b rest s).tracker.offPos } := by
  have hcredit (c : Option Credit) (u : State) : (sendCredit c u).tracker =
      { u.tracker with
        passCredits := (sendCredit c u).tracker.passCredits
        rejectCredits := (sendCredit c u).tracker.rejectCredits } := by
    unfold sendCredit
    split <;> rfl
  have hgate (t : Tracker) (n : Pos) : t.openGate n =
      { t with gateActive := (t.openGate n).gateActive, offPos := (t.openGate n).offPos } := by
    unfold Tracker.openGate
    split_ifs <;> rfl
  have hcount (v : Verdict) (reason : DecisionReason) : (countAndGate k b v reason s).tracker =
      { s.tracker with
        counters := s.tracker.counters.decided v
        gateActive := (countAndGate k b v reason s).tracker.gateActive
        offPos := (countAndGate k b v reason s).tracker.offPos } := by
    unfold countAndGate
    dsimp only
    cases v
    · rfl
    · simp only [raise_tracker, State.setTracker_tracker]
      rw [hgate]
  simp only [decideHead, setQueue, State.setTracker_tracker]
  rw [hcredit, hcount]

theorem sendCredit_transfers (c : Option Credit) (s : State) :
    (sendCredit c s).mail.transfers = s.mail.transfers := by
  unfold sendCredit
  split <;> rfl

theorem decideHead_transfers (k : TrackParams) (b : Bottle) (rest : List Bottle) (s : State) :
    (decideHead k b rest s).mail.transfers = s.mail.transfers := by
  have hcount (v : Verdict) (reason : DecisionReason) :
      (countAndGate k b v reason s).mail = s.mail := by
    unfold countAndGate
    dsimp only
    cases v <;> simp
  simp only [decideHead, setQueue, State.setTracker_mail, sendCredit_transfers, hcount]

theorem decideHead_grows (k : TrackParams) (b : Bottle) (rest : List Bottle) (s : State) :
    StagingGrows s (decideHead k b rest s) := by
  have hcredit (c : Option Credit) (u : State) : (sendCredit c u).staging = u.staging := by
    unfold sendCredit
    split <;> rfl
  have hcount (v : Verdict) (reason : DecisionReason) :
      StagingGrows s (countAndGate k b v reason s) := by
    unfold countAndGate
    dsimp only
    cases v
    · exact .refl s
    · exact raise_length _ (s.setTracker _)
  unfold StagingGrows
  simp only [decideHead, setQueue, State.setTracker_staging, hcredit]
  exact hcount _ _

/-- The counters' equality when a bottle leaves the queue by a decision (R128). -/
theorem decided_counted (c : TrackCounters) (v : Verdict) (n : Nat)
    (h : c.accepted = c.passed + c.rejected + c.dropped + BitVec.ofNat 32 (n + 1)) :
    (c.decided v).accepted =
      (c.decided v).passed + (c.decided v).rejected + (c.decided v).dropped +
        BitVec.ofNat 32 n := by
  rw [BitVec.ofNat_add] at h
  cases v <;> simp only [TrackCounters.decided] <;> rw [h] <;> ac_rfl

theorem TrackerInv.decideHead {s : State} (h : TrackerInv s) (k : TrackParams) {b : Bottle}
    {rest : List Bottle} (hq : s.tracker.queue = b :: rest) :
    TrackerInv (decideHead k b rest s) := by
  have hrun := h.running_of_queue (by simp [hq])
  have hloader : (Machine.decideHead k b rest s).loader = s.loader := by rw [decideHead_only]
  obtain ⟨hroom, hnumbered, hcounted, -, hcond, hload, hparams⟩ := h
  rw [hq] at hroom hnumbered hcounted
  refine ⟨?_, ?_, ?_, ?_, ?_, hloader ▸ hload, ?_⟩ <;> rw [decideHead_tracker]
  · exact (Nat.le_succ _).trans hroom
  · intro i c hc
    have := hnumbered (i + 1) c (by simpa using hc)
    simpa using this
  · exact decided_counted _ _ _ hcounted
  · intro hs
    simp [hrun] at hs
  · rw [hloader]
    exact hcond
  · exact hparams

theorem decideHeads_keeps (k : TrackParams) (q : List Bottle) (s : State)
    (hq : s.tracker.queue = q) : BlockKeeps s (decideHeads k q s) := by
  induction q generalizing s with
  | nil => exact .refl s
  | cons b rest ih =>
    unfold decideHeads
    refine .ite (BlockKeeps.trans (.of_tracker (decideHead_only k b rest s)
      (decideHead_transfers ..) (decideHead_grows ..) fun h => h.decideHead k hq)
      (ih _ ?_)) (.refl s)
    rw [decideHead_tracker]

theorem conveyorAdvance_keeps (k : TrackParams) (s : State) :
    BlockKeeps s (conveyorAdvance k s) := by
  have hmiss : BlockKeeps s (s.setTracker (s.tracker.misses k)) :=
    (BlockKeeps.refl s).setTracker _ fun h => h.sameBottles (misses_numbers k _)
  refine (hmiss.trans (decideHeads_keeps k _ _ rfl)).setTracker _ fun h => ?_
  have hgate (t : Tracker) : t.testGate = { t with gateActive := t.testGate.gateActive } := by
    unfold Tracker.testGate
    split_ifs <;> rfl
  rw [hgate]
  refine h.sameBottles rfl (hg := fun hg => ?_)
  change (Tracker.testGate _).gateActive = false
  unfold Tracker.testGate
  split_ifs
  · rfl
  · exact hg

theorem encoderEvent_keeps (d : Travel) (s : State) : BlockKeeps s (encoderEvent d s) := by
  have hmove : BlockKeeps s (s.setTracker (s.tracker.move d)) :=
    (BlockKeeps.refl s).setTracker _ fun h => h.sameBottles rfl
  unfold encoderEvent
  dsimp only
  split
  · exact hmove
  · refine .ite ?_ hmove
    split
    · exact hmove.trans (conveyorAdvance_keeps _ _)
    · exact hmove

/-! #### Triggers and notices -/

theorem absorb_numbers (q : List Bottle) : (absorb q).map Bottle.number = q.map Bottle.number := by
  induction q with
  | nil => rfl
  | cons b bs ih =>
    cases bs with
    | nil => rfl
    | cons c cs => simp only [absorb, List.map_cons] at ih ⊢; rw [ih]

/-- A new entry at the tail of a queue with room (R122). -/
theorem TrackerInv.addBottle {s : State} (h : TrackerInv s) (st : Stamp)
    (hroom : s.tracker.queue.length < 64) (hrun : s.tracker.running = true) :
    TrackerInv (s.setTracker (s.tracker.addBottle st)) := by
  obtain ⟨-, hnumbered, hcounted, -, hcond, hload, hparams⟩ := h
  refine ⟨?_, fun i b hb => ?_, ?_, fun hs => ?_, hcond, hload, hparams⟩
  · simpa [Tracker.addBottle] using hroom
  · simp only [State.setTracker_tracker, Tracker.addBottle, List.length_append,
      List.length_singleton] at hb ⊢
    rw [List.getElem?_append] at hb
    split_ifs at hb with hi
    · rw [← hnumbered i b hb, show s.tracker.queue.length + 1 - i =
        s.tracker.queue.length - i + 1 by omega, BitVec.ofNat_add, BitVec.add_assoc]
      rfl
    · have hlast : i = s.tracker.queue.length := by
        have := (List.getElem?_eq_some_iff.1 hb).1
        simp at this
        omega
      subst hlast
      simp only [Nat.sub_self, List.getElem?_cons_zero, Option.some.injEq] at hb
      subst hb
      simp [Tracker.newBottle]
  · simp only [State.setTracker_tracker, Tracker.addBottle, List.length_append,
      List.length_singleton, BitVec.ofNat_add, hcounted, BitVec.add_assoc]
    rfl
  · simp only [State.setTracker_tracker, Tracker.addBottle, hrun] at hs
    cases hs

theorem TrackerInv.leadShot {s : State} (h : TrackerInv s) (k : TrackParams) (st : Stamp)
    (hrun : s.tracker.running = true) : TrackerInv (s.setTracker (s.tracker.leadShot k st)) := by
  unfold Tracker.leadShot
  split_ifs with hb hfull
  · exact h.sameBottles rfl
  · exact h.sameBottles (absorb_numbers _)
  · exact h.addBottle st (by simpa [queueMax] using hfull) hrun

theorem matchShot_keeps (k : TrackParams) (c : Cam) (s : State) :
    BlockKeeps s (matchShot k c s) := by
  unfold matchShot
  dsimp only
  refine .ite ((BlockKeeps.refl s).setTracker _ fun h =>
    h.sameBottles (updateFirst_numbers ..)) ?_
  have stray (u : TrackCounters) (ha : u = { s.tracker.counters with strays := u.strays }) :
      BlockKeeps s (setCounters u s) :=
    (BlockKeeps.refl s).setTracker _ fun h => h.sameBottles rfl
      (ha := by rw [ha]; rfl) (hp := by rw [ha]; rfl) (hr := by rw [ha]; rfl)
      (hd := by rw [ha]; rfl)
  exact (stray _ rfl).raise _

theorem takeShot_keeps (k : TrackParams) (c : Cam) (s : State) (hrun : s.tracker.running = true) :
    BlockKeeps s (takeShot k c s) := by
  have shot (x : PerCam (BitVec 16)) :
      BlockKeeps s (s.setTracker { s.tracker with shots := x }) :=
    (BlockKeeps.refl s).setTracker _ fun h => h.sameBottles rfl
  unfold takeShot
  dsimp only
  split
  · exact (BlockKeeps.refl s).setTracker _ fun h =>
      ((shot (s.tracker.shots.set .c1 (s.tracker.shots.get .c1 + 1))).tracker h).leadShot k _ hrun
  all_goals exact .ite ((shot _).trans (matchShot_keeps ..)) (shot _)

theorem triggerEvent_keeps (c : Cam) (s : State) : BlockKeeps s (triggerEvent c s) := by
  unfold triggerEvent
  refine .iteOf (fun _ => .refl s) fun hrun => ?_
  have hrun : s.tracker.running = true := by
    simp only [not_or] at hrun
    exact Bool.of_not_eq_false hrun.1
  split
  · exact (BlockKeeps.refl s).setTracker _ fun h => h.sameBottles rfl
  · split
    · exact takeShot_keeps _ c s hrun
    · exact .refl s

/-- A notice for every camera of a port. -/
theorem TrackerInv.onPort {s : State} (h : TrackerInv s) (p : SwPort)
    {f : Tracker → Cam → Tracker}
    (hf : ∀ (u : State) c, TrackerInv u → TrackerInv (u.setTracker (f u.tracker c))) :
    TrackerInv (s.setTracker (s.tracker.onPort p f)) := by
  have hfold (cs : List Cam) : ∀ u : State, TrackerInv u → TrackerInv (u.setTracker
      (cs.foldl (fun t c => if (t.cameras.get c).port = some p then f t c else t) u.tracker)) := by
    induction cs with
    | nil => exact fun _ hu => hu
    | cons c cs ih =>
      intro u hu
      rw [List.foldl_cons]
      split_ifs
      · exact ih _ (hf u c hu)
      · exact ih u hu
  exact hfold allCams s h

theorem TrackerInv.camOffline {s : State} (h : TrackerInv s) (c : Cam) :
    TrackerInv (s.setTracker (s.tracker.camOffline c)) := by
  refine h.sameBottles ?_
  simp only [State.setTracker_tracker, Tracker.camOffline]
  split_ifs
  · simp [Function.comp_def, setCam_number]
  · rfl

theorem cameraOfflineEvent_keeps (s : State) : BlockKeeps s (cameraOfflineEvent s) := by
  unfold cameraOfflineEvent
  split
  · exact ((BlockKeeps.refl s).setMail _).setTracker _ fun h =>
      h.onPort _ fun u c hu => hu.camOffline c
  · exact .refl s
  · exact .refl s

theorem cameraOnlineEvent_keeps (s : State) : BlockKeeps s (cameraOnlineEvent s) := by
  unfold cameraOnlineEvent
  split
  · exact ((BlockKeeps.refl s).setMail _).setTracker _ fun h =>
      h.onPort _ fun u c hu => hu.sameBottles rfl
  · exact .refl s
  · exact .refl s

theorem verdictWrite_keeps (m : Master) (a : Addr) (o : Nat) (l : BurstLen) (ws : List WriteWord)
    (s : State) : BlockKeeps s (verdictWrite m a o l ws s) := by
  have taken (v : VerdictRecord) : BlockKeeps s (takeVerdict v s) := by
    unfold takeVerdict
    split
    · exact (BlockKeeps.refl s).raise _
    · split
      · exact (BlockKeeps.refl s).setTracker _ fun h => h.sameBottles (updateFirst_numbers ..)
      case h_2 | h_3 | h_4 => exact (BlockKeeps.refl s).raise _
      all_goals exact .refl s
  unfold verdictWrite
  refine .ite ?_ (.refl s)
  split
  · exact taken _
  · exact (BlockKeeps.refl s).raise _

/-! #### Start and stop -/

/-- What TRACK_START's checks say of the parameters as settled (R118). -/
theorem settle_inRange {k : TrackParams} {cams : PerCam CameraEntry} (h : k.inRange = true)
    (hr : k.settle.reaches cams = true) :
    16 ≤ k.settle.pitch ∧ k.settle.pitch ≤ 4096 ∧ 1 ≤ k.settle.window ∧
      k.settle.window < k.settle.pitch / 2 ∧ 1 ≤ k.settle.gateLength ∧
      k.settle.gateLength ≤ k.settle.pitch ∧ k.settle.rejectOffset ≤ 4194304 := by
  simp only [TrackParams.inRange, decide_eq_true_eq] at h
  simp only [TrackParams.reaches, Bool.and_eq_true, decide_eq_true_eq] at hr
  simp only [TrackParams.settle, maxWindow] at hr ⊢
  omega

theorem TrackerInv.start {s : State} (h : TrackerInv s) (k : TrackParams)
    (hl : s.loader.load = none) (hsafe : s.loader.condition ≠ .safe)
    (hk : 16 ≤ k.pitch ∧ k.pitch ≤ 4096 ∧ 1 ≤ k.window ∧ k.window < k.pitch / 2 ∧
      1 ≤ k.gateLength ∧ k.gateLength ≤ k.pitch ∧ k.rejectOffset ≤ 4194304) :
    TrackerInv (s.setTracker (s.tracker.start k)) := by
  have hcond : s.loader.condition = .running := by
    have := h.loading
    cases hc : s.loader.condition <;> simp_all
  exact
    { room := Nat.zero_le 64
      numbered := fun i b hb => by simp [Tracker.start] at hb
      counted := rfl
      stopped := nofun
      condition := fun _ => ⟨hcond, hl⟩
      loading := h.loading
      params := fun _ => ⟨k, rfl, hk⟩ }

theorem TrackerInv.stop {s : State} (h : TrackerInv s) :
    TrackerInv (s.setTracker s.tracker.stop) where
  room := Nat.zero_le 64
  numbered i b hb := by simp [Tracker.stop] at hb
  counted := by
    have := h.counted
    simp only [State.setTracker_tracker, Tracker.stop, List.length_nil]
    rw [this]
    simp only [BitVec.add_zero]
    ac_rfl
  stopped _ := ⟨rfl, rfl⟩
  condition := nofun
  loading := h.loading
  params := nofun

/-- A Tracker that a reset leaves stopped and empty. -/
theorem TrackerInv.of_reset {s : State} (hq : s.tracker.queue = [])
    (hc : s.tracker.counters = .zero) (hr : s.tracker.running = false)
    (hg : s.tracker.gateActive = false)
    (hl : s.loader.condition = .loading → s.loader.load ≠ none) : TrackerInv s := by
  constructor <;> simp_all [TrackCounters.zero]

end Sys2Proof.Machine

namespace Sys2Proof.Machine

/-! ### The Pacing Unit (R35 to R46) -/

/-- What holds of one master's record: the settings in range, an account exactly where the one in
force is PACED, its credit from -32 to K. -/
structure Pace.Ok (p : Pace) : Prop where
  inForce : p.inForce.inRange
  delivered : p.delivered.inRange
  buffered : ∀ b, p.buffered = some b → b.inRange
  account : p.account.isSome = p.inForce.paced
  credit : ∀ a, p.account = some a → -32 ≤ a.credit ∧ a.credit ≤ p.inForce.k

theorem pacingInv_iff (s : State) : PacingInv s ↔ ∀ m, (s.pacing.get m).Ok :=
  ⟨fun h m => ⟨h.inForce m, h.delivered m, h.buffered m, h.account m, h.credit m⟩,
    fun h => ⟨fun m => (h m).inForce, fun m => (h m).delivered, fun m => (h m).buffered,
      fun m => (h m).account, fun m => (h m).credit⟩⟩

namespace Pace.Ok

/-- A setting that comes into force with its fresh account. -/
theorem fresh {b d : PaceSetting} (hb : b.inRange) (hd : d.inRange) (now : Micros) :
    Pace.Ok { inForce := b, buffered := none, account := b.newAccount now, delivered := d } where
  inForce := hb
  delivered := hd
  buffered := nofun
  account := by
    unfold PaceSetting.newAccount
    cases b.paced <;> rfl
  credit a ha := by
    unfold PaceSetting.newAccount at ha
    split_ifs at ha
    cases ha
    exact ⟨by simp only; omega, le_refl _⟩

theorem take {p : Pace} (h : p.Ok) {b : PaceSetting} (hb : b.inRange) (now : Micros) :
    (p.take b now).Ok := fresh hb h.delivered now

theorem deliver {p : Pace} {b : PaceSetting} (hb : b.inRange) (now : Micros) :
    (p.deliver b now).Ok := fresh hb hb now

theorem resetToDelivered {p : Pace} (h : p.Ok) (now : Micros) : (p.resetToDelivered now).Ok :=
  h.take h.delivered now

/-- A setting given while another is in force is buffered; UNPACED for UNPACED changes nothing. -/
theorem give {p : Pace} (h : p.Ok) {b : PaceSetting} (hb : b.inRange) (now : Micros) :
    (p.give b now).Ok := by
  unfold Pace.give
  split_ifs
  · exact { h with buffered := fun c hc => by cases hc; exact hb }
  · exact h.take hb now
  · exact h

theorem refill_credit {a : Account} (h : -32 ≤ a.credit) (b : PaceSetting) (now : Micros) :
    -32 ≤ (a.refill b now).credit ∧ (a.refill b now).credit ≤ b.k := by
  simp only [Account.refill]
  omega

theorem expire {p : Pace} (h : p.Ok) {a : Account} (ha : p.account = some a) (now : Micros) :
    (p.expire a now).Ok := by
  have hpaced : p.inForce.paced = true := by rw [← h.account, ha]; rfl
  have hcredit := (h.credit a ha).1
  unfold Pace.expire
  split
  · exact { h with
      account := hpaced.symm
      credit := fun c hc => by cases hc; exact refill_credit hcredit _ now }
  · next b hbuf =>
    have hb := h.buffered b hbuf
    split_ifs with hp
    · exact ⟨hb, h.delivered, nofun, hp.symm,
        fun c hc => by cases hc; exact refill_credit hcredit _ now⟩
    · exact ⟨hb, h.delivered, nofun, (eq_false_of_ne_true hp).symm, nofun⟩

/-- A request that is not held costs at most 32 beats and takes a credit of at least 0. -/
theorem charge {p : Pace} (h : p.Ok) (hfree : p.holds = false) {cost : Nat} (hcost : cost ≤ 32) :
    (p.charge cost).Ok := by
  have hcredit := (holds_eq_false_iff p).1 hfree
  unfold Pace.charge
  split
  · exact h
  · next a ha =>
    have hlow := hcredit a ha
    have hhigh := (h.credit a ha).2
    refine { h with account := ?_, credit := fun c hc => ?_ }
    · rw [← h.account, ha]
      rfl
    · cases hc
      simp only
      omega

end Pace.Ok

/-- The Pacing Unit's record of a master replaced by one that fits. -/
theorem setPace_keeps (m : Master) (p : Pace) (s : State)
    (h : MapInv s → (s.pacing.get m).Ok → p.Ok) : BlockKeeps s (setPace m p s) where
  pacing hm hs := by
    rw [pacingInv_iff] at hs ⊢
    intro q
    change ((s.pacing.set m p).get q).Ok
    by_cases hq : q = m
    · rw [hq, PerMaster.get_set_self]
      exact h hm (hs m)
    · rw [PerMaster.get_set_of_ne _ _ _ _ hq]
      exact hs q

theorem resetPacing_keeps (s : State) : BlockKeeps s (resetPacing s) where
  pacing _ hs := by
    rw [pacingInv_iff] at hs ⊢
    intro m
    simp only [resetPacing, State.setPacing_pacing, PerMaster.get_map]
    exact (hs m).resetToDelivered _

theorem clamp_inRange {p : PaceSetting} (ha : p.a ≤ 7) (hb : p.b ≤ 7) : p.clamp.inRange := by
  intro _
  simp only [PaceSetting.clamp, clampNat]
  omega

theorem doPaceSet_keeps (m : Master) {b : PaceSetting} (hb : b.inRange) (code : ResultCode)
    (s : State) : BlockKeeps s (doPaceSet m b code s).state :=
  setPace_keeps m _ s fun _ h => h.give hb s.now

/-- The weight of a place in a well-formed map. -/
theorem MapInv.place_weight {s : State} (h : MapInv s) (a : Nat) : (s.map.place a).weight ≤ 4 := by
  have hfind (es : List RegionEntry) (hes : ∀ e ∈ es, e.enabled = true → e.weight ≤ 4) :
      ∀ i p, findPlace a i es = some p → p.weight ≤ 4 := by
    induction es with
    | nil => exact fun i p hp => by cases hp
    | cons e es ih =>
      intro i p hp
      unfold findPlace at hp
      split_ifs at hp with hh
      · cases hp
        have hon : e.enabled = true := by
          simp only [RegionEntry.holds, Bool.and_eq_true] at hh
          exact hh.1
        exact hes e List.mem_cons_self hon
      · exact ih (fun e he => hes e (List.mem_cons_of_mem _ he)) _ p hp
  unfold RegionMap.place
  cases hf : findPlace a 0 s.map.entries with
  | none => exact Nat.le_of_ble_eq_true rfl
  | some p => exact hfind _ (fun e he ho => (h.valid e he ho).2.2.2.2) 0 p hf

theorem requestCost_le {w : Nat} (hw : w ≤ 4) (len : BurstLen) : requestCost len w ≤ 32 := by
  cases len <;> simp only [requestCost, BurstLen.words] <;> omega

/-! ### Slots and results (R159, R11) -/

/-- An operation on the slots that keeps the waiting results where they are. -/
theorem setSlots_keeps (x : PerSlot CommandSlot) (s : State)
    (h : ∀ n, (x.get n).waiting = (s.slots.get n).waiting) : BlockKeeps s (s.setSlots x) where
  traffic := .congr rfl rfl rfl h

theorem PerSlot.set_waiting (t : PerSlot CommandSlot) (n : Slot) (c : CommandSlot)
    (h : c.waiting = (t.get n).waiting) (k : Slot) :
    ((t.set n c).get k).waiting = (t.get k).waiting := by
  by_cases hk : k = n
  · rw [hk, PerSlot.get_set_self, h]
  · rw [PerSlot.get_set_of_ne _ _ _ _ hk]

theorem beginIssue_keeps (n : Slot) (w : Word) (s : State) : BlockKeeps s (beginIssue n w s) :=
  setSlots_keeps _ s (PerSlot.set_waiting _ n _ rfl)

theorem setAwaiting_keeps (n : Slot) (b : Bool) (s : State) : BlockKeeps s (setAwaiting n b s) :=
  setSlots_keeps _ s (PerSlot.set_waiting _ n _ rfl)

theorem writeParam_keeps (n : Slot) (i : Nat) (w : WriteWord) (s : State) :
    BlockKeeps s (writeParam n i w s) :=
  setSlots_keeps _ s (PerSlot.set_waiting _ n _ rfl)

theorem clearParams_keeps (s : State) : BlockKeeps s (clearParams s) :=
  setSlots_keeps _ s fun n => by rw [PerSlot.get_map]

theorem offerResult_keeps (n : Slot) (e : StagingEntry) (s : State) :
    BlockKeeps s (offerResult n e s) := by
  unfold offerResult
  split_ifs with hroom <;> simp only [stagingMax] at hroom
  · exact { traffic := fun h => h.longer rfl rfl (.inr (by simp; omega)) }
  · refine { traffic := fun h => ⟨h.carried, h.writing, h.room, fun _ _ => ?_⟩ }
    have := h.room
    simp only [State.setSlots_staging]
    omega

theorem giveResult_keeps (n : Slot) (c : ResultCode) (d : Option (List Word)) (s : State) :
    BlockKeeps s (giveResult n c d s) :=
  (setAwaiting_keeps n true s).trans (offerResult_keeps n _ _)

/-- A command keeps what its execution keeps. -/
theorem issueCommand_keeps (n : Slot) (w : Word) {run : State → Reply}
    (h : ∀ u, BlockKeeps u (run u).state) (s : State) :
    BlockKeeps s (issueCommand n w run s) := by
  unfold issueCommand
  refine .ite (.refl s) (.ite ((BlockKeeps.refl s).raise _) ?_)
  exact ((beginIssue_keeps n w s).trans (h _)).trans (giveResult_keeps n _ _ _)

end Sys2Proof.Machine

namespace Sys2Proof.Machine

/-! ### The commands of the control page -/

/-- A command that acts where its test holds. -/
theorem BlockKeeps.reply {s : State} {a b : Reply} {c : Prop} [Decidable c]
    (ha : c → BlockKeeps s a.state) (hb : ¬c → BlockKeeps s b.state) :
    BlockKeeps s (if c then a else b).state := by
  split_ifs with h
  · exact ha h
  · exact hb h

theorem queryReply_keeps (s : State) (n : Slot) (fs : List Field) :
    BlockKeeps s (queryReply s n fs).state := by
  unfold queryReply
  split <;> exact .refl s

theorem runPaceSet_keeps (n : Slot) (s : State) : BlockKeeps s (runPaceSet n s).state := by
  unfold runPaceSet
  refine .reply (fun _ => .refl s) fun _ => ?_
  split
  · exact .refl s
  · next m hm =>
    split
    · refine .reply (fun _ => .refl s) fun hr => ?_
      rw [not_or, Nat.not_lt, Nat.not_lt] at hr
      exact doPaceSet_keeps m (clamp_inRange hr.1 hr.2) _ s
    · exact doPaceSet_keeps m (fun h => (Bool.false_ne_true h).elim) _ s
    · exact .refl s

theorem runTimeSet_keeps (n : Slot) (s : State) : BlockKeeps s (runTimeSet n s).state := by
  unfold runTimeSet
  dsimp only
  split_ifs with hsafe hsec
  · exact .refl s
  · exact .refl s
  · refine (BlockKeeps.refl s).setClock _ fun h => { h with pending := fun p hp => ?_ }
    cases hp
    exact Nat.not_lt.1 hsec

theorem runTimeQuery_keeps (n : Slot) (s : State) : BlockKeeps s (runTimeQuery n s).state :=
  queryReply_keeps s n (timeFields s.clock)

theorem runKeepaliveSet_keeps (n : Slot) (s : State) :
    BlockKeeps s (runKeepaliveSet n s).state := by
  unfold runKeepaliveSet
  dsimp only
  split_ifs
  iterate 3 exact .refl s
  exact (BlockKeeps.refl s).setKeepalive _

theorem runSwitchQuery_keeps (n : Slot) (s : State) : BlockKeeps s (runSwitchQuery n s).state := by
  unfold runSwitchQuery
  split
  · exact .refl s
  · exact queryReply_keeps s n _

/-! #### The Robot Guard's -/

theorem robotCommand_keeps (n : Slot) {act : Robot → State → Reply}
    (h : ∀ r u, BlockKeeps u (act r u).state) (s : State) :
    BlockKeeps s (robotCommand n act s).state := by
  unfold robotCommand
  split_ifs
  · exact .refl s
  · split
    · exact .refl s
    · exact h _ s

theorem armRobot_keeps (n : Slot) (r : Robot) (s : State) :
    BlockKeeps s (armRobot n r s).state := by
  unfold armRobot
  split_ifs
  · exact enterRobot_keeps r _ s trivial
  · exact .refl s

theorem clearRobot_keeps (n : Slot) (r : Robot) (s : State) :
    BlockKeeps s (clearRobot n r s).state := by
  unfold clearRobot
  split_ifs
  · exact enterRobot_keeps r _ s trivial
  · exact .refl s

theorem holdRobot_keeps (n : Slot) (r : Robot) (s : State) :
    BlockKeeps s (holdRobot n r s).state := by
  unfold holdRobot
  split_ifs with hactive
  · exact enterRobot_keeps r _ s ⟨active_heartbeatRuns hactive, nofun⟩
  · exact .refl s
  · exact .refl s

theorem releaseRobot_keeps (n : Slot) (r : Robot) (s : State) :
    BlockKeeps s (releaseRobot n r s).state := by
  unfold releaseRobot
  refine .reply (fun hheld => ?_) fun _ => .refl s
  have hready : RobotEntry.mayEnter { s.robot r with run := 0 } none none .ready := by
    change (s.robot r).state.heartbeatRuns = true
    rw [hheld.1]
    rfl
  exact changeRobot_keeps r
    (fun c => (c.put { s.robot r with run := 0 }).enter r s.now .ready none none .release) s
    ((setRun_keeps (s.robot r) 0 (Nat.zero_le 15)).trans
      (enter_keeps r s.now .release ((s.robot r).begin.put { s.robot r with run := 0 }) hready))

theorem runRobotQuery_keeps (n : Slot) (s : State) : BlockKeeps s (runRobotQuery n s).state := by
  unfold runRobotQuery
  split
  · exact .refl s
  · split <;> exact .refl s

theorem runQuarantineSet_keeps (n : Slot) (s : State) :
    BlockKeeps s (runQuarantineSet n s).state := by
  unfold runQuarantineSet
  dsimp only
  split_ifs with hsafe hl
  · exact .refl s
  · exact .refl s
  · exact { robots := fun h => { h with limit := ⟨Nat.not_lt.1 hl, h.limit.2⟩ } }

/-- The limits that a settled envelope keeps, where they do not cross (R111, R112). -/
theorem RobotEntry.Inv.setEnvelope {e : RobotEntry} (h : e.Inv) (v : Envelope)
    (hv : v.settle.ordered = true) :
    RobotEntry.Inv { e with envelope := v.settle, envelopeWritten := true } := by
  simp only [Envelope.ordered, decide_eq_true_eq] at hv
  exact { h with
    volumes := ⟨hv.1, Nat.min_le_right _ _⟩
    heights := ⟨hv.2, Nat.min_le_right _ _⟩
    flows := by
      simp only [Envelope.settle, clampNat]
      omega }

theorem runRobotEnvelope_keeps (n : Slot) (s : State) :
    BlockKeeps s (runRobotEnvelope n s).state := by
  unfold runRobotEnvelope
  refine .reply (fun _ => .refl s) fun _ => ?_
  split
  · exact .refl s
  · next r hr =>
    exact .reply (fun _ => .refl s) fun _ => .reply
      (fun hv => setRobot_keeps r _ s ⟨fun h => h.setEnvelope _ hv, Iff.rfl⟩) fun _ => .refl s

/-! #### The Tracker's -/

theorem runTrackStart_keeps (n : Slot) (s : State) : BlockKeeps s (runTrackStart n s).state := by
  unfold runTrackStart
  refine .reply (fun _ => .refl s) fun hbar => ?_
  simp only [trackStartBarred, Bool.or_eq_true, not_or, State.isSafe, decide_eq_true_eq,
    Bool.not_eq_true, Option.isSome_eq_false_iff, Option.isNone_iff_eq_none] at hbar
  obtain ⟨⟨⟨hsafe, hload⟩, -⟩, -⟩ := hbar
  split
  · exact .refl s
  · refine .reply (fun hk => ?_) fun _ => .refl s
    rw [Bool.and_eq_true] at hk
    exact (BlockKeeps.refl s).setTracker _ fun h =>
      h.start _ hload hsafe (settle_inRange hk.1 hk.2)

theorem runTrackStop_keeps (s : State) : BlockKeeps s (runTrackStop s).state := by
  unfold runTrackStop
  split_ifs
  · exact .refl s
  · exact ((BlockKeeps.refl s).setTracker _ fun h => h.stop).raise _

theorem runTrackQuery_keeps (n : Slot) (s : State) : BlockKeeps s (runTrackQuery n s).state := by
  unfold runTrackQuery
  dsimp only
  split
  · exact queryReply_keeps s n _
  · exact queryReply_keeps s n _
  · split_ifs
    · exact .refl s
    · exact queryReply_keeps s n _
  · exact .refl s

/-! #### The Service Window's -/

theorem givenGrants_length {n : Slot} {s : State} {count : Nat} {gs : List Grant}
    (h : givenGrants n s count = some gs) : gs.length = count := by
  have hlen (l : List Nat) : ∀ gs, l.mapM (givenGrant n s) = some gs → gs.length = l.length := by
    induction l with
    | nil =>
      rintro gs h
      cases h
      rfl
    | cons i l ih =>
      intro gs h
      simp only [List.mapM_cons, Option.pure_def, Option.bind_eq_bind,
        Option.bind_eq_some_iff, Option.some.injEq] at h
      obtain ⟨g, -, rest, hrest, rfl⟩ := h
      rw [List.length_cons, List.length_cons, ih rest hrest]
  rw [hlen _ gs h, List.length_range]

theorem runServiceGrant_keeps (n : Slot) (s : State) :
    BlockKeeps s (runServiceGrant n s).state := by
  unfold runServiceGrant
  refine .reply (fun _ => .refl s) fun hbar => .reply (fun _ => .refl s) fun hparam => ?_
  simp only [Bool.or_eq_true, not_or, State.isSafe, decide_eq_true_eq, Bool.not_eq_true,
    Option.isSome_eq_false_iff, Option.isNone_iff_eq_none, not_not] at hbar
  obtain ⟨⟨hsafe, hload⟩, hkeyed⟩ := hbar
  split
  · exact .refl s
  · next gs hgs =>
    have hfew : gs.length ≤ 4 := by
      rw [givenGrants_length hgs]
      omega
    exact openWindow_keeps _ gs hfew _ s hkeyed hload hsafe

theorem runServiceExtend_keeps (n : Slot) (s : State) :
    BlockKeeps s (runServiceExtend n s).state := by
  unfold runServiceExtend
  split_ifs with hbar
  · exact .refl s
  · simp only [Bool.or_eq_true, not_or, decide_eq_true_eq, not_not] at hbar
    exact setWin_keeps _ s rfl rfl fun h => { h with deadline := iff_of_true nofun hbar.2 }

theorem runServiceRevoke_keeps (s : State) : BlockKeeps s (runServiceRevoke s).state := by
  unfold runServiceRevoke
  split_ifs with hbar
  · exact .refl s
  · simp only [Bool.or_eq_true, not_or, decide_eq_true_eq, not_not] at hbar
    exact drainOpen_keeps .revoke s hbar.2

/-! #### Opcodes and the page (R158, R159) -/

/-- What an issued command keeps, RELOAD apart. -/
theorem issueInstr_keeps {reload : Slot → BitVec 24 → State → State} (i : Instr) (s : State)
    (hi : ∀ n rest, i ≠ .reload n rest) : BlockKeeps s (issueInstr reload i s) := by
  cases i with
  | robotArm n rest => exact issueCommand_keeps n _ (robotCommand_keeps n (armRobot_keeps n)) s
  | robotClear n rest => exact issueCommand_keeps n _ (robotCommand_keeps n (clearRobot_keeps n)) s
  | robotHold n rest => exact issueCommand_keeps n _ (robotCommand_keeps n (holdRobot_keeps n)) s
  | robotRelease n rest =>
    exact issueCommand_keeps n _ (robotCommand_keeps n (releaseRobot_keeps n)) s
  | robotEnvelope n rest => exact issueCommand_keeps n _ (runRobotEnvelope_keeps n) s
  | robotQuery n rest => exact issueCommand_keeps n _ (runRobotQuery_keeps n) s
  | quarantineSet n rest => exact issueCommand_keeps n _ (runQuarantineSet_keeps n) s
  | trackStart n rest => exact issueCommand_keeps n _ (runTrackStart_keeps n) s
  | trackStop n rest => exact issueCommand_keeps n _ runTrackStop_keeps s
  | trackQuery n rest => exact issueCommand_keeps n _ (runTrackQuery_keeps n) s
  | timeSet n rest => exact issueCommand_keeps n _ (runTimeSet_keeps n) s
  | timeQuery n rest => exact issueCommand_keeps n _ (runTimeQuery_keeps n) s
  | keepaliveSet n rest => exact issueCommand_keeps n _ (runKeepaliveSet_keeps n) s
  | paceSet n rest => exact issueCommand_keeps n _ (runPaceSet_keeps n) s
  | serviceGrant n rest => exact issueCommand_keeps n _ (runServiceGrant_keeps n) s
  | serviceExtend n rest => exact issueCommand_keeps n _ (runServiceExtend_keeps n) s
  | serviceRevoke n rest => exact issueCommand_keeps n _ runServiceRevoke_keeps s
  | switchQuery n rest => exact issueCommand_keeps n _ (runSwitchQuery_keeps n) s
  | reload n rest => exact absurd rfl (hi n rest)
  | unknownOpcode n word =>
    exact issueCommand_keeps n word (run := fun u => refuse u .unknown) (fun u => .refl u) s
  | _ => exact .refl s

end Sys2Proof.Machine

namespace Sys2Proof.Machine

/-- An operation that keeps the invariants and leaves what waits on the lanes. -/
structure LaneKeeps (s t : State) : Prop extends Keeps s t where
  lanes : t.transit.lanes = s.transit.lanes := by rfl

theorem BlockKeeps.toLaneKeeps {s t : State} (h : BlockKeeps s t) : LaneKeeps s t where
  toKeeps := h.toKeeps
  lanes := by rw [h.transit]

namespace LaneKeeps

theorem refl (s : State) : LaneKeeps s s := {}

theorem trans {s t u : State} (h : LaneKeeps s t) (g : LaneKeeps t u) : LaneKeeps s u where
  toKeeps := h.toKeeps.trans g.toKeeps
  lanes := g.lanes.trans h.lanes

theorem ite {s a b : State} {c : Prop} [Decidable c] (ha : LaneKeeps s a) (hb : LaneKeeps s b) :
    LaneKeeps s (if c then a else b) := by
  split_ifs
  · exact ha
  · exact hb

theorem foldl {α : Type} {f : State → α → State} (hf : ∀ s a, LaneKeeps s (f s a)) (l : List α)
    (s : State) : LaneKeeps s (l.foldl f s) := by
  induction l generalizing s with
  | nil => exact .refl s
  | cons a l ih => exact (hf s a).trans (ih _)

end LaneKeeps

/-! ### Ports (R1, R5, R9) -/

/-- A master port that is not IN_MEMORY takes a state that is not either. -/
theorem setPorts_keeps (m : Master) (p : PortState) (x : Transit) (s : State)
    (hs : ¬s.inMemoryAt m) (hp : ∀ y, p ≠ .inMemory y) (hports : x.ports = s.transit.ports.set m p)
    (hmem : x.memPort = s.transit.memPort) (hlanes : x.lanes = s.transit.lanes) :
    LaneKeeps s (s.setTransit x) where
  lanes := hlanes
  traffic h :=
    { writing := fun hi => h.writing (hmem ▸ hi)
      room := h.room
      full := h.full
      carried := fun q => by
        rw [State.setTransit_transit, hmem, ← h.carried q]
        simp only [State.inMemoryAt, State.setTransit_transit, hports]
        by_cases hq : q = m
        · rw [hq, PerMaster.get_set_self]
          exact iff_of_false (fun ⟨y, hy⟩ => hp y hy) hs
        · rw [PerMaster.get_set_of_ne _ _ _ _ hq] }

theorem setMasterPort_keeps (m : Master) (p : PortState) (s : State) (hs : ¬s.inMemoryAt m)
    (hp : ∀ y, p ≠ .inMemory y) : LaneKeeps s (setMasterPort m p s) :=
  setPorts_keeps m p _ s hs hp rfl rfl rfl

theorem deliver_keeps (m : Master) (c : Completion) (s : State) (hs : ¬s.inMemoryAt m) :
    LaneKeeps s (deliver m c s) := setPorts_keeps m .empty _ s hs nofun rfl rfl rfl

theorem deny_keeps (m : Master) (r : Request) (c : DenialCause) (g : Option RegionRef)
    (report : Option Report) (s : State) (hs : ¬s.inMemoryAt m) :
    LaneKeeps s (deny m r c g report s) := by
  have hdeliver := deliver_keeps m { status := .denied, data := zeroData r.dir r.len } s hs
  cases report with
  | none => exact hdeliver.trans (countDenial_keeps m _ _).toLaneKeeps
  | some rep =>
    exact hdeliver.trans ((raise_keeps rep _).trans (countDenial_keeps m _ _)).toLaneKeeps

theorem noteAdmission_keeps (m : Master) (s : State) : LaneKeeps s (noteAdmission m s) :=
  .ite (setInFlight_keeps true s).toLaneKeeps (.refl s)

/-- The admission event before the owner's effects (R4, R38). -/
theorem enterWaiting_keeps (m : Master) (t : Txn) (cost : Nat) (s : State) (hs : ¬s.inMemoryAt m)
    (hfree : (s.pacing.get m).holds = false) (hcost : MapInv s → cost ≤ 32) :
    LaneKeeps s (enterWaiting m t cost s) := by
  let u := setPace m ((s.pacing.get m).charge cost) s
  have hpace : LaneKeeps s u := (setPace_keeps m _ s fun hm h => h.charge hfree (hcost hm)).toLaneKeeps
  have hport : LaneKeeps u (setMasterPort m (.waiting t) u) := setMasterPort_keeps m _ u hs nofun
  exact (hpace.trans hport).trans (noteAdmission_keeps m _)

/-! ### Kind handling (R22 to R26) -/

/-- An order that passes the tests is one that its robot's state does not refuse. -/
theorem judgeOrder_passed {e : RobotEntry} {m : Master} {len : BurstLen} {ws : List WriteWord}
    {mode : OrderMode} (h : judgeOrder e m len ws = .passed mode) : e.state.refuses mode = none := by
  unfold judgeOrder at h
  split_ifs at h
  split at h
  · cases h
  · split at h
    · cases h
    · next hnone =>
      cases h
      exact hnone

/-- What the operation of every opcode word keeps. -/
def IssueKeeps (issue : Slot → Word → State → State) : Prop := ∀ n w s, LaneKeeps s (issue n w s)

theorem pageWord_keeps {issue : Slot → Word → State → State} (hi : IssueKeeps issue) (alone : Bool)
    (o : Nat) (w : WriteWord) (s : State) : LaneKeeps s (pageWord issue alone o w s) := by
  unfold pageWord
  refine .ite (.ite (keepaliveValue_keeps _ s).toLaneKeeps (.refl s))
    (.ite (.ite (takeIndexValue_keeps _ s).toLaneKeeps (.refl s)) ?_)
  split
  · exact .refl s
  · exact .ite (writeParam_keeps _ _ w s).toLaneKeeps (.ite (.ite (hi _ _ s) (.refl s)) (.refl s))

theorem pageWords_keeps {issue : Slot → Word → State → State} (hi : IssueKeeps issue)
    (alone : Bool) (o : Nat) (ws : List WriteWord) (s : State) :
    LaneKeeps s (pageWords issue alone o ws s) := by
  induction ws generalizing o s with
  | nil => exact .refl s
  | cons w ws ih => exact (pageWord_keeps hi alone o w s).trans (ih _ _)

theorem pageWrite_keeps {issue : Slot → Word → State → State} (hi : IssueKeeps issue) (m : Master)
    (o : Nat) (len : BurstLen) (ws : List WriteWord) (s : State) :
    LaneKeeps s (pageWrite issue m o len ws s) :=
  .ite (pageWords_keeps hi _ o ws s) (.refl s)

/-- What the owner of an accepted order does, in a state with the robots it was judged in. -/
theorem handleOrder_keeps {m : Master} {r : Request} {o : Nat} {s : State} {ws : List WriteWord}
    {effect : State → State} (h : handleOrder m r o s = .accept ws effect) (u : State)
    (hu : u.robots = s.robots) : BlockKeeps u (effect u) := by
  unfold handleOrder at h
  split_ifs at h
  · split at h
    · cases h
      exact .refl u
    · split at h
      · cases h
      · next mode hpass =>
        cases h
        refine passOrder_keeps _ mode _ u ?_
        unfold State.robot
        rw [hu]
        exact judgeOrder_passed hpass
  · cases h
    exact .refl u

/-- What the owner of an accepted request does, the command page apart, in a state with the robots
it was judged in. -/
theorem handle_blockKeeps {issue : Slot → Word → State → State} {m : Master} {r : Request}
    {p : Place} {s : State} {ws : List WriteWord} {effect : State → State}
    (h : handle issue m r p s = .accept ws effect) (hp : p.kind = .control → m ≠ .line) (u : State)
    (hu : u.robots = s.robots) : BlockKeeps u (effect u) := by
  unfold handle at h
  split at h
  · cases h
    exact .refl u
  · unfold handleWrite at h
    split at h
    case h_1 | h_2 =>
      cases h
      exact .refl u
    · exact handleOrder_keeps h u hu
    · split_ifs at h <;> cases h
      · exact statusWrite_keeps ..
      · exact .refl u
    · cases h
      exact verdictWrite_keeps ..
    · cases h
      split_ifs
      · exact decodeMailbox_keeps ..
      · exact .refl u
    · next hk =>
      cases h
      exact .iteOf (fun hl => absurd hl.1 (hp hk)) fun _ => .refl u
    · cases h

/-- What the owner of an accepted request does, in a state with the robots it was judged in. -/
theorem handle_keeps {issue : Slot → Word → State → State} (hi : IssueKeeps issue) {m : Master}
    {r : Request} {p : Place} {s : State} {ws : List WriteWord} {effect : State → State}
    (h : handle issue m r p s = .accept ws effect) (u : State) (hu : u.robots = s.robots) :
    LaneKeeps u (effect u) := by
  by_cases hk : p.kind = .control
  · simp only [handle, handleWrite, hk] at h
    cases hd : r.dir <;> simp only [hd, Handling.accept.injEq] at h <;> obtain ⟨-, rfl⟩ := h
    · exact .refl u
    · exact pageWrite_keeps hi ..
  · exact (handle_blockKeeps h (fun hc => absurd hc hk) u hu).toLaneKeeps

/-! ### Admission (R4) -/

theorem paceAndAdmit_keeps (m : Master) (r : Request) (a : Nat) (ws : List WriteWord)
    {effect : State → State} (s : State) (hs : ¬s.inMemoryAt m)
    (he : ∀ u : State, u.robots = s.robots → LaneKeeps u (effect u)) :
    LaneKeeps s (paceAndAdmit m r (s.map.place a) ws effect s) := by
  unfold paceAndAdmit
  split_ifs with hheld
  · exact setMasterPort_keeps m _ s hs nofun
  · refine (enterWaiting_keeps m _ _ s hs (eq_false_of_ne_true hheld) fun hm =>
      requestCost_le (hm.place_weight a) r.len).trans (he _ ?_)
    rw [enterWaiting_frame]

theorem examine_keeps {issue : Slot → Word → State → State} (hi : IssueKeeps issue) (m : Master)
    (r : Request) (s : State) (hs : ¬s.inMemoryAt m) : LaneKeeps s (examine issue m r s) := by
  unfold examine
  dsimp only
  split
  · exact deny_keeps m r _ _ _ s hs
  · split
    · exact deny_keeps m r _ _ _ s hs
    · next ws effect hacc => exact paceAndAdmit_keeps m r _ ws s hs (handle_keeps hi hacc)

theorem reexamine_keeps {issue : Slot → Word → State → State} (hi : IssueKeeps issue) (m : Master)
    (s : State) : LaneKeeps s (reexamine issue m s) := by
  unfold reexamine
  split
  · next r hheld =>
    exact examine_keeps hi m r s fun ⟨x, hx⟩ => by simp [hheld] at hx
  all_goals exact .refl s

theorem reexamineAll_keeps {issue : Slot → Word → State → State} (hi : IssueKeeps issue)
    (s : State) : LaneKeeps s (reexamineAll issue s) :=
  .foldl (fun u m => reexamine_keeps hi m u) masters s

/-! ### The arbiter (R10) -/

/-- A grant to a master port carries it (R9). -/
theorem RunningTraffic.grantMaster {s : State} (h : RunningTraffic s)
    (hfree : s.transit.memPort = .free) (m : Master) :
    RunningTraffic (s.setTransit (s.transit.grantMaster m)) := by
  unfold Transit.grantMaster
  split
  · next x hx =>
    have hnone (q : Master) : ¬s.inMemoryAt q := by
      rw [h.carried q, hfree]
      nofun
    refine ⟨fun q => ?_, nofun, h.room, h.full⟩
    simp only [State.inMemoryAt, State.setTransit_transit]
    by_cases hq : q = m
    · rw [hq, PerMaster.get_set_self]
      exact iff_of_true ⟨x, rfl⟩ rfl
    · rw [PerMaster.get_set_of_ne _ _ _ _ hq]
      exact iff_of_false (hnone q) fun hm => hq (MemPort.master.inj hm).symm
  all_goals exact h

theorem RunningTraffic.grantInternal {s : State} (h : RunningTraffic s)
    (hfree : s.transit.memPort = .free) (hq : s.staging ≠ []) :
    RunningTraffic (s.setTransit s.transit.grantInternal) where
  carried q := by
    have := h.carried q
    rw [hfree] at this
    exact iff_of_false (fun hx => nomatch this.1 hx) nofun
  writing _ := hq
  room := h.room
  full := h.full

theorem arbitrate_lanes (s : State) : (arbitrate s).transit.lanes = s.transit.lanes := by
  unfold arbitrate
  rw [State.setTransit_transit, transit_arbitrate_frame]

theorem arbitrate_keeps (s : State) : LaneKeeps s (arbitrate s) := by
  refine { traffic := fun h => ?_, lanes := arbitrate_lanes s }
  unfold arbitrate Transit.arbitrate
  have hwork {n : Nat} (hn : 1 ≤ n) (hs : n ≤ s.staging.length) : s.staging ≠ [] :=
    List.ne_nil_of_length_pos (hn.trans hs)
  split
  · exact h
  · exact h
  · next hfree =>
    split_ifs with hsix hone
    · exact h.grantInternal hfree (hwork (by omega) hsix)
    · split
      · exact h.grantMaster hfree _
      · exact h.grantInternal hfree (hwork le_rfl hone)
    · split
      · exact h.grantMaster hfree _
      · exact h

end Sys2Proof.Machine

namespace Sys2Proof.Machine

/-! ### Resets of the blocks (R104, R157, R169) -/

theorem RobotEntry.Inv.reset : RobotEntry.Inv .reset := by
  constructor <;> simp [RobotEntry.reset]

theorem RobotsInv.resetKeepingSettings {s : State} (h : RobotsInv s) {t : State}
    (ht : t.robots = s.robots.resetKeepingSettings) : RobotsInv t where
  robots r := by
    rw [ht]
    simp only [RobotGuard.resetKeepingSettings, PerRobot.get_all]
    exact .reset
  limit := by
    rw [ht]
    exact ⟨h.limit.2, h.limit.2⟩
  serviceFlow := by
    rw [ht]
    exact h.serviceFlow

/-- With no session, every robot at home and no message on its way. -/
theorem OwnershipInv.of_home {s : State} (hw : s.window.state ∉ [.opened, .draining])
    (hm : s.mail.transfers = []) (hr : ∀ r, s.atHome r) : OwnershipInv s :=
  (ownershipInv_iff s).2 fun r => (accounted_idle hw _).2
    ⟨by simp [State.messagesFor, hm], hr r⟩

theorem atHome_of_reset {s : State} (h : s.robots.table = .all .reset) (r : Robot) :
    s.atHome r := by
  unfold State.atHome
  rw [h, PerRobot.get_all]
  exact ⟨rfl, rfl⟩

theorem inSession_eq_false_iff (st : WindowState) :
    st.inSession = false ↔ st ∉ [.opened, .draining] := by
  cases st <;> simp [WindowState.inSession]

/-- The blocks that the acceptance of a RELOAD resets, and the load that begins. -/
theorem reloadResets_eq (s : State) : reloadResets s =
    { s with
      pacing := s.pacing.map (Pace.resetToDelivered s.now)
      robots := s.robots.resetKeepingSettings
      switch := s.switch.resetKeepingConfig
      tracker := s.tracker.resetKeepingConfig
      keepalive := .reset
      mail := { s.mail.dropRobotGuard with cameras := [] }
      window := { s.window with refusal := false }
      loader := { s.loader with load := some .reload, cause := .reload } } := by
  apply State.ext <;> simp [reloadResets, resetPacing, resetKeepalive]

theorem reloadResets_keeps (s : State) (hs : s.window.state ∉ [.opened, .draining]) :
    LaneKeeps s (reloadResets s) := by
  rw [reloadResets_eq]
  exact {
    pacing := fun hm h => ((resetPacing_keeps s).pacing hm h).congr (s := resetPacing s) rfl
    robots := fun h => h.resetKeepingSettings rfl
    ownership := fun _ => .of_home hs rfl (atHome_of_reset rfl)
    tracker := fun _ => .of_reset rfl rfl rfl rfl fun _ => nofun
    window := fun h => { h with
      refusal := nofun
      condition := fun hn => absurd hn hs
      loading := fun _ => nofun } }

/-- An accepted RELOAD finds no session of the window (R169). -/
theorem not_inSession_of_reloadBarred {s : State} (h : reloadBarred s = false) :
    s.window.state ∉ [.opened, .draining] := by
  simp only [reloadBarred, Bool.or_eq_false_iff] at h
  exact (inSession_eq_false_iff _).1 h.1.2

theorem issueReload_keeps {reexam : State → State} (h : ∀ u, LaneKeeps u (reexam u)) (n : Slot)
    (rest : BitVec 24) (s : State) : LaneKeeps s (issueReload reexam n rest s) := by
  unfold issueReload
  refine .ite (.refl s) (.ite (raise_keeps _ s).toLaneKeeps ?_)
  refine (beginIssue_keeps n (opcodeWord 0x60 rest) s).toLaneKeeps.trans ?_
  dsimp only
  split_ifs with hbar
  · exact (giveResult_keeps n _ none _).toLaneKeeps
  · refine (giveResult_keeps n .done none _).toLaneKeeps.trans
      ((reloadResets_keeps _ ?_).trans (h _))
    rw [giveResult_window]
    exact not_inSession_of_reloadBarred (eq_false_of_ne_true hbar)

theorem issueOpcode_keeps {reload : Slot → BitVec 24 → State → State}
    (h : ∀ n rest s, LaneKeeps s (reload n rest s)) : IssueKeeps (issueOpcode reload) := by
  intro n w s
  unfold issueOpcode
  split
  · exact .refl s
  · next i hi =>
    by_cases hr : ∃ k rest, i = .reload k rest
    · obtain ⟨k, rest, rfl⟩ := hr
      exact h k rest s
    · exact (issueInstr_keeps i s fun k rest he => hr ⟨k, rest, he⟩).toLaneKeeps

theorem issueWithin_keeps : IssueKeeps issueWithin :=
  issueOpcode_keeps fun n rest s => issueReload_keeps LaneKeeps.refl n rest s

theorem issueReloadFull_keeps (n : Slot) (rest : BitVec 24) (s : State) :
    LaneKeeps s (issueReloadFull n rest s) :=
  issueReload_keeps (reexamineAll_keeps issueWithin_keeps) n rest s

theorem issueFull_keeps : IssueKeeps issueFull := issueOpcode_keeps issueReloadFull_keeps

/-! ### Arrivals and lanes (R1) -/

theorem arrive_keeps (m : Master) (r : Request) (s : State) (hs : ¬s.inMemoryAt m) :
    LaneKeeps s (arrive m r s) :=
  .ite (deny_keeps m r _ _ _ s hs)
    (.ite (deny_keeps m r _ _ _ s hs) (examine_keeps issueFull_keeps m r s hs))

theorem setLane_keeps (m : Master) (l : List Request) (s : State) : Keeps s (setLane m l s) := {}

theorem not_inMemoryAt_of_empty {s : State} {m : Master} (h : s.transit.ports.get m = .empty) :
    ¬s.inMemoryAt m := fun ⟨x, hx⟩ => by simp [h] at hx

theorem presentRequest_keeps (m : Master) (r : Request) (s : State) :
    Keeps s (presentRequest m r s) := by
  unfold presentRequest
  split
  · next he _ => exact (arrive_keeps m r s (not_inMemoryAt_of_empty he)).toKeeps
  all_goals exact setLane_keeps m _ s

theorem serveLane_keeps (m : Master) (s : State) : Keeps s (serveLane m s) := by
  unfold serveLane
  split
  · exact (setLane_keeps m [] s).trans
      (.foldl (fun u r => (arbitrate_keeps u).toKeeps.trans (presentRequest_keeps m r _)) _ _)
  all_goals exact .refl s

theorem serveLanes_keeps (s : State) : Keeps s (serveLanes s) :=
  .foldl (fun u m => serveLane_keeps m u) masters s

/-! An EMPTY port has nothing on its lane once the lanes are served. LINE is served first, since only
its command page can issue a RELOAD, which re-examines the requests that other ports hold. -/

/-- The port of `m`, if it is EMPTY, has no request on its lane. -/
def State.laneTaken (s : State) (m : Master) : Prop :=
  s.transit.ports.get m = .empty → s.transit.lanes.get m = []

/-- The arbiter makes no port EMPTY. -/
theorem arbitrate_empty {s : State} {m : Master}
    (h : (arbitrate s).transit.ports.get m = .empty) : s.transit.ports.get m = .empty := by
  have hgrant (q : Master) (hq : (s.transit.grantMaster q).ports.get m = .empty) :
      s.transit.ports.get m = .empty := by
    unfold Transit.grantMaster at hq
    split at hq
    · by_cases hm : m = q
      · simp [hm] at hq
      · rwa [PerMaster.get_set_of_ne _ _ _ _ hm] at hq
    all_goals exact hq
  simp only [arbitrate, Transit.arbitrate, State.setTransit_transit] at h
  split at h
  · exact h
  · exact h
  · split_ifs at h
    · exact h
    all_goals
      split at h
      · exact hgrant _ h
      · exact h

theorem arbitrate_laneTaken {s : State} {m : Master} (h : s.laneTaken m) :
    (arbitrate s).laneTaken m := fun he => by
  rw [arbitrate_lanes]
  exact h (arbitrate_empty he)

theorem presentRequest_laneTaken {s : State} {m : Master} (h : s.laneTaken m) (r : Request) :
    (presentRequest m r s).laneTaken m := by
  by_cases he : s.transit.ports.get m = .empty
  · intro _
    have hl := h he
    have hp : presentRequest m r s = arrive m r s := by simp [presentRequest, he, hl]
    rw [hp, (arrive_keeps m r s (not_inMemoryAt_of_empty he)).lanes, hl]
  · rw [presentRequest_waits m r s he]
    exact fun hs => absurd hs he

/-- Serving the lane of `m` leaves nothing on it at an EMPTY port. -/
theorem serveLane_self (m : Master) (s : State) : (serveLane m s).laneTaken m := by
  have hfold (l : List Request) : ∀ u : State, u.laneTaken m →
      (l.foldl (takeOrLeave m) u).laneTaken m := by
    induction l with
    | nil => exact fun _ hu => hu
    | cons r l ih => exact fun u hu => ih _ (presentRequest_laneTaken (arbitrate_laneTaken hu) r)
  unfold serveLane
  split
  · exact hfold _ _ fun _ => by simp [setLane]
  all_goals
    next hs => exact fun he => by simp [hs] at he

/-- An operation that leaves the ports and lanes of the masters but `m`. -/
def OthersKept (m : Master) (s t : State) : Prop :=
  ∀ q, q ≠ m → t.transit.ports.get q = s.transit.ports.get q ∧
    t.transit.lanes.get q = s.transit.lanes.get q

theorem OthersKept.trans {m : Master} {s t u : State} (h : OthersKept m s t)
    (g : OthersKept m t u) : OthersKept m s u := fun q hq =>
  ⟨(g q hq).1.trans (h q hq).1, (g q hq).2.trans (h q hq).2⟩

theorem OthersKept.of_transit {m : Master} {s t : State} (h : t.transit = s.transit) :
    OthersKept m s t := fun q _ => by rw [h]; exact ⟨rfl, rfl⟩

theorem setPort_othersKept {m : Master} {p : PortState} {s t : State}
    (hp : t.transit.ports = s.transit.ports.set m p) (hl : t.transit.lanes = s.transit.lanes) :
    OthersKept m s t := fun q hq => by
  rw [hp, hl]
  exact ⟨PerMaster.get_set_of_ne _ _ _ _ hq, rfl⟩

theorem deny_othersKept (m : Master) (r : Request) (c : DenialCause) (g : Option RegionRef)
    (report : Option Report) (s : State) : OthersKept m s (deny m r c g report s) := by
  rw [deny_frame]
  exact setPort_othersKept rfl rfl

theorem OthersKept.ite {m : Master} {s a b : State} {c : Prop} [Decidable c]
    (ha : OthersKept m s a) (hb : OthersKept m s b) : OthersKept m s (if c then a else b) := by
  split_ifs
  · exact ha
  · exact hb

theorem enterWaiting_othersKept (m : Master) (t : Txn) (cost : Nat) (s : State) :
    OthersKept m s (enterWaiting m t cost s) := by
  rw [enterWaiting_frame]
  exact setPort_othersKept rfl rfl

/-- A master but LINE changes no other port by its request. -/
theorem examine_othersKept {m : Master} (hm : m ≠ .line) (issue : Slot → Word → State → State)
    (r : Request) (s : State) : OthersKept m s (examine issue m r s) := by
  unfold examine
  dsimp only
  split
  · exact deny_othersKept m r _ _ _ s
  · split
    · exact deny_othersKept m r _ _ _ s
    · next ws effect hacc =>
      refine .ite (setPort_othersKept rfl rfl) ((enterWaiting_othersKept m _ _ s).trans
        (.of_transit (handle_blockKeeps hacc (fun _ => hm) _ ?_).transit))
      rw [enterWaiting_frame]

theorem arrive_othersKept {m : Master} (hm : m ≠ .line) (r : Request) (s : State) :
    OthersKept m s (arrive m r s) :=
  .ite (deny_othersKept m r _ _ _ s)
    (.ite (deny_othersKept m r _ _ _ s) (examine_othersKept hm issueFull r s))

theorem presentRequest_othersKept {m : Master} (hm : m ≠ .line) (r : Request) (s : State) :
    OthersKept m s (presentRequest m r s) := by
  unfold presentRequest
  split
  · exact arrive_othersKept hm r s
  all_goals exact fun q hq => ⟨rfl, PerMaster.get_set_of_ne _ _ _ _ hq⟩

theorem OthersKept.laneTaken {m q : Master} {s t : State} (h : OthersKept m s t) (hq : q ≠ m)
    (hs : s.laneTaken q) : t.laneTaken q := fun he => by
  rw [(h q hq).2]
  exact hs ((h q hq).1 ▸ he)

theorem serveLane_other {m q : Master} (hm : m ≠ .line) (hq : q ≠ m) {s : State}
    (hs : s.laneTaken q) : (serveLane m s).laneTaken q := by
  have hfold (l : List Request) : ∀ u : State, u.laneTaken q →
      (l.foldl (takeOrLeave m) u).laneTaken q := by
    induction l with
    | nil => exact fun _ hu => hu
    | cons r l ih =>
      exact fun u hu => ih _
        ((presentRequest_othersKept hm r _).laneTaken hq (arbitrate_laneTaken hu))
  unfold serveLane
  split
  · refine hfold _ _ fun he => ?_
    simp only [setLane, State.setTransit_transit, PerMaster.get_set_of_ne _ _ _ _ hq] at he ⊢
    exact hs he
  all_goals exact hs

theorem serveLanes_lanesTaken (s : State) : (serveLanes s).lanesTaken := by
  have step {m q : Master} (hm : m ≠ .line) (u : State) (hu : q ≠ m → u.laneTaken q) :
      (serveLane m u).laneTaken q := by
    by_cases hq : q = m
    · exact hq ▸ serveLane_self m u
    · exact serveLane_other hm hq (hu hq)
  intro q
  change (serveLane .service (serveLane .robotlink (serveLane .camera
    (serveLane .switch (serveLane .line s))))).laneTaken q
  refine step (by decide) _ fun h5 => step (by decide) _ fun h4 => step (by decide) _ fun h3 =>
    step (by decide) _ fun h2 => ?_
  cases q
  case line => exact serveLane_self .line s
  all_goals contradiction

/-! ### Completions (R14, R15) -/

/-- The memory port is free and the port that it carried EMPTY. -/
theorem deliver_freePort_keeps (m : Master) (c : Completion) (s : State)
    (hm : s.transit.memPort = .master m) : LaneKeeps s (deliver m c (freePort s)) where
  traffic h :=
    { writing := nofun
      room := h.room
      full := h.full
      carried := fun q => by
        refine iff_of_false ?_ nofun
        rintro ⟨x, hx⟩
        by_cases hq : q = m
        · rw [hq] at hx
          simp [deliver, freePort] at hx
        · have hcarried := (h.carried q).1 ⟨x, by
            simpa [deliver, freePort, PerMaster.get_set_of_ne _ _ _ _ hq] using hx⟩
          rw [hm] at hcarried
          exact hq (MemPort.master.inj hcarried).symm }

theorem noteDelivery_keeps (m : Master) (s : State) : LaneKeeps s (noteDelivery m s) :=
  .ite ((setInFlight_keeps false s).trans (settleTest_keeps _)).toLaneKeeps (.refl s)

theorem completeTxn_keeps (m : Master) (t : Txn) (ok : Bool) (data : List Word) (s : State)
    (hm : s.transit.memPort = .master m) : LaneKeeps s (completeTxn m t ok data s) := by
  have hokay : LaneKeeps s (deliverOkay m t data (freePort s)) := by
    unfold deliverOkay
    split
    · exact deliver_freePort_keeps m _ s hm
    · exact (deliver_freePort_keeps m _ s hm).trans
        (.ite (clearLatchesFrom_keeps _ _ _).toLaneKeeps (.refl _))
  refine .trans (.ite hokay ?_) (noteDelivery_keeps m _)
  exact (deliver_freePort_keeps m _ s hm).trans (raise_keeps _ _).toLaneKeeps

theorem current_memPort {t : Transit} {m : Master} {x : Txn} (h : t.current = some (m, x)) :
    t.memPort = .master m := by
  unfold Transit.current at h
  split at h
  · cases h
  · cases h
  · next hm =>
    split at h <;> cases h
    exact hm

/-! ### Internal writes (R11, R13) -/

/-- The lowest waiting result joins a queue that an entry has just left. -/
theorem RunningTraffic.joinWaiting {s : State} (hc : ∀ m, ¬s.inMemoryAt m)
    (hfree : s.transit.memPort = .free) (hroom : s.staging.length < 8)
    (hfull : ∀ n, (s.slots.get n).waiting ≠ none → s.staging.length + 1 = 8) :
    RunningTraffic (joinWaiting s) := by
  have hcarried (m : Master) : s.inMemoryAt m ↔ s.transit.memPort = .master m :=
    iff_of_false (hc m) (by rw [hfree]; nofun)
  have hwriting : s.transit.memPort ≠ .internal := by
    rw [hfree]
    nofun
  unfold Machine.joinWaiting
  rw [if_pos (by simpa [stagingMax] using hroom)]
  split
  · next hnone =>
    refine ⟨hcarried, fun hi => absurd hi hwriting, hroom.le, fun n hn => absurd ?_ hn⟩
    have := List.find?_eq_none.1 hnone n (by cases n <;> simp [allSlots])
    simpa using this
  · next n hn =>
    have hw := List.find?_some hn
    split
    · next he => simp [he] at hw
    · next e he =>
      have hlast := hfull n (by rw [he]; nofun)
      exact ⟨hcarried, fun hi => absurd hi hwriting, by simpa using hroom,
        fun k _ => by simpa using hlast⟩

theorem noteLeaving_frame (e : StagingEntry) (s : State) : noteLeaving e s =
    { s with writer := (noteLeaving e s).writer, slots := (noteLeaving e s).slots } := by
  unfold noteLeaving
  split_ifs
  · split <;> rfl
  · rfl

theorem noteLeaving_waiting (e : StagingEntry) (s : State) (n : Slot) :
    ((noteLeaving e s).slots.get n).waiting = (s.slots.get n).waiting := by
  unfold noteLeaving
  split_ifs
  · split
    · rfl
    · next k _ _ _ _ _ =>
      exact PerSlot.set_waiting s.slots k { s.slots.get k with awaiting := false } rfl n
  · rfl

theorem leaveStaging_frame (e : StagingEntry) (rest : List StagingEntry) (s : State) :
    leaveStaging e rest s =
      { s with
        staging := (leaveStaging e rest s).staging
        slots := (leaveStaging e rest s).slots
        writer := (leaveStaging e rest s).writer } := by
  unfold leaveStaging
  dsimp only
  split_ifs <;> rw [joinWaiting_frame]
  · rw [loseRecord_frame, noteLeaving_frame]
    rfl
  · rw [noteLeaving_frame]
    rfl

/-- The answer to an internal write changes the staging queue, its slots, the ring and who holds the
memory port. -/
theorem internalAnswer_frame (ok : Bool) (s : State) : internalAnswer ok s =
    { s with
      transit := { s.transit with memPort := (internalAnswer ok s).transit.memPort }
      staging := (internalAnswer ok s).staging
      slots := (internalAnswer ok s).slots
      writer := (internalAnswer ok s).writer } := by
  unfold internalAnswer
  split
  · unfold completeInternal
    dsimp only
    split_ifs
    · rfl
    · rw [leaveStaging_frame]
      rfl
  all_goals rfl

theorem leaveStaging_traffic {s : State} (e : StagingEntry) (rest : List StagingEntry)
    (hc : ∀ m, ¬s.inMemoryAt m) (hfree : s.transit.memPort = .free) (hroom : rest.length < 8)
    (hfull : ∀ n, (s.slots.get n).waiting ≠ none → rest.length + 1 = 8) :
    RunningTraffic (leaveStaging e rest s) := by
  have hleft {u : State} (ht : u.transit = s.transit) (hq : u.staging = rest)
      (hw : u.slots = (noteLeaving e (s.setStaging rest)).slots) :
      RunningTraffic (joinWaiting u) := by
    refine .joinWaiting (fun m hm => hc m (by rwa [State.inMemoryAt, ht] at hm)) (ht ▸ hfree)
      (hq ▸ hroom) fun n hn => ?_
    rw [hw, noteLeaving_waiting] at hn
    exact hq ▸ hfull n hn
  unfold leaveStaging
  dsimp only
  split_ifs
  · exact hleft (by rw [loseRecord_frame, noteLeaving_frame]; rfl)
      (by rw [loseRecord_frame, noteLeaving_frame]; rfl) rfl
  · exact hleft (by rw [noteLeaving_frame]; rfl) (by rw [noteLeaving_frame]; rfl) rfl

theorem internalAnswer_traffic (ok : Bool) {s : State} (h : RunningTraffic s) :
    RunningTraffic (internalAnswer ok s) := by
  unfold internalAnswer
  split
  · next e rest hmem hq =>
    have hc (m : Master) : ¬s.inMemoryAt m := by
      rw [h.carried m, hmem]
      nofun
    have hroom := h.room
    have hfull := h.full
    rw [hq] at hroom hfull
    unfold completeInternal
    dsimp only
    split_ifs
    · exact ⟨fun m => iff_of_false (hc m) nofun, nofun, hroom, hfull⟩
    · exact leaveStaging_traffic (s := freePort s) _ rest hc rfl hroom hfull
  all_goals exact h

theorem internalAnswer_keeps (ok : Bool) (s : State) : LaneKeeps s (internalAnswer ok s) where
  clock := .congr (by rw [internalAnswer_frame])
  map := .congr (by rw [internalAnswer_frame])
  pacing _ := .congr (by rw [internalAnswer_frame])
  robots := .congr (by rw [internalAnswer_frame])
  ownership := .congr (fun r => by rw [internalAnswer_frame]; exact Iff.rfl)
    (by rw [internalAnswer_frame]) (by rw [internalAnswer_frame]) (by rw [internalAnswer_frame])
  tracker := .congr (by rw [internalAnswer_frame]) (by rw [internalAnswer_frame])
  window := .congr (by rw [internalAnswer_frame]) (by rw [internalAnswer_frame])
  traffic := internalAnswer_traffic ok
  lanes := by rw [internalAnswer_frame]

/-! ### The Service Window's refusal and refills (R7, R40) -/

theorem refusalEvent_keeps (s : State) : LaneKeeps s (refusalEvent s) := by
  have hheld : LaneKeeps s (refuseHeld s) := by
    unfold refuseHeld
    split
    · next r hr => exact deny_keeps .service r _ _ _ s fun ⟨x, hx⟩ => by simp [hr] at hx
    all_goals exact .refl s
  have htaken (u : State) : BlockKeeps u (setWin { u.window with refusal := false } u) :=
    setWin_keeps _ u rfl rfl fun h => { h with refusal := nofun }
  exact .ite (hheld.trans ((htaken _).trans (settleTest_keeps _)).toLaneKeeps) (.refl s)

theorem refillEvent_keeps (m : Master) (s : State) : LaneKeeps s (refillEvent m s) := by
  unfold refillEvent
  dsimp only
  split
  · exact .refl s
  · next a ha =>
    refine .ite (.trans ?_ (reexamine_keeps issueFull_keeps m _)) (.refl s)
    exact (setPace_keeps m _ s fun _ h => h.expire ha s.now).toLaneKeeps

end Sys2Proof.Machine

namespace Sys2Proof.Machine

/-! ### The map that a load delivers (R28, R29) -/

/-- What R28 asks of two enabled entries. -/
def RegionEntry.fits (a b : RegionEntry) : Prop :=
  a.enabled = true → b.enabled = true → a.overlaps b = false ∧
    ∀ k : RegionKind, k.single = true → RegionKind.ofCode? a.kindCode = some k →
      RegionKind.ofCode? b.kindCode ≠ some k

/-- What R28 asks of an enabled entry alone. -/
def RegionEntry.sound (e : RegionEntry) : Prop :=
  e.enabled = true → ∃ k, RegionKind.ofCode? e.kindCode = some k ∧ k.sizeOk e.size = true ∧
    0 < e.size ∧ e.base + e.size ≤ 16777216 ∧ 1 ≤ e.weight ∧ e.weight ≤ 4

/-- The conditions of R28 on a list of entries. -/
def EntriesOk (es : List RegionEntry) : Prop :=
  (∀ e ∈ es, e.sound) ∧ es.Pairwise RegionEntry.fits

theorem valid_sound (e : RegionEntry) (lower : List RegionEntry) :
    e.valid lower = true → e.sound ∧ ∀ o ∈ lower, o.fits e := by
  intro h
  unfold RegionEntry.valid at h
  split at h
  · cases h
  · next k hk =>
    simp only [Bool.and_eq_true, decide_eq_true_eq, List.all_eq_true, Bool.or_eq_true,
      Bool.not_eq_true', Bool.and_eq_false_iff, decide_eq_false_iff_not] at h
    obtain ⟨⟨⟨hsize, hinside, hlow, hhigh⟩, hkind⟩, hlower⟩ := h
    refine ⟨fun _ => ⟨k, hk, hkind, Nat.pos_of_ne_zero hsize, hinside, hlow, hhigh⟩,
      fun o ho hon _ => ?_⟩
    obtain hoff | ⟨hapart, hsingle⟩ := hlower o ho
    · simp [hoff] at hon
    · refine ⟨hapart, fun j hj hoj hej => ?_⟩
      rw [hk, Option.some.injEq] at hej
      subst hej
      rcases hsingle with hs | hs
      · simp [hs] at hj
      · exact hs hoj

theorem EntriesOk.load {lower : List RegionEntry} (h : EntriesOk lower) (e : RegionEntry) :
    EntriesOk (lower ++ [loadEntry lower e]) := by
  have hnew : (loadEntry lower e).sound ∧ ∀ o ∈ lower, o.fits (loadEntry lower e) := by
    unfold loadEntry
    split_ifs with hbad
    · exact ⟨nofun, fun o _ _ => nofun⟩
    · by_cases he : e.enabled = true
      · exact valid_sound e lower (by simpa [he] using hbad)
      · exact ⟨fun ho => absurd ho he, fun o _ _ ho => absurd ho he⟩
  refine ⟨fun x hx => ?_, List.pairwise_append.2 ⟨h.2, List.pairwise_singleton _ _, ?_⟩⟩
  · rcases List.mem_append.1 hx with hx | hx
    · exact h.1 x hx
    · exact List.mem_singleton.1 hx ▸ hnew.1
  · intro o ho x hx
    exact List.mem_singleton.1 hx ▸ hnew.2 o ho

theorem loadEntries_ok (stored : List RegionEntry) :
    EntriesOk (loadEntries stored) ∧ (loadEntries stored).length = stored.length := by
  have hfold (es : List RegionEntry) : ∀ lower, EntriesOk lower →
      EntriesOk (es.foldl (fun lower e => lower ++ [loadEntry lower e]) lower) ∧
      (es.foldl (fun lower e => lower ++ [loadEntry lower e]) lower).length =
        lower.length + es.length := by
    induction es with
    | nil => exact fun lower h => ⟨h, rfl⟩
    | cons e es ih =>
      intro lower h
      obtain ⟨hok, hlen⟩ := ih _ (h.load e)
      refine ⟨hok, ?_⟩
      rw [List.foldl_cons, hlen, List.length_append, List.length_singleton, List.length_cons]
      omega
  obtain ⟨hok, hlen⟩ := hfold stored [] ⟨nofun, .nil⟩
  exact ⟨hok, by rw [loadEntries, hlen, List.length_nil, Nat.zero_add]⟩

/-- R29 changes the rights of an entry alone. -/
theorem settleControl_eq (e : RegionEntry) : settleControl e =
    { e with
      readRights := (settleControl e).readRights
      writeRights := (settleControl e).writeRights } := by
  unfold settleControl
  split_ifs <;> rfl

theorem EntriesOk.settle {es : List RegionEntry} (h : EntriesOk es) :
    EntriesOk (es.map settleControl) := by
  constructor
  · intro x hx
    obtain ⟨e, he, rfl⟩ := List.mem_map.1 hx
    rw [settleControl_eq]
    exact h.1 e he
  · refine List.Pairwise.map settleControl (fun a b hab => ?_) h.2
    rw [settleControl_eq a, settleControl_eq b]
    exact hab

/-- The map's conditions of R28 and R29. -/
structure MapOk (mp : RegionMap) : Prop where
  sixteen : mp.entries.length = 16
  entries : EntriesOk mp.entries
  control : ∃ e, mp.entryOf .control = some e ∧ e.writeRights = 0b00001
  reports : ∃ e, mp.entryOf .reports = some e

theorem entryOf_spec {mp : RegionMap} {k : RegionKind} {e : RegionEntry}
    (h : mp.entryOf k = some e) :
    e ∈ mp.entries ∧ e.enabled = true ∧ RegionKind.ofCode? e.kindCode = some k := by
  have hp := List.find?_some h
  rw [Bool.and_eq_true, decide_eq_true_eq] at hp
  exact ⟨List.mem_of_find?_eq_some h, hp.1, hp.2⟩

theorem EntriesOk.sizeOk {mp : RegionMap} (h : EntriesOk mp.entries) {k : RegionKind}
    {e : RegionEntry} (he : mp.entryOf k = some e) : k.sizeOk e.size = true := by
  obtain ⟨hmem, hon, hkind⟩ := entryOf_spec he
  obtain ⟨j, hj, hsize, -⟩ := h.1 e hmem hon
  rw [hkind, Option.some.injEq] at hj
  exact hj ▸ hsize

theorem single_iff (k : RegionKind) :
    k.single = true ↔ k ∈ [.orders, .status, .verdicts, .ports, .control, .reports] := by
  cases k <;> simp [RegionKind.single]

theorem overlaps_eq_false_iff (a b : RegionEntry) :
    a.overlaps b = false ↔ a.base + a.size ≤ b.base ∨ b.base + b.size ≤ a.base := by
  simp only [RegionEntry.overlaps, decide_eq_false_iff_not]
  omega

theorem MapOk.inv {s : State} (h : MapOk s.map) : MapInv s where
  sixteen := h.sixteen
  valid e he hon := by
    obtain ⟨k, hk, -, hrest⟩ := h.entries.1 e he hon
    exact ⟨by rw [hk]; nofun, hrest⟩
  apart := h.entries.2.imp fun hab ha hb => (overlaps_eq_false_iff _ _).1 (hab ha hb).1
  single := by
    have hlt {i j : Nat} {a b : RegionEntry} {k : RegionKind} (hij : i < j)
        (ha : s.map.entries[i]? = some a) (hb : s.map.entries[j]? = some b)
        (hona : a.enabled = true) (honb : b.enabled = true) (hk : k.single = true)
        (hka : RegionKind.ofCode? a.kindCode = some k) :
        RegionKind.ofCode? b.kindCode ≠ some k := by
      obtain ⟨hi, rfl⟩ := List.getElem?_eq_some_iff.1 ha
      obtain ⟨hj, rfl⟩ := List.getElem?_eq_some_iff.1 hb
      exact (List.pairwise_iff_getElem.1 h.entries.2 i j hi hj hij hona honb).2 k hk hka
    intro i j a b k ha hb hona honb hk hka hkb
    have hk := (single_iff k).2 hk
    rcases Nat.lt_trichotomy i j with hij | hij | hij
    · exact absurd hkb (hlt hij ha hb hona honb hk hka)
    · exact hij
    · exact absurd hka (hlt hij hb ha honb hona hk hkb)
  control := by
    obtain ⟨e, he, hw⟩ := h.control
    exact ⟨e, he, by simpa [RegionKind.sizeOk] using h.entries.sizeOk he, hw⟩
  reports := by
    obtain ⟨e, he⟩ := h.reports
    exact ⟨e, he, by simpa [RegionKind.sizeOk] using h.entries.sizeOk he⟩

theorem entryOf_anchor_control : RegionMap.anchor.entryOf .control =
    some { enabled := true, base := 0xFFFF00, size := 256, kindCode := 7, readRights := 0b00001,
           writeRights := 0b00001, weight := 1 } := by decide

theorem MapOk.anchor (rights : RightsPair) :
    MapOk { entries := RegionMap.anchor.entries, openSpace := rights } where
  sixteen := rfl
  entries := by
    have hcontrol : RegionEntry.sound
        { enabled := true, base := 0xFFFF00, size := 256, kindCode := 7, readRights := 0b00001,
          writeRights := 0b00001, weight := 1 } := fun _ => ⟨.control, rfl, rfl, by decide⟩
    have hreports : RegionEntry.sound
        { enabled := true, base := 0xFFF000, size := 3840, kindCode := 8, readRights := 0b00001,
          writeRights := 0, weight := 1 } := fun _ => ⟨.reports, rfl, rfl, by decide⟩
    have hoff : ∀ e ∈ List.replicate 14 RegionEntry.anchorDisabled, e.enabled = false :=
      fun e he => by rw [List.eq_of_mem_replicate he]; rfl
    constructor
    · intro e he
      rcases List.mem_append.1 he with he | he
      · simp only [List.mem_cons, List.not_mem_nil, or_false] at he
        rcases he with rfl | rfl
        · exact hcontrol
        · exact hreports
      · exact fun hon => by simp [hoff e he] at hon
    · refine List.pairwise_append.2 ⟨?_, ?_, fun a _ b hb _ hon => by simp [hoff b hb] at hon⟩
      · refine List.Pairwise.cons (fun b hb => ?_) (List.pairwise_singleton _ _)
        rw [List.mem_singleton.1 hb]
        refine fun _ _ => ⟨rfl, fun k _ ha hb => ?_⟩
        cases ha
        cases hb
      · refine List.pairwise_iff_getElem.2 fun i j hi _ _ hon => ?_
        rw [hoff _ (List.getElem_mem hi)] at hon
        cases hon
  control := ⟨_, entryOf_anchor_control, rfl⟩
  reports := ⟨_, rfl⟩

theorem MapOk.validate (stored : List RegionEntry) (hlen : stored.length = 16)
    (rights : RightsPair) :
    MapOk { entries := (validateEntries stored).1, openSpace := rights } := by
  obtain ⟨hok, hsame⟩ := loadEntries_ok stored
  unfold validateEntries
  dsimp only
  split_ifs with hboth
  · have hfind (k : RegionKind) :
        RegionMap.entryOf { entries := (loadEntries stored).map settleControl, openSpace := rights } k =
          (RegionMap.entryOf { entries := loadEntries stored,
                               openSpace := RegionMap.anchor.openSpace } k).map settleControl := by
      simp only [RegionMap.entryOf, List.find?_map]
      congr 2
      funext e
      rw [Function.comp, settleControl_eq]
    rw [Bool.and_eq_true, Option.isSome_iff_exists, Option.isSome_iff_exists] at hboth
    obtain ⟨⟨c, hc⟩, ⟨r, hr⟩⟩ := hboth
    refine ⟨by rw [List.length_map, hsame, hlen], hok.settle, ⟨settleControl c, ?_, ?_⟩,
      ⟨settleControl r, ?_⟩⟩
    · rw [hfind, hc]
      rfl
    · obtain ⟨-, hon, hkind⟩ := entryOf_spec hc
      simp [settleControl, hon, hkind]
    · rw [hfind, hr]
      rfl
  · exact .anchor rights

end Sys2Proof.Machine

namespace Sys2Proof.Machine

/-! ### The end of a load (R166, R167) -/

/-- What a load may deliver. -/
structure DeliveryOk (d : Delivery) : Prop where
  map : MapOk { entries := d.entries, openSpace := d.openSpace }
  paces : ∀ m, (d.paces.get m).inRange
  limit : d.robots.limit ≤ 15
  serviceFlow : d.robots.serviceFlow ≤ 1000
  holdover : 10 ≤ d.holdover ∧ d.holdover ≤ 3600

theorem DeliveryOk.anchor : DeliveryOk .anchor where
  map := .anchor _
  paces m := by
    simp only [Delivery.anchor, PerMaster.get_all]
    nofun
  limit := by decide
  serviceFlow := by decide
  holdover := by decide

/-- A group's values or the default: what holds of both holds of what is delivered. -/
theorem groupOr_of {α : Type} {p : α → Prop} (ws : Store) (g : Nat) {v d : α} (hv : p v)
    (hd : p d) : p (groupOr ws g v d) := by
  unfold groupOr
  split_ifs
  · exact hv
  · exact hd

theorem storeBits_le (ws : Store) (i lo : Nat) : storeBits ws i lo 3 ≤ 7 :=
  Nat.le_of_lt_succ (BitVec.isLt _)

theorem loadPaces_inRange (ws : Store) (m : Master) : ((loadPaces ws).1.get m).inRange := by
  have hstored (i : Nat) : (storedPace ws i).clamp.inRange :=
    clamp_inRange (storeBits_le ws _ _) (storeBits_le ws _ _)
  cases m
  · exact hstored 0
  · exact hstored 1
  · exact hstored 2
  · exact hstored 3
  · exact hstored 4

theorem DeliveryOk.ofStore (ws : Store) : DeliveryOk (.ofStore ws) where
  map := groupOr_of (p := fun es => MapOk { entries := es, openSpace := (Delivery.ofStore ws).openSpace })
    ws 0 (.validate _ (by simp) _) (.anchor _)
  paces m := groupOr_of (p := fun t : PerMaster PaceSetting => (t.get m).inRange) ws 2 (loadPaces_inRange ws m)
    (DeliveryOk.anchor.paces m)
  limit := groupOr_of (p := fun r => RobotSettings.limit r ≤ 15) ws 3 (Nat.min_le_right _ _)
    DeliveryOk.anchor.limit
  serviceFlow := groupOr_of (p := fun r => RobotSettings.serviceFlow r ≤ 1000) ws 3
    (Nat.min_le_right _ _) DeliveryOk.anchor.serviceFlow
  holdover := groupOr_of (p := fun n => 10 ≤ n ∧ n ≤ 3600) ws 6
    (by simp only [loadHoldover, clampNat]; omega) DeliveryOk.anchor.holdover

theorem judgeLoad_ok (pass : Bool) (store : Option Store) :
    DeliveryOk (judgeLoad pass store).delivery := by
  unfold judgeLoad
  dsimp only
  split_ifs
  · exact .ofStore _
  · exact .anchor

theorem judgeLoad_condition (pass : Bool) (store : Option Store) :
    (judgeLoad pass store).condition ≠ .loading := by
  unfold judgeLoad
  dsimp only
  split_ifs <;> nofun

theorem deliverPaces_get (d : PerMaster PaceSetting) (s : State) (m : Master) :
    (deliverPaces d s).pacing.get m = (s.pacing.get m).deliver (d.get m) s.now := by
  cases m <;> rfl

/-- The settings of a load as they take effect together. -/
theorem applyDelivery_eq (d : Delivery) (s : State) : applyDelivery d s =
    { s with
      map := { entries := d.entries, openSpace := d.openSpace }
      pacing := (deliverPaces d.paces s).pacing
      switch := s.switch.configure d.switch
      robots := { s.robots with settings := d.robots, limit := d.robots.limit }
      tracker := { s.tracker with
        cameras := d.cams.map (CamConfig.entry (s.setSwitch (s.switch.configure d.switch))) }
      clock := { s.clock with holdoverLimit := d.holdover }
      window := { s.window with maxDuration := d.maxDuration } } := by
  apply State.ext <;> simp [applyDelivery, deliverPaces, State.now]
  rfl

/-- The end of a load delivers its settings and takes the condition it has found. -/
theorem deliverLoad_keeps {d : Delivery} (hd : DeliveryOk d) {l : Loader} {s : State}
    (hload : s.loader.load ≠ none) (hl : l.condition ≠ .loading) :
    BlockKeeps s (applyDelivery d (s.setLoader l)) := by
  rw [applyDelivery_eq]
  exact {
    clock := fun h => { h with limit := hd.holdover }
    map := fun _ => MapOk.inv hd.map
    pacing := fun _ _ => (pacingInv_iff _).2 fun m => by
      rw [deliverPaces_get]
      exact .deliver (hd.paces m) _
    robots := fun h => { h with
      limit := ⟨hd.limit, hd.limit⟩
      serviceFlow := hd.serviceFlow }
    tracker := fun h => { h with
      condition := fun hr => absurd (h.condition hr).2 hload
      loading := fun hc => absurd hc hl }
    window := fun h => { h with
      condition := fun hs => absurd (h.condition hs).2 hload
      loading := fun hc => absurd hc hl } }

theorem resetRing_keeps (s : State) : BlockKeeps s (resetRing s) where
  traffic := .congr rfl rfl (by simp [resetRing]) fun _ => rfl

theorem raiseStart_keeps (s : State) : BlockKeeps s (raiseStart s) :=
  ((BlockKeeps.refl s).setWriter _).raise _

theorem judgeTimers_keeps (s : State) : BlockKeeps s (judgeTimers s) :=
  ((holdoverLimitEvent_keeps s).trans (switchTimeoutEvent_keeps _)).trans
    (.foldl (fun u r => ((heartbeatTimeoutEvent_keeps r u).trans (pickupTimeoutEvent_keeps r _)).trans
      (fillTimeoutEvent_keeps r _)) allRobots _)

theorem endLoad_keeps (kind : LoadKind) (pass : Bool) (store : Option Store) (s : State)
    (hload : s.loader.load ≠ none) : LaneKeeps s (endLoad kind pass store s) := by
  have hdeliver := deliverLoad_keeps (judgeLoad_ok pass store) (l := s.loader.ended kind pass
    (judgeLoad pass store)) hload (judgeLoad_condition pass store)
  exact ((hdeliver.trans (resetRing_keeps _)).trans ((raiseStart_keeps _).trans
    ((clearParams_keeps _).trans (judgeTimers_keeps _)))).toLaneKeeps.trans
    (reexamineAll_keeps issueFull_keeps _)

theorem loadEndEvent_keeps (pass : Bool) (store : Option Store) (s : State) :
    LaneKeeps s (loadEndEvent pass store s) := by
  unfold loadEndEvent
  split
  · exact .refl s
  · next kind hk => exact endLoad_keeps kind pass store s (by rw [hk]; nofun)

/-! ### Cabinet reset and power-on (R16, R168) -/

theorem idleState_idle (key : Bool) : idleState key ∉ [.opened, .draining] := by
  cases key <;> simp [idleState]

/-- A window that a reset leaves without a session, by the key's level. -/
theorem WindowInv.of_idle {s : State} (hst : s.window.state = idleState s.window.key)
    (hg : s.window.grants = []) (hr : s.window.robotSet = .all none)
    (hd : s.window.deadline = none) (hf : s.window.refusal = false)
    (hl : s.loader.condition = .loading → s.loader.load ≠ none) : WindowInv s where
  closed := by rw [hst]; cases s.window.key <;> simp [idleState]
  keyed := by rw [hst]; cases s.window.key <;> simp [idleState]
  opened := by rw [hst]; cases s.window.key <;> simp [idleState]
  deadline := by rw [hst, hd]; cases s.window.key <;> simp [idleState]
  few := by rw [hg]; exact Nat.zero_le 4
  session _ := ⟨hg, fun r => by rw [hr, PerRobot.get_all]⟩
  refusal := by rw [hf]; nofun
  condition h := absurd h (hst ▸ idleState_idle _)
  loading := hl

/-- The blocks that a cabinet reset resets. -/
theorem resetBlocks_eq (s : State) : resetBlocks s =
    { s with
      pacing := s.pacing.map (Pace.resetToDelivered s.now)
      limiters := .all .reset
      switch := s.switch.resetKeepingConfig
      robots := s.robots.resetKeepingSettings
      tracker := s.tracker.resetKeepingConfig
      window := s.window.cabinetReset
      keepalive := .reset
      mail := { s.mail.dropRobotGuard with cameras := [], serviceLoss := [], answers := [] } } := by
  apply State.ext <;> simp [resetBlocks, resetPacing, resetKeepalive]

theorem resetBlocks_keeps (s : State) : BlockKeeps s (resetBlocks s) := by
  rw [resetBlocks_eq]
  exact {
    pacing := fun hm h => ((resetPacing_keeps s).pacing hm h).congr (s := resetPacing s) rfl
    robots := fun h => h.resetKeepingSettings rfl
    ownership := fun _ => .of_home (idleState_idle _) rfl (atHome_of_reset rfl)
    tracker := fun h => .of_reset rfl rfl rfl rfl h.loading
    window := fun h => .of_idle rfl rfl rfl rfl rfl h.loading }

theorem keptStaging_length (s : State) : (keptStaging s).length ≤ 1 := by
  unfold keptStaging
  split <;> simp

theorem keptStaging_ne_nil {s : State} (h : s.transit.memPort = .internal) (hq : s.staging ≠ []) :
    keptStaging s ≠ [] := by
  obtain ⟨e, rest, he⟩ := List.exists_cons_of_ne_nil hq
  simp [keptStaging, h, he]

theorem resetTraffic_keeps (s : State) : LaneKeeps s (resetTraffic s) where
  traffic h :=
    { carried := h.carried
      writing := fun hi => keptStaging_ne_nil hi (h.writing hi)
      room := (keptStaging_length s).trans (by decide)
      full := fun n hn => by
        simp only [resetTraffic, State.setSlots_slots, PerSlot.get_map] at hn
        exact absurd rfl hn }

theorem startAfterReset_keeps (s : State) : BlockKeeps s (startAfterReset s) := by
  unfold startAfterReset
  refine .iteOf (fun _ => .refl s) fun hl => .trans ?_ (raiseStart_keeps _)
  have hcond : s.loader.condition ≠ .loading := by simpa [State.isLoading] using hl
  exact {
    tracker := fun h => { h with
      condition := fun hr => ⟨(h.condition hr).1, rfl⟩
      loading := fun hc => absurd hc hcond }
    window := fun h => { h with
      condition := fun hs => ⟨(h.condition hs).1, rfl⟩
      loading := fun hc => absurd hc hcond } }

theorem cabinetResetEvent_keeps (s : State) : LaneKeeps s (cabinetResetEvent s) :=
  (((resetBlocks_keeps s).toLaneKeeps.trans (resetTraffic_keeps _)).trans
    (startAfterReset_keeps _).toLaneKeeps).trans (reexamineAll_keeps issueFull_keeps _)

/-! The state after power-on has every invariant (R16). -/

theorem ClockInv.of_reset {s : State} (h : s.clock = .reset) : ClockInv s := by
  constructor <;> rw [h] <;> simp [Clock.reset]

theorem PacingInv.of_reset {s : State} (h : s.pacing = .all .reset) : PacingInv s :=
  (pacingInv_iff s).2 fun m => by
    rw [h, PerMaster.get_all]
    exact ⟨nofun, nofun, nofun, rfl, nofun⟩

theorem RobotsInv.of_reset {s : State} (h : s.robots = .reset) : RobotsInv s where
  robots r := by
    rw [h]
    simp only [RobotGuard.reset, PerRobot.get_all]
    exact .reset
  limit := by rw [h]; decide
  serviceFlow := by rw [h]; decide

theorem RunningTraffic.of_reset {s : State} (hp : s.transit.ports = .all .empty)
    (hm : s.transit.memPort = .free) (hq : s.staging = []) (hs : s.slots = .all .reset) :
    RunningTraffic s where
  carried m := by
    rw [hm]
    refine iff_of_false ?_ nofun
    rintro ⟨x, hx⟩
    simp [hp] at hx
  writing := by rw [hm]; nofun
  room := by rw [hq]; exact Nat.zero_le 8
  full n hn := by
    rw [hs, PerSlot.get_all] at hn
    exact absurd rfl hn

theorem powerOnEvent_keeps (key : Bool) (s : State) : LaneKeeps s (powerOnEvent key s) where
  clock _ := .of_reset rfl
  map _ := MapOk.inv (.anchor _)
  pacing _ _ := .of_reset rfl
  robots _ := .of_reset rfl
  ownership _ := .of_home (idleState_idle key) rfl (atHome_of_reset rfl)
  tracker _ := .of_reset rfl rfl rfl rfl fun _ => nofun
  window _ := .of_idle rfl rfl rfl rfl rfl fun _ => nofun
  traffic _ := .of_reset rfl rfl rfl rfl

end Sys2Proof.Machine

namespace Sys2Proof.Machine

/-! ### The end of an event (R10) -/

/-- After the arbiter's look a free memory port leaves no work. -/
theorem arbitrate_idle {s : State} (h : (arbitrate s).transit.memPort = .free) :
    s.staging = [] ∧ ∀ m x, (arbitrate s).transit.ports.get m ≠ .waiting x := by
  have hbusy {m : Master} (hm : s.transit.nextWaiting = some m) :
      (s.transit.grantMaster m).memPort ≠ .free := by
    have hw := List.find?_some hm
    unfold Transit.grantMaster
    split
    · nofun
    all_goals
      next hp => simp [hp, PortState.isWaiting] at hw
  have hnone (hn : s.transit.nextWaiting = none) (m : Master) (x : Txn) :
      s.transit.ports.get m ≠ .waiting x := fun hx => by
    have hmem : m ∈ searchAfter s.transit.pointer := by
      cases s.transit.pointer <;> cases m <;> decide
    have := List.find?_eq_none.1 hn m hmem
    simp [hx, PortState.isWaiting] at this
  simp only [arbitrate, Transit.arbitrate, State.setTransit_transit] at h ⊢
  split at h
  · next q hq => simp [hq] at h
  · next hq => simp [hq] at h
  · split_ifs at h ⊢ with hsix hone
    · simp [Transit.grantInternal] at h
    · split at h
      · next m hm => exact absurd h (hbusy hm)
      · simp [Transit.grantInternal] at h
    · cases hn : s.transit.nextWaiting with
      | some m =>
        simp only [hn] at h
        exact absurd h (hbusy hn)
      | none =>
        refine ⟨List.eq_nil_of_length_eq_zero (by omega), ?_⟩
        simpa only [hn] using hnone hn

theorem TrafficInv.arbitrated {s : State} (h : RunningTraffic s) (hl : s.lanesTaken) :
    TrafficInv (arbitrate s) := by
  have hrun := (arbitrate_keeps s).traffic h
  exact ⟨hrun.carried, hrun.writing, arbitrate_idle, hrun.room, hrun.full,
    fun m => arbitrate_laneTaken (hl m)⟩

/-- An event's outcome keeps every invariant where it answers next. -/
def Ends (s : State) (o : Host.Outcome State Fault Refusal) : Prop :=
  ∀ t, o = .next t → Keeps s t ∧ (TrafficInv s → TrafficInv t)

namespace Ends

theorem refused (s : State) (r : Refusal) : Ends s (.refused r) := fun _ h => by cases h

/-- An event that leaves the traffic, without the arbiter's look. -/
theorem quiet {s t : State} (h : Keeps s t) (ht : t.transit = s.transit)
    (hq : t.staging = s.staging) : Ends s (.next t) := by
  rintro _ ⟨⟩
  refine ⟨h, fun hs => ?_⟩
  have hrun := h.traffic hs.running
  refine ⟨hrun.carried, hrun.writing, ?_, hrun.room, hrun.full, ?_⟩
  · rw [ht, hq]
    exact hs.idle
  · unfold State.lanesTaken
    rw [ht]
    exact hs.lanes

/-- An event that leaves the lanes and makes no port EMPTY. -/
theorem finish {s t : State} (h : LaneKeeps s t)
    (he : ∀ m, t.transit.ports.get m = .empty → s.transit.ports.get m = .empty) :
    Ends s (finish t) := by
  rintro _ ⟨⟩
  refine ⟨h.toKeeps.trans (arbitrate_keeps t).toKeeps, fun hs =>
    .arbitrated (h.traffic hs.running) fun m hm => ?_⟩
  rw [h.lanes]
  exact hs.lanes m (he m hm)

/-- An event of a block. -/
theorem block {s t : State} (h : BlockKeeps s t) : Ends s (Machine.finish t) :=
  .finish h.toLaneKeeps fun m hm => by rwa [h.transit] at hm

/-- An event that may make ports EMPTY, after which the lanes are served. -/
theorem finishLanes {s t : State} (h : Keeps s t) : Ends s (finishLanes t) := by
  have hall : Keeps s (serveLanes t) := h.trans (serveLanes_keeps t)
  rintro _ ⟨⟩
  exact ⟨hall.trans (arbitrate_keeps _).toKeeps, fun hs =>
    .arbitrated (hall.traffic hs.running) (serveLanes_lanesTaken t)⟩

theorem ite {s : State} {a b : Host.Outcome State Fault Refusal} {c : Prop} [Decidable c]
    (ha : Ends s a) (hb : Ends s b) : Ends s (if c then a else b) := by
  split_ifs
  · exact ha
  · exact hb

end Ends

/-! ### Every command -/

theorem execMemoryCompletion_ends (origin : AnswerOrigin) (ok : Bool) (data : List Word)
    (s : State) : Ends s (execMemoryCompletion origin ok data s) := by
  unfold execMemoryCompletion
  split
  · exact .quiet (.refl s) rfl rfl
  · exact .quiet (.refl s) rfl rfl
  · next m t hm =>
    exact .ite (.finishLanes (completeTxn_keeps m t ok data s (current_memPort hm)).toKeeps)
      (.refused s _)

theorem execInternalWriteCompletion_ends (origin : AnswerOrigin) (ok : Bool) (s : State) :
    Ends s (execInternalWriteCompletion origin ok s) := by
  unfold execInternalWriteCompletion
  split
  · exact .quiet (.refl s) rfl rfl
  · refine .finish (internalAnswer_keeps ok s) fun m hm => ?_
    rwa [internalAnswer_frame] at hm

theorem execCorrectionAdjustment_ends (s : State) : Ends s (execCorrectionAdjustment s) := by
  unfold execCorrectionAdjustment
  split_ifs with hdue
  · exact .quiet ((BlockKeeps.refl s).setClock _ fun h => h.adjust hdue).toKeeps rfl rfl
  · exact .quiet (.refl s) rfl rfl

theorem execCorrectionPeriod_ends (s : State) : Ends s (execCorrectionPeriod s) := by
  unfold execCorrectionPeriod
  split_ifs
  · exact .quiet ((BlockKeeps.refl s).setClock _ fun h => h.beginPeriod).toKeeps rfl rfl
  · exact .quiet (.refl s) rfl rfl

/-- A command of the control page but RELOAD, as an event. -/
theorem issued_ends (i : Instr) (s : State) (hi : ∀ n rest, i ≠ .reload n rest) :
    Ends s (finish (issueInstr issueReloadFull i s)) := .block (issueInstr_keeps i s hi)

theorem exec_ends (c : Instr) (s : State) : Ends s (exec c s) := by
  cases c with
  | requestArrival m r => exact .ite (.finishLanes (presentRequest_keeps m r s)) (.refused s _)
  | memoryCompletion origin ok data => exact execMemoryCompletion_ends origin ok data s
  | internalWriteCompletion origin ok => exact execInternalWriteCompletion_ends origin ok s
  | serviceRefusal => exact .finishLanes (refusalEvent_keeps s).toKeeps
  | refillExpiry m => exact .finishLanes (refillEvent_keeps m s).toKeeps
  | limiterWindowEnd m => exact .block (limiterWindowEvent_keeps m s)
  | hallPulse => exact .block (hallPulseEvent_keeps s)
  | correctionAdjustment => exact execCorrectionAdjustment_ends s
  | correctionPeriod => exact execCorrectionPeriod_ends s
  | pulseWatchExpiry => exact .block (pulseWatchEvent_keeps s)
  | holdoverLimit => exact .block (holdoverLimitEvent_keeps s)
  | clockSourceNotice => exact .block (clockNoticeEvent_keeps s)
  | timeSetLapsed => exact .block (setLapsedEvent_keeps s)
  | switchTimeout => exact .block (switchTimeoutEvent_keeps s)
  | heartbeatTimeout r => exact .block (heartbeatTimeoutEvent_keeps r s)
  | pickupTimeout r => exact .block (pickupTimeoutEvent_keeps r s)
  | fillTimeout r => exact .block (fillTimeoutEvent_keeps r s)
  | robotLinkNotice => exact .block (linkNoticeEvent_keeps s)
  | fillerCredit => exact .block (creditEvent_keeps s)
  | keepaliveNotice => exact .block (keepaliveNoticeEvent_keeps s)
  | transferRequest => exact .block (transferRequestEvent_keeps s)
  | robotReturn => exact .block (robotReturnEvent_keeps s)
  | encoderPulse d => exact .block (encoderEvent_keeps d s)
  | cameraTrigger k => exact .block (triggerEvent_keeps k s)
  | cameraOffline => exact .block (cameraOfflineEvent_keeps s)
  | cameraOnline => exact .block (cameraOnlineEvent_keeps s)
  | serviceKey level => exact .block (keyEvent_keeps level s)
  | windowTimerExpiry => exact .block (windowTimerEvent_keeps s)
  | serviceLinkLoss => exact .block (linkLossEvent_keeps s)
  | transferAnswer => exact .block (answerEvent_keeps s)
  | keepaliveWrite value => exact .block (.ite (.refl s) (keepaliveValue_keeps value s))
  | keepaliveLapsed => exact .block (keepaliveLapsedEvent_keeps s)
  | takeIndexWrite value => exact .block (.ite (.refl s) (takeIndexValue_keeps value s))
  | reload n rest => exact .finishLanes (issueReloadFull_keeps n rest s).toKeeps
  | loadEnd pass store =>
    exact .ite (.finishLanes (loadEndEvent_keeps pass store s).toKeeps) (.refused s _)
  | powerOn key => exact .finishLanes (powerOnEvent_keeps key s).toKeeps
  | cabinetReset => exact .finishLanes (cabinetResetEvent_keeps s).toKeeps
  | unknownOpcode n word => exact .ite (issued_ends (.unknownOpcode n word) s nofun) (.refused s _)
  | robotArm n rest => exact issued_ends (.robotArm n rest) s nofun
  | robotClear n rest => exact issued_ends (.robotClear n rest) s nofun
  | robotHold n rest => exact issued_ends (.robotHold n rest) s nofun
  | robotRelease n rest => exact issued_ends (.robotRelease n rest) s nofun
  | robotEnvelope n rest => exact issued_ends (.robotEnvelope n rest) s nofun
  | robotQuery n rest => exact issued_ends (.robotQuery n rest) s nofun
  | quarantineSet n rest => exact issued_ends (.quarantineSet n rest) s nofun
  | trackStart n rest => exact issued_ends (.trackStart n rest) s nofun
  | trackStop n rest => exact issued_ends (.trackStop n rest) s nofun
  | trackQuery n rest => exact issued_ends (.trackQuery n rest) s nofun
  | timeSet n rest => exact issued_ends (.timeSet n rest) s nofun
  | timeQuery n rest => exact issued_ends (.timeQuery n rest) s nofun
  | keepaliveSet n rest => exact issued_ends (.keepaliveSet n rest) s nofun
  | paceSet n rest => exact issued_ends (.paceSet n rest) s nofun
  | serviceGrant n rest => exact issued_ends (.serviceGrant n rest) s nofun
  | serviceExtend n rest => exact issued_ends (.serviceExtend n rest) s nofun
  | serviceRevoke n rest => exact issued_ends (.serviceRevoke n rest) s nofun
  | switchQuery n rest => exact issued_ends (.switchQuery n rest) s nofun

/-- What the model does between commands does not read its own queue and tie count. -/
theorem Ends.behind {s u : State} {o : Host.Outcome State Fault Refusal} (hu : Keeps s u)
    (ht : TrafficInv s → TrafficInv u) (h : Ends u o) : Ends s o := fun t e =>
  ⟨hu.trans (h t e).1, fun hs => (h t e).2 (ht hs)⟩

theorem step_ends (s : State) : Ends s (step s) := by
  have hties (n : Nat) : Ends s (.next (s.setTies n)) := .quiet {} rfl rfl
  unfold step
  split
  · next c rest hp =>
    have hpend : Ends s (.next (s.setPending rest)) := .quiet {} rfl rfl
    exact .behind (hpend _ rfl).1 (hpend _ rfl).2 (exec_ends c _)
  · unfold idle
    split
    · exact .quiet (tick_keeps s).toKeeps rfl rfl
    · exact exec_ends _ s
    · exact .behind (hties _ _ rfl).1 (hties _ _ rfl).2 (exec_ends _ _)

/-! ### The invariants are kept -/

/-- Settles O55: a step keeps what runs of the traffic, and its end gives the arbiter's part and the
lanes'. -/
theorem trafficInvariantIsKept : Obligations.TrafficInvariantIsKept :=
  fun s t h hstep => (step_ends s t hstep).2 h

/-- Settles O56: by what each operation keeps. -/
theorem trackerInvariantIsKept : Obligations.TrackerInvariantIsKept :=
  fun s t h hstep => (step_ends s t hstep).1.tracker h

/-- Settles O57: by what each operation keeps; a charge needs the map's weights. -/
theorem mapAndPacingInvariantsAreKept : Obligations.MapAndPacingInvariantsAreKept :=
  fun s t h hstep =>
    ⟨(step_ends s t hstep).1.map h, fun hp => (step_ends s t hstep).1.pacing h hp⟩

/-- Settles O58: by what each operation keeps; a robot that is not LINE's is of a session's set. -/
theorem robotsInvariantIsKept : Obligations.RobotsInvariantIsKept := by
  intro s t hstep
  have hkeeps := (step_ends s t hstep).1
  refine ⟨hkeeps.robots, hkeeps.ownership, fun h r hr => ?_⟩
  by_contra hno
  have hline := ((hkeeps.ownership h).outside r fun hset => hno hset.1).2.1
  rw [hr] at hline
  cases hline

/-- Settles O59: by what each operation keeps. -/
theorem clockAndWindowInvariantsAreKept : Obligations.ClockAndWindowInvariantsAreKept :=
  fun s t hstep => ⟨(step_ends s t hstep).1.clock, (step_ends s t hstep).1.window⟩

/-- Settles O60: the reset state is the one that a power-on with SVC_KEY off leaves. -/
theorem invariantsHoldAtReset : Obligations.InvariantsHoldAtReset := by
  have hrun : RunningTraffic State.reset := .of_reset rfl rfl rfl rfl
  refine ⟨⟨hrun.carried, hrun.writing, fun _ => ⟨rfl, fun m x => ?_⟩, hrun.room, hrun.full,
      fun m _ => ?_⟩,
    .of_reset rfl rfl rfl rfl fun _ => nofun, MapOk.inv (.anchor _), .of_reset rfl, .of_reset rfl,
    .of_home (idleState_idle false) rfl (atHome_of_reset rfl), .of_reset rfl,
    .of_idle rfl rfl rfl rfl rfl fun _ => nofun⟩
  · simp [State.reset, Transit.reset]
  · simp [State.reset, Transit.reset]

end Sys2Proof.Machine

namespace Sys2Proof.Machine

/-! ### Arrivals at an EMPTY port -/

/-- The end of an event that leaves no request on the lane of an EMPTY port (R1). -/
theorem finishLanes_of_taken {s : State} (h : s.lanesTaken) : finishLanes s = finish s := by
  rw [finishLanes, serveLanes_of_taken s h]

/-- An operation at the port of `m` alone, with nothing on its lane. -/
theorem OthersKept.lanesTaken {m : Master} {s t : State} (h : OthersKept m s t)
    (hm : t.transit.lanes.get m = []) (hs : s.lanesTaken) : t.lanesTaken := fun q hq => by
  by_cases hqm : q = m
  · rw [hqm, hm]
  · exact h.laneTaken hqm (hs q) hq

theorem exec_arrival {m : Master} {r : Request} {s : State} (hwf : r.wf = true)
    (he : s.transit.ports.get m = .empty) (hl : s.lanesTaken) :
    exec (.requestArrival m r) s = finishLanes (arrive m r s) := by
  have hp : presentRequest m r s = arrive m r s := by simp [presentRequest, he, hl m he]
  rw [← hp]
  exact if_pos hwf

/-- Steps 2 to 6 of R4 for a request that passes step 1. -/
theorem arrive_examines {m : Master} {r : Request} {s : State}
    (haligned : r.addr.toNat % r.len.words = 0)
    (hinside : (s.map.place r.addr.toNat).region =
      (s.map.place (r.addr.toNat + r.len.words - 1)).region) :
    arrive m r s = examine issueFull m r s := by
  have h1 : requestAligned r = true := by simp [requestAligned, haligned]
  have h2 : requestCrosses r s.map = false := by simp [requestCrosses, hinside]
  simp [arrive, h1, h2]

theorem exec_arrival_examines {m : Master} {r : Request} {s : State} (hwf : r.wf = true)
    (he : s.transit.ports.get m = .empty) (hl : s.lanesTaken)
    (haligned : r.addr.toNat % r.len.words = 0)
    (hinside : (s.map.place r.addr.toNat).region =
      (s.map.place (r.addr.toNat + r.len.words - 1)).region) :
    exec (.requestArrival m r) s = finishLanes (examine issueFull m r s) := by
  rw [exec_arrival hwf he hl, arrive_examines haligned hinside]

/-! ### Denials (R5) -/

/-- Counting a denial reads the clock, the map, the window, the limiters and the ring. -/
theorem countDenial_congr (m : Master) (p : Particulars) {s t : State} (hk : t.clock = s.clock)
    (hm : t.map = s.map) (hw : t.window = s.window) (hl : t.limiters = s.limiters)
    (hq : t.staging = s.staging) (hr : t.writer = s.writer) :
    (countDenial m p t).limiters = (countDenial m p s).limiters ∧
      (countDenial m p t).staging = (countDenial m p s).staging ∧
      (countDenial m p t).writer = (countDenial m p s).writer := by
  simp only [countDenial, hl, hw, State.now, hk]
  split
  · obtain ⟨hqueue, hring⟩ := raise_congr
      (limiterReport m p 1 (satAdd32 (s.limiters.get m).total 1) s.window)
      (setLimiter m { total := satAdd32 (s.limiters.get m).total 1
                      mode := .muted (s.clock.m + limiterWindow) 0 none } s)
      (setLimiter m { total := satAdd32 (s.limiters.get m).total 1
                      mode := .muted (s.clock.m + limiterWindow) 0 none } t) hk hm hq hr
    exact ⟨by simp [setLimiter, hl], hqueue, hring⟩
  · exact ⟨by simp [setLimiter, hl], hq, hr⟩

/-- What a denial is to its master: the completion, the count, the limiter's report. -/
theorem deny_denied (m : Master) (r : Request) (cause : DenialCause) (g : Option RegionRef)
    (s : State) : Denied m (particularsOf r cause g) [] s (deny m r cause g none s) :=
  countDenial_congr m _ rfl rfl rfl rfl rfl rfl

theorem deny_transit (m : Master) (r : Request) (cause : DenialCause) (g : Option RegionRef)
    (report : Option Report) (s : State) : (deny m r cause g report s).transit =
      { s.transit with
        ports := s.transit.ports.set m .empty
        completions := s.transit.completions.set m
          (some { status := .denied, data := zeroData r.dir r.len }) } := by
  rw [deny_frame]
  rfl

theorem deny_lanesTaken {m : Master} (r : Request) (cause : DenialCause) (g : Option RegionRef)
    (report : Option Report) {s : State} (hl : s.lanesTaken) (hm : s.transit.lanes.get m = []) :
    (deny m r cause g report s).lanesTaken :=
  (deny_othersKept m r cause g report s).lanesTaken (by rw [deny_transit]; exact hm) hl

/-- The right that step 3 refuses, as the statements spell it. -/
theorem deniedRight_of_refused {w : ServiceWindow} {m : Master} {d : Dir} {p : Place}
    {cause : DenialCause}
    (h : (cause = .window ∧ m = .service ∧ w.state = .draining) ∨
      (cause = .rights ∧ ¬(m = .service ∧ w.state = .draining) ∧
        inRights (p.rights.forDir d) m = false ∧
        (m = .service → w.state = .opened → ∀ g ∈ w.grants, p.region = .entry g.region →
          d = .write ∧ g.rw = false))) :
    deniedRight w m d p = some cause := by
  rcases h with ⟨rfl, rfl, hs⟩ | ⟨rfl, hnot, hown, hgrants⟩
  · simp [deniedRight, hs]
  · cases m
    case service =>
      have hno (hopen : w.state = .opened) : w.grants? p.region d = false := by
        rw [ServiceWindow.grants?, List.any_eq_false]
        intro g hg hn
        rw [Bool.and_eq_true, decide_eq_true_eq] at hn
        obtain ⟨rfl, hrw⟩ := hgrants rfl hopen g hg hn.1
        simp [hrw] at hn
      cases hs : w.state
      case opened => simp [deniedRight, hs, hown, hno hs]
      case draining => exact absurd ⟨rfl, hs⟩ hnot
      all_goals simp [deniedRight, hs, hown]
    all_goals simp [deniedRight, hown]

theorem examine_refused {issue : Slot → Word → State → State} {m : Master} {r : Request}
    {s : State} {cause : DenialCause}
    (h : deniedRight s.window m r.dir (s.map.place r.addr.toNat) = some cause) :
    examine issue m r s =
      deny m r cause (some (s.map.place r.addr.toNat).region) none s := by
  simp [examine, h]

/-- Settles O3: whichever step denies, the event is `deny` with its cause and region. -/
theorem requestDeniedAtStepsOneThreeAndFour : Obligations.RequestDeniedAtStepsOneThreeAndFour := by
  intro m r s cause region hwf he hl hcase
  have hdeny : arrive m r s = deny m r cause region none s := by
    rcases hcase with ⟨hmis, rfl, rfl⟩ | ⟨haligned, hinside, rfl, hcause⟩
    · simp [arrive, requestAligned, hmis]
    · rw [arrive_examines haligned hinside]
      have hright (h : deniedRight s.window m r.dir (s.map.place r.addr.toNat) = some cause) :=
        examine_refused (issue := issueFull) h
      rcases hcause with h | h | ⟨rfl, hdir, hkind, hnone⟩
      · exact hright (deniedRight_of_refused (.inl h))
      · exact hright (deniedRight_of_refused (.inr h))
      · simp [examine, hdir, hnone, handle, handleWrite, hkind]
  have hend := deny_lanesTaken r cause region none hl (hl m he)
  refine ⟨arbitrate (deny m r cause region none s), ?_, ?_, deny_denied m r cause region s, ?_⟩
  · rw [exec_arrival hwf he hl, hdeny, finishLanes_of_taken hend]
    rfl
  · rw [arbitrate_frame, deny_frame]
  · have hports : s.transit.ports.set m .empty = s.transit.ports := by
      rw [← he]
      exact PerMaster.set_get _ m
    have ht := deny_transit m r cause region none s
    rw [hports] at ht
    unfold Arbitrated
    rw [← ht]
    rfl

/-! ### Admissions (R4, R38) -/

/-- The admission event before the owner's effects: the charge, the port, service in flight. -/
theorem enterWaiting_eq (m : Master) (t : Txn) (cost : Nat) (s : State) : enterWaiting m t cost s =
    { s with
      pacing := s.pacing.set m { s.pacing.get m with
        account := (s.pacing.get m).account.map fun a => { a with credit := a.credit - cost } }
      window := { s.window with inFlight := s.window.inFlight || decide (m = .service) }
      transit := { s.transit with ports := s.transit.ports.set m (.waiting t) } } := by
  apply State.ext <;> cases m <;>
    simp [enterWaiting, noteAdmission, setMasterPort, setPace, Pace.charge_eq, setWin]

/-- Steps 5 and 6 of R4 for a request whose owner does nothing but accept it. -/
theorem examine_admits {issue : Slot → Word → State → State} {m : Master} {r : Request}
    {s : State} {ws : List WriteWord}
    (hright : deniedRight s.window m r.dir (s.map.place r.addr.toNat) = none)
    (hh : handle issue m r (s.map.place r.addr.toNat) s = .accept ws id)
    (hcredit : ∀ a, (s.pacing.get m).account = some a → 0 ≤ a.credit) :
    examine issue m r s =
      enterWaiting m (txnOf r (s.map.place r.addr.toNat) ws)
        (requestCost r.len (s.map.place r.addr.toNat).weight) s := by
  simp [examine, hright, hh, paceAndAdmit, (holds_eq_false_iff _).2 hcredit]

theorem exec_arrival_admits {m : Master} {r : Request} {s : State} {ws : List WriteWord}
    (hwf : r.wf = true) (he : s.transit.ports.get m = .empty) (hl : s.lanesTaken)
    (haligned : r.addr.toNat % r.len.words = 0)
    (hinside : (s.map.place r.addr.toNat).region =
      (s.map.place (r.addr.toNat + r.len.words - 1)).region)
    (hright : deniedRight s.window m r.dir (s.map.place r.addr.toNat) = none)
    (hh : handle issueFull m r (s.map.place r.addr.toNat) s = .accept ws id)
    (hcredit : ∀ a, (s.pacing.get m).account = some a → 0 ≤ a.credit) :
    exec (.requestArrival m r) s = .next (arbitrate
      (enterWaiting m (txnOf r (s.map.place r.addr.toNat) ws)
        (requestCost r.len (s.map.place r.addr.toNat).weight) s)) := by
  have hend := (enterWaiting_othersKept m (txnOf r (s.map.place r.addr.toNat) ws)
    (requestCost r.len (s.map.place r.addr.toNat).weight) s).lanesTaken
      (by rw [enterWaiting_eq]; exact hl m he) hl
  rw [exec_arrival_examines hwf he hl haligned hinside, examine_admits hright hh hcredit,
    finishLanes_of_taken hend]
  rfl

/-- A request that no owner handles: a read, a write in a PLAIN place, a write behind the order
slots. -/
theorem handle_plain {issue : Slot → Word → State → State} {m : Master} {r : Request} {p : Place}
    (s : State) (hwf : r.wf = true)
    (h : r.dir = .read ∨ p.kind = .plain ∨ (p.kind = .orders ∧ 48 ≤ p.offset)) :
    handle issue m r p s = .accept r.words id := by
  cases hd : r.dir with
  | read =>
    have hw : r.words = [] := by simpa [Request.wf, hd] using hwf
    simp [handle, hd, hw]
  | write =>
    rcases h with h | h | ⟨hk, ho⟩
    · simp [hd] at h
    · simp [handle, hd, handleWrite, h]
    · simp [handle, hd, handleWrite, hk, handleOrder, Nat.not_lt.2 ho]

/-- Settles O4: step 4 passes the request as presented, steps 5 and 6 charge and admit it. -/
theorem plainRequestIsAdmitted : Obligations.PlainRequestIsAdmitted := by
  intro m r s hwf he hl haligned hinside hplain hright hcredit
  refine ⟨_, exec_arrival_admits hwf he hl haligned hinside hright (handle_plain s hwf hplain)
    hcredit, ?_, ?_⟩
  · rw [arbitrate_frame, enterWaiting_eq]
    rfl
  · rw [enterWaiting_eq]
    rfl

/-- Step 5 of R4 holds a request whose owner accepts it. -/
theorem examine_holds {issue : Slot → Word → State → State} {m : Master} {r : Request} {s : State}
    {ws : List WriteWord} {effect : State → State} {a : Account}
    (hright : deniedRight s.window m r.dir (s.map.place r.addr.toNat) = none)
    (hh : handle issue m r (s.map.place r.addr.toNat) s = .accept ws effect)
    (ha : (s.pacing.get m).account = some a) (hdebt : a.credit < 0) :
    examine issue m r s = setMasterPort m (.held r) s := by
  simp [examine, hright, hh, paceAndAdmit, Pace.holds, ha, hdebt]

/-- Settles O5: a request in debt stops at step 5, one at a busy port does not begin. -/
theorem requestInDebtIsHeld : Obligations.RequestInDebtIsHeld := by
  constructor
  · intro m r s words effect a hwf he hl haligned hinside hright hh ha hdebt
    have hend : (setMasterPort m (.held r) s).lanesTaken :=
      OthersKept.lanesTaken (setPort_othersKept rfl rfl) (hl m he) hl
    refine ⟨arbitrate (setMasterPort m (.held r) s), ?_, rfl, rfl⟩
    rw [exec_arrival_examines hwf he hl haligned hinside, examine_holds hright hh ha hdebt,
      finishLanes_of_taken hend]
    rfl
  · intro m r s hwf he hl
    have hend : (setLane m (s.transit.lanes.get m ++ [r]) s).lanesTaken := fun q hq => by
      have hqm : q ≠ m := fun hqm => he (hqm ▸ hq)
      exact (PerMaster.get_set_of_ne _ _ _ _ hqm).trans (hl q hq)
    refine ⟨arbitrate (setLane m (s.transit.lanes.get m ++ [r]) s), ?_, rfl, rfl⟩
    change (if r.wf then finishLanes (presentRequest m r s) else _) = _
    rw [if_pos hwf, presentRequest_waits m r s he, finishLanes_of_taken hend]
    rfl

/-- Settles O6: the owner's words are the stamped ones, and the request is admitted with them. -/
theorem stampedWriteCarriesAdmissionStamp : Obligations.StampedWriteCarriesAdmissionStamp := by
  intro m r s hwf hdir he hl haligned hinside hkind hright hcredit
  have hh : handle issueFull m r (s.map.place r.addr.toNat) s =
      .accept (stampWords s.clock.stamp (s.map.place r.addr.toNat).offset r.words) id := by
    simp [handle, hdir, handleWrite, hkind]
  have hstamped := stampWords_stamped s.clock.stamp (s.map.place r.addr.toNat).offset r.words
  refine ⟨_, _, exec_arrival_admits hwf he hl haligned hinside (hdir ▸ hright) hh hcredit, ?_, ?_,
    hstamped⟩
  · rw [arbitrate_frame, enterWaiting_eq]
    rfl
  · rw [enterWaiting_eq, txnOf, hdir, hkind]
    rfl

/-! ### The arbiter (R10) -/

/-- The round-robin search takes the first WAITING port of its order. -/
theorem find?_of_first {α : Type} {p : α → Bool} {l : List α} {k : Nat} {a : α} (hk : l[k]? = some a)
    (ha : p a = true) (hfirst : ∀ j b, j < k → l[j]? = some b → p b = false) :
    l.find? p = some a := by
  obtain ⟨hlt, rfl⟩ := List.getElem?_eq_some_iff.1 hk
  rw [List.find?_eq_some_iff_getElem]
  refine ⟨ha, k, hlt, rfl, fun j hj => ?_⟩
  rw [hfirst j _ hj (List.getElem?_eq_getElem _)]
  rfl

/-- Settles O9: one row of R10's table after the other. -/
theorem arbiterChoosesByTheTable : Obligations.ArbiterChoosesByTheTable := by
  intro x n
  have hnone (h : ∀ m, (x.ports.get m).isWaiting = false) : x.nextWaiting = none :=
    List.find?_eq_none.2 fun m _ => by simp [h m]
  refine ⟨arbitrate_busy x n, fun hfree hwork => ?_, fun hfree hn hidle => ?_,
    fun k m y hfree hn hk hy hfirst => ?_⟩
  · rcases hwork with hsix | ⟨hone, hidle⟩
    · simp [Transit.arbitrate, hfree, hsix, Transit.grantInternal]
    · simp [Transit.arbitrate, hfree, hnone hidle, hone, Transit.grantInternal]
  · simp [Transit.arbitrate, hfree, hn, hnone hidle]
  · have hnext : x.nextWaiting = some m :=
      find?_of_first hk (by simp [hy, PortState.isWaiting]) hfirst
    simp [Transit.arbitrate, hfree, Nat.not_le.2 hn, hnext, Transit.grantMaster, hy]

end Sys2Proof.Machine

namespace Sys2Proof.Machine

/-! ### Limiters (R32) -/

theorem exec_limiterWindowEnd {m : Master} {e : Micros} {n : Nat} {held : Option Particulars}
    {s : State} (hmode : (s.limiters.get m).mode = .muted e n held)
    (hend : atOrPast s.clock.m e = true) :
    exec (.limiterWindowEnd m) s = finish (endLimiterWindow m n held s) := by
  have hevent : limiterWindowEvent m s = endLimiterWindow m n held s := by
    simp [limiterWindowEvent, hmode, State.now, hend]
  exact congrArg finish hevent

/-- Settles O11: by whether denials were suppressed since the window began. -/
theorem limiterWindowEnds : Obligations.LimiterWindowEnds := by
  intro m e n held s hmode hend
  rw [exec_limiterWindowEnd hmode hend]
  refine ⟨fun hn => ?_, fun p hn hp => ?_⟩
  · refine ⟨arbitrate (setLimiter m { total := (s.limiters.get m).total, mode := .quiet } s), ?_,
      rfl, rfl⟩
    cases held <;> simp [endLimiterWindow, hn, finish]
  · subst hp
    refine ⟨_, rfl, ?_, ?_, ?_⟩
    · rw [endLimiterWindow, if_pos hn, raise_setLimiter]
      rfl
    · rw [endLimiterWindow, if_pos hn, raise_setLimiter]
      exact ⟨rfl, rfl⟩
    · rw [endLimiterWindow, if_pos hn, raise_setLimiter]
      rfl

/-! ### Refills (R40 to R43) -/

/-- The Pacing Unit's record after the expiry, as the statement spells it. -/
theorem expire_eq (p : Pace) (a : Account) (now : Micros) : p.expire a now =
    (match p.buffered with
      | none =>
          { p with account := some { credit := min (a.credit + (p.inForce.q : Int)) (p.inForce.k : Int)
                                     timer := now } }
      | some b =>
          { p with
            inForce := b, buffered := none
            account := if b.paced = true then
                some { credit := min (a.credit + (b.q : Int)) (b.k : Int), timer := now }
              else none }) := by
  unfold Pace.expire
  cases p.buffered with
  | none => rfl
  | some b => cases hb : b.paced <;> simp [hb, Account.refill]

theorem refillEvent_due {m : Master} {a : Account} {s : State}
    (ha : (s.pacing.get m).account = some a)
    (hdue : (8 + (s.pacing.get m).inForce.a) * 2 ^ (s.pacing.get m).inForce.b ≤
      (s.clock.m - a.timer).toNat) :
    refillEvent m s =
      reexamine issueFull m (setPace m ((s.pacing.get m).expire a s.clock.m) s) := by
  have hreached : refillDue s m = true := by
    simp only [refillDue, ha, reached, elapsed, State.now, PaceSetting.interval, hdue,
      decide_true]
  simp [refillEvent, ha, hreached, State.now]

/-! A HELD request re-examined is one examined at the EMPTY port: no step reads the port. -/

theorem PerMaster.set_set {α : Type} (t : PerMaster α) (m : Master) (x y : α) :
    (t.set m x).set m y = t.set m y := by
  cases m <;> rfl

theorem deny_port (m : Master) (p : PortState) (r : Request) (cause : DenialCause)
    (g : Option RegionRef) (report : Option Report) (s : State) :
    deny m r cause g report (setMasterPort m p s) = deny m r cause g report s := by
  have hdeliver (c : Completion) : deliver m c (setMasterPort m p s) = deliver m c s := by
    simp [deliver, setMasterPort, State.setTransit, PerMaster.set_set]
  simp only [deny, hdeliver]

theorem enterWaiting_port (m : Master) (p : PortState) (t : Txn) (cost : Nat) (s : State) :
    enterWaiting m t cost (setMasterPort m p s) = enterWaiting m t cost s := by
  simp [enterWaiting_eq, setMasterPort, State.setTransit, PerMaster.set_set]

/-- What an owner prepares does not read the traffic. -/
theorem handle_setTransit (issue : Slot → Word → State → State) (m : Master) (r : Request)
    (p : Place) (x : Transit) (s : State) :
    handle issue m r p (s.setTransit x) = handle issue m r p s := rfl

theorem examine_port (issue : Slot → Word → State → State) (m : Master) (p : PortState)
    (r : Request) (s : State) :
    examine issue m r (setMasterPort m p s) = examine issue m r s := by
  have hheld (q : PortState) : setMasterPort m q (setMasterPort m p s) = setMasterPort m q s := by
    simp [setMasterPort, State.setTransit, PerMaster.set_set]
  unfold examine paceAndAdmit
  simp only [deny_port, enterWaiting_port, hheld]
  rfl

/-- A refill with a HELD request whose port has nothing on its lane: an arrival at the EMPTY port
with the refilled account (R6, R40). -/
theorem refillEvent_held {m : Master} {a : Account} {r : Request} {s : State}
    (ha : (s.pacing.get m).account = some a)
    (hdue : (8 + (s.pacing.get m).inForce.a) * 2 ^ (s.pacing.get m).inForce.b ≤
      (s.clock.m - a.timer).toNat)
    (hheld : s.transit.ports.get m = .held r) :
    refillEvent m s = examine issueFull m r
      (setMasterPort m .empty (setPace m ((s.pacing.get m).expire a s.clock.m) s)) := by
  rw [refillEvent_due ha hdue, examine_port, reexamine]
  simp [setPace, hheld]

/-- Settles O12: the account is refilled, then a HELD request is examined with it. -/
theorem refillAddsTheQuantum : Obligations.RefillAddsTheQuantum := by
  intro m a s ha hdue hl hlane p
  have hp : (s.pacing.get m).expire a s.clock.m = p := expire_eq ..
  have hdueEvent := refillEvent_due ha hdue
  have hheldEvent (r : Request) (hheld : s.transit.ports.get m = .held r) :=
    refillEvent_held ha hdue hheld
  rw [hp] at hdueEvent hheldEvent
  clear_value p
  set u := setMasterPort m .empty (setPace m p s) with hu
  have hul : u.lanesTaken :=
    OthersKept.lanesTaken (s := s) (setPort_othersKept rfl rfl) hlane hl
  have hue : u.transit.ports.get m = .empty := PerMaster.get_set_self ..
  have hexec {v : State} (hv : refillEvent m s = v) (ht : v.lanesTaken) :
      exec (.refillExpiry m) s = .next (arbitrate v) := by
    change finishLanes (refillEvent m s) = _
    rw [hv, finishLanes_of_taken ht]
    rfl
  refine ⟨fun hfree => ?_, fun r hheld hwf haligned hinside => ?_, fun r cause hheld hcause => ?_,
    fun r hheld hkind hright => ?_⟩
  · have hnone : refillEvent m s = setPace m p s := by
      rw [hdueEvent, reexamine]
      split
      · next r hr => exact absurd hr (hfree r)
      all_goals rfl
    exact ⟨_, hexec hnone hl, rfl, rfl⟩
  · change finishLanes (refillEvent m s) = _
    rw [hheldEvent r hheld]
    exact (exec_arrival_examines hwf hue hul haligned hinside).symm
  · have hdeny := examine_refused (issue := issueFull) (s := u) (deniedRight_of_refused hcause)
    have hend := deny_lanesTaken r cause (some (s.map.place r.addr.toNat).region) none hul hlane
    refine ⟨_, hexec ((hheldEvent r hheld).trans hdeny) hend, ?_,
      countDenial_congr m _ rfl rfl rfl rfl rfl rfl, ?_⟩
    · rw [arbitrate_frame, deny_frame]
      rfl
    · unfold Arbitrated
      rw [arbitrate, State.setTransit_transit, deny_transit, hu]
      simp only [setMasterPort, setPace, State.setTransit_transit, State.setPacing_transit,
        PerMaster.set_set]
      rfl
  · have hh : handle issueFull m r (s.map.place r.addr.toNat) u =
        .accept (match r.dir with | .read => [] | .write => r.words) id := by
      cases hd : r.dir <;> simp [handle, hd, handleWrite, hkind]
    have hup : u.pacing.get m = p := PerMaster.get_set_self ..
    by_cases hdebt : ∃ b, p.account = some b ∧ b.credit < 0
    · obtain ⟨b, hb, hlow⟩ := hdebt
      have hback : setMasterPort m (.held r) u = setPace m p s := by
        rw [hu, ← hheld]
        simp [setMasterPort, setPace, State.setTransit, PerMaster.set_set]
        rfl
      have hagain := (hheldEvent r hheld).trans
        ((examine_holds (s := u) hright hh (by rw [hup, hb]) hlow).trans hback)
      exact ⟨_, hexec hagain hl, fun _ => ⟨rfl, rfl⟩, fun hno => absurd (hno b hb) (not_le.2 hlow)⟩
    · have hcredit (b : Account) (hb : p.account = some b) : 0 ≤ b.credit :=
        not_lt.1 fun hlow => hdebt ⟨b, hb, hlow⟩
      have hadmit := (hheldEvent r hheld).trans
        (examine_admits (s := u) hright hh (by rw [hup]; exact hcredit))
      have hplace : u.map.place r.addr.toNat = s.map.place r.addr.toNat := rfl
      rw [hplace, hu, enterWaiting_port, enterWaiting_eq] at hadmit
      simp only [setPace, State.setPacing_pacing, PerMaster.get_set_self, PerMaster.set_set] at hadmit
      refine ⟨_, hexec hadmit ?_, fun hd => absurd hd hdebt, fun _ => ⟨rfl, ?_⟩⟩
      · exact OthersKept.lanesTaken (s := s) (setPort_othersKept rfl rfl) hlane hl
      · rw [txnOf, hkind]
        rfl

end Sys2Proof.Machine

namespace Sys2Proof.Machine

/-! ### The commands' course in a FREE slot (R159, R160) -/

theorem beginIssue_param (n : Slot) (word : Word) (i : Nat) (s : State) :
    (beginIssue n word s).param n i = s.param n i := by
  simp [State.param, beginIssue]

theorem beginIssue_paramWord (n : Slot) (word : Word) (i : Nat) (s : State) :
    (beginIssue n word s).paramWord n i = s.paramWord n i := by
  simp [State.paramWord, beginIssue_param]

/-- What a command ends with, by the reply of its execution: the state that it leaves, but for the
records and its slot, then its answer behind the reports. -/
theorem command_ends {n : Slot} {w : Word} {run : State → Reply} {s : State} (h : s.takes n)
    {q : Reply} (hq : run (beginIssue n w s) = q) (rs : List Report)
    (hr : Reported rs (beginIssue n w s) q.state)
    (hslots : q.state.slots = (beginIssue n w s).slots := by rfl)
    (hmap : q.state.map = s.map := by rfl) (ht : q.state.transit = s.transit := by rfl) :
    ∃ t, finish (issueCommand n w run s) = .next t ∧
      t = { q.state with slots := t.slots, staging := t.staging, writer := t.writer
                         transit := t.transit } ∧
      Answered n w rs q.code q.data s t ∧ Arbitrated s.transit t := by
  obtain ⟨hstaging, hwriter⟩ := hr
  obtain ⟨hqueue, hslot⟩ := giveResult_congr n q.code q.data (raiseAll rs (beginIssue n w s)) q.state
    hstaging (by rw [hslots, raiseAll_slots]) (by rw [hmap, raiseAll_map]; rfl)
  refine ⟨arbitrate (giveResult n q.code q.data q.state), ?_, ?_, ⟨hqueue, ?_, hslot⟩, ?_⟩
  · rw [issueCommand_takes n w run s h, hq]
    rfl
  · rw [arbitrate_frame, giveResult_frame]
  · rw [giveResult_writer]
    change (giveResult n q.code q.data q.state).writer = _
    rw [giveResult_writer, hwriter]
  · unfold Arbitrated
    rw [arbitrate, State.setTransit_transit, giveResult_transit, ht]
    rfl

/-! ### PACE_SET (R41) -/

theorem Master.ofNum?_num (m : Master) : Master.ofNum? m.num = some m := by cases m <;> rfl

theorem Master.ofNum?_of_lt {k : Nat} (h : 4 < k) : Master.ofNum? k = none := by
  obtain ⟨j, rfl⟩ := Nat.exists_eq_add_of_lt h
  rw [show 4 + j + 1 = j + 5 by omega]
  rfl

/-- The setting that PACE_SET gives in mode PACED, clamped, as the statement spells it. -/
def clampedPace (n : Slot) (s : State) : PaceSetting :=
  { paced := true, a := s.paramBits n 1 0 8, b := s.paramBits n 1 8 8
    q := max 1 (min (s.paramWord n 2) 64), k := max 1 (min (s.paramWord n 3) 1024) }

theorem givenPace_clamp (n : Slot) (s : State) : (givenPace n s).clamp = clampedPace n s := rfl

theorem givenPace_clamp_eq_iff (n : Slot) (s : State) : (givenPace n s).clamp = givenPace n s ↔
    (clampedPace n s).q = s.paramWord n 2 ∧ (clampedPace n s).k = s.paramWord n 3 := by
  simp [givenPace, PaceSetting.clamp, clampNat, clampedPace]

theorem runPaceSet_paced {n : Slot} {m : Master} {s : State} (hsafe : s.loader.condition ≠ .safe)
    (hm : s.paramBits n 0 0 8 = m.num) (hmode : s.paramBits n 0 8 2 = 1)
    (ha : s.paramBits n 1 0 8 ≤ 7) (hb : s.paramBits n 1 8 8 ≤ 7) :
    runPaceSet n s = doPaceSet m (clampedPace n s)
      (if (clampedPace n s).q = s.paramWord n 2 ∧ (clampedPace n s).k = s.paramWord n 3 then .done
        else .doneAdjusted) s := by
  simp only [runPaceSet, State.isSafe, decide_eq_true_eq, if_neg hsafe, hm, Master.ofNum?_num, hmode]
  have hin : ¬(7 < (givenPace n s).a ∨ 7 < (givenPace n s).b) := by
    simp only [givenPace]
    omega
  rw [if_neg hin, givenPace_clamp,
    if_congr (givenPace_clamp n s ▸ givenPace_clamp_eq_iff n s) rfl rfl]

theorem runPaceSet_unpaced {n : Slot} {m : Master} {s : State} (hsafe : s.loader.condition ≠ .safe)
    (hm : s.paramBits n 0 0 8 = m.num) (hmode : s.paramBits n 0 8 2 = 2) :
    runPaceSet n s = doPaceSet m (givenUnpaced s) .done s := by
  simp only [runPaceSet, State.isSafe, decide_eq_true_eq, if_neg hsafe, hm, Master.ofNum?_num, hmode]

theorem givenUnpaced_paced (s : State) : (givenUnpaced s).paced = false := by
  unfold givenUnpaced
  rfl

theorem runPaceSet_safe {n : Slot} {s : State} (hsafe : s.loader.condition = .safe) :
    runPaceSet n s = refuse s .refusedState := by
  simp [runPaceSet, State.isSafe, hsafe]

theorem runPaceSet_bad {n : Slot} {s : State} (hsafe : s.loader.condition ≠ .safe)
    (h : 4 < s.paramBits n 0 0 8 ∨ (s.paramBits n 0 8 2 ≠ 1 ∧ s.paramBits n 0 8 2 ≠ 2) ∨
      (s.paramBits n 0 8 2 = 1 ∧ (7 < s.paramBits n 1 0 8 ∨ 7 < s.paramBits n 1 8 8))) :
    runPaceSet n s = refuse s .refusedParam := by
  simp only [runPaceSet, State.isSafe, decide_eq_true_eq, if_neg hsafe]
  rcases h with hm | ⟨h1, h2⟩ | ⟨hmode, hab⟩
  · rw [Master.ofNum?_of_lt hm]
  · split
    · rfl
    · split
      · next hmode => exact absurd hmode h1
      · next hmode => exact absurd hmode h2
      · rfl
  · split
    · rfl
    · rw [hmode]
      exact if_pos hab

/-- PACE_SET that gives master m a setting, in a FREE slot. -/
theorem paceSet_ends {n : Slot} {rest : BitVec 24} {m : Master} {b : PaceSetting} {code : ResultCode}
    {s : State} (h : s.takes n)
    (hq : runPaceSet n (beginIssue n (opcodeWord 0x31 rest) s) =
      doPaceSet m b code (beginIssue n (opcodeWord 0x31 rest) s)) :
    ∃ t, exec (.paceSet n rest) s = .next t ∧
      t = { s with
        pacing := s.pacing.set m ((s.pacing.get m).give b s.clock.m)
        slots := t.slots, staging := t.staging, writer := t.writer, transit := t.transit } ∧
      Answered n (opcodeWord 0x31 rest) [] code
        (paceData m ((s.pacing.get m).give b s.clock.m)) s t ∧ Arbitrated s.transit t :=
  command_ends h hq [] ⟨rfl, rfl⟩

/-- A refused command changes its slot and the records alone. -/
theorem refused_ends {n : Slot} {w : Word} {run : State → Reply} {s : State} (h : s.takes n)
    {code : ResultCode} (hq : run (beginIssue n w s) = refuse (beginIssue n w s) code) :
    ∃ t, finish (issueCommand n w run s) = .next t ∧ Arbitrated s.transit t ∧
      t = { s with slots := t.slots, staging := t.staging, writer := t.writer
                   transit := t.transit } ∧ Answered n w [] code none s t := by
  obtain ⟨t, hexec, hframe, hans, harb⟩ := command_ends h hq [] ⟨rfl, rfl⟩
  exact ⟨t, hexec, harb, hframe, hans⟩

/-- Settles O13: by the checks of PACE_SET and by whether an account stands. -/
theorem paceSetByTheSettingInForce : Obligations.PaceSetByTheSettingInForce := by
  refine ⟨fun n rest m s htakes hsafe hm hmode ha hb hnone => ?_,
    fun n rest m a s htakes hsafe hm hacc hmode => ?_, fun n rest s htakes => ⟨?_, ?_, ?_⟩⟩
  all_goals
    simp only [← beginIssue_paramBits n (opcodeWord 0x31 rest) _ _ _ s,
      ← beginIssue_paramWord n (opcodeWord 0x31 rest) _ s] at *
  · have hgive := paceSet_ends htakes (runPaceSet_paced hsafe hm hmode ha hb)
    have hnew (b : PaceSetting) (hb : b.paced = true) :
        (s.pacing.get m).give b s.clock.m = (s.pacing.get m).take b s.clock.m := by
      simp [Pace.give, hnone, hb]
    rw [hnew _ rfl] at hgive
    exact hgive
  · have hbuffer (b : PaceSetting) : (s.pacing.get m).give b s.clock.m =
        { s.pacing.get m with buffered := some b } := if_pos (by rw [hacc]; rfl)
    rcases hmode with hmode | ⟨hmode, ha, hb⟩
    · obtain ⟨t, hexec, hframe, hans, harb⟩ := paceSet_ends htakes (runPaceSet_unpaced hsafe hm hmode)
      have hunpaced := givenUnpaced_paced (beginIssue n (opcodeWord 0x31 rest) s)
      generalize givenUnpaced (beginIssue n (opcodeWord 0x31 rest) s) = b at hframe hans hunpaced
      rw [hbuffer] at hframe hans
      exact ⟨t, b, _, hexec, hframe, hans, harb, fun _ => ⟨hunpaced, rfl⟩,
        fun h1 => absurd (hmode.symm.trans h1) (by decide)⟩
    · obtain ⟨t, hexec, hframe, hans, harb⟩ :=
        paceSet_ends htakes (runPaceSet_paced hsafe hm hmode ha hb)
      rw [hbuffer] at hframe hans
      exact ⟨t, _, _, hexec, hframe, hans, harb,
        fun h2 => absurd (hmode.symm.trans h2) (by decide), fun _ => ⟨rfl, rfl⟩⟩
  · intro m hsafe hm hmode hnone
    obtain ⟨t, hexec, hframe, hans, harb⟩ := paceSet_ends htakes (runPaceSet_unpaced hsafe hm hmode)
    have hkeep : (s.pacing.get m).give (givenUnpaced (beginIssue n (opcodeWord 0x31 rest) s)) s.clock.m =
        s.pacing.get m := by simp [Pace.give, hnone, givenUnpaced_paced]
    rw [hkeep] at hframe hans
    rw [PerMaster.set_get] at hframe
    exact ⟨t, hexec, harb, hframe, hans⟩
  · exact fun hsafe => refused_ends htakes (runPaceSet_safe hsafe)
  · exact fun hsafe h => refused_ends htakes (runPaceSet_bad hsafe h)

end Sys2Proof.Machine

namespace Sys2Proof.Machine

/-! ### Internal writes (R11 to R13) -/

/-- The Report Writer after the last write of an entry, its write made. -/
def StagingEntry.ringAfter (e : StagingEntry) (s : State) : Writer :=
  match e.body with
  | .record _ _ =>
    if e.current = true then
      { s.writer with written := (s.writer.written + 1) % s.map.ringCapacity }
    else s.writer
  | .result _ _ _ _ _ => s.writer

/-- The slots after the last write of an entry: that of a result still awaited is FREE. -/
def StagingEntry.slotsAfter (e : StagingEntry) (s : State) : PerSlot CommandSlot :=
  match e.body with
  | .record _ _ => s.slots
  | .result n _ _ _ _ =>
    if e.current = true then s.slots.set n { s.slots.get n with awaiting := false } else s.slots

theorem noteLeaving_eq (e : StagingEntry) (s : State) :
    noteLeaving e s = { s with writer := e.ringAfter s, slots := e.slotsAfter s } := by
  unfold noteLeaving StagingEntry.ringAfter StagingEntry.slotsAfter
  cases e.body <;> cases e.current <;> rfl

theorem slotsAfter_waiting (e : StagingEntry) (s : State) (n : Slot) :
    ((e.slotsAfter s).get n).waiting = (s.slots.get n).waiting := by
  have h := noteLeaving_waiting e s n
  rwa [noteLeaving_eq] at h

/-- A queue with no result waiting behind it stays. -/
theorem joinWaiting_of_none {s : State} (h : ∀ n, (s.slots.get n).waiting = none) :
    joinWaiting s = s := by
  have hfind : allSlots.find? (fun n => (s.slots.get n).waiting.isSome) = none :=
    List.find?_eq_none.2 fun n _ => by simp [h n]
  unfold joinWaiting
  rw [hfind]
  exact ite_self _

/-- The result of the lowest slot that waits joins a queue with room. -/
theorem joinWaiting_of_lowest {s : State} {n : Slot} {x : StagingEntry}
    (hroom : s.staging.length < 8) (hx : (s.slots.get n).waiting = some x)
    (hlow : ∀ k : Slot, k.num < n.num → (s.slots.get k).waiting = none) :
    joinWaiting s =
      { s with
        staging := s.staging ++ [x]
        slots := s.slots.set n { s.slots.get n with waiting := none } } := by
  have hnum (k : Slot) (j : Nat) (hj : allSlots[j]? = some k) : j = k.num := by
    obtain ⟨hlt, rfl⟩ := List.getElem?_eq_some_iff.1 hj
    match j, hlt with
    | 0, _ | 1, _ | 2, _ | 3, _ => rfl
  have hfind : allSlots.find? (fun n => (s.slots.get n).waiting.isSome) = some n := by
    refine find?_of_first (k := n.num) (by cases n <;> rfl) (by rw [hx]; rfl) fun j k hj hk => ?_
    rw [hlow k (hnum k j hk ▸ hj)]
    rfl
  unfold joinWaiting
  rw [if_pos (show s.staging.length < stagingMax from hroom), hfind]
  simp only [hx]
  rfl

/-- The last write of the head entry: it leaves, then the queue is filled up. -/
theorem internalAnswer_last {e : StagingEntry} {rest : List StagingEntry} {s : State} (ok : Bool)
    (hmem : s.transit.memPort = .internal) (hq : s.staging = e :: rest)
    (hlast : e.twoWrites = true → e.firstDone = true ∨ e.cut = true) :
    internalAnswer ok s = joinWaiting
      { s with
        staging := rest
        slots := e.slotsAfter s
        writer := if e.failed = true ∨ ok = false then
            { e.ringAfter s with lost := min ((e.ringAfter s).lost + 1) 4294967295, losing := true }
          else e.ringAfter s
        transit := { s.transit with memPort := .free } } := by
  have hnot : ¬(e.twoWrites && !e.firstDone && !e.cut) = true := by
    cases h2 : e.twoWrites
    · simp
    · rcases hlast h2 with h | h <;> simp [h]
  simp only [internalAnswer, hmem, hq, completeInternal, if_neg hnot, leaveStaging, noteLeaving_eq]
  congr 1
  by_cases hf : e.failed = true ∨ ok = false
  · have hfail : (e.failed || !ok) = true := by simpa using hf
    rw [if_pos hfail, if_pos hf]
    rfl
  · have hfail : ¬(e.failed || !ok) = true := by simpa using hf
    rw [if_neg hfail, if_neg hf]
    rfl

theorem internalAnswer_first {e : StagingEntry} {rest : List StagingEntry} {s : State} (ok : Bool)
    (hmem : s.transit.memPort = .internal) (hq : s.staging = e :: rest)
    (h2 : e.twoWrites = true) (hf : e.firstDone = false) (hc : e.cut = false) :
    internalAnswer ok s =
      { s with
        staging := { e with firstDone := true, failed := e.failed || !ok } :: rest
        transit := { s.transit with memPort := .free } } := by
  simp [internalAnswer, hmem, hq, completeInternal, h2, hf, hc, freePort, State.setTransit,
    State.setStaging]

theorem resultWord14_eq (code : ResultCode) (issues : BitVec 16) (word : Word) :
    resultWord14 code issues word = issues ++ BitVec.ofNat 8 code.code ++ opcodeField word := by
  have hcode : (0 : BitVec 4) ++ BitVec.ofNat 4 code.code = BitVec.ofNat 8 code.code := by
    cases code <;> rfl
  rw [← hcode]
  exact congrArg (fun y : BitVec 24 => y ++ opcodeField word) BitVec.append_assoc

theorem padTo_self {k : Nat} {ws : List Word} (h : ws.length = k) : padTo k ws = ws := by
  simp [padTo, ← h]

/-- Settles O8: the effects of the head's last and first write, and what the memory port carries. -/
theorem internalWriteCompletes : Obligations.InternalWriteCompletes := by
  refine ⟨fun e rest ok s hmem hq hlast => ?_, fun e rest ok s hmem hq h2 hf hc => ?_,
    fun e rest s hmem hq => ?_, fun m x s hmem hx => ?_⟩
  · have hevent := internalAnswer_last ok hmem hq hlast
    refine ⟨fun hnone => ?_, fun n x hroom hx hlow => ?_⟩
    · rw [joinWaiting_of_none fun n => (slotsAfter_waiting e s n).trans (hnone n)] at hevent
      exact ⟨_, congrArg finish hevent, rfl, rfl⟩
    · rw [joinWaiting_of_lowest hroom ((slotsAfter_waiting e s n).trans hx) fun k hk =>
        (slotsAfter_waiting e s k).trans (hlow k hk)] at hevent
      exact ⟨_, congrArg finish hevent, rfl, rfl⟩
  · exact ⟨_, congrArg finish (internalAnswer_first ok hmem hq h2 hf hc), rfl, rfl⟩
  · simp only [memoryLane, hmem, hq]
    obtain ⟨body, addr, current, firstDone, failed, cut⟩ := e
    match body with
    | .record r st => rfl
    | .result _ code issues word none =>
      refine ⟨_, rfl, rfl, rfl, rfl, rfl, ?_⟩
      simp only [StagingEntry.writeWords, resultWord14_eq]
      rfl
    | .result _ code issues word (some data) =>
      intro hlen
      cases firstDone <;>
        simp [StagingEntry.writeAddr, StagingEntry.writeWords, padTo_self hlen, resultWord14_eq,
          allEnables]
  · simp [memoryLane, hmem, hx]

end Sys2Proof.Machine

namespace Sys2Proof.Machine

/-! ### How an event of a block ends -/

/-- The end of an event: the arbiter looks, and nothing else changes. -/
theorem finish_ends (v : State) :
    ∃ t, finish v = .next t ∧ Arbitrated v.transit t ∧ t = { v with transit := t.transit } :=
  ⟨arbitrate v, rfl, rfl, rfl⟩

/-- An event that leaves the state `u` but for the records, which take the reports `rs`. -/
theorem finish_reports {rs : List Report} {u v : State}
    (hv : v = { u with staging := v.staging, writer := v.writer }) (hr : Reported rs u v) :
    ∃ t, finish v = .next t ∧ Arbitrated u.transit t ∧
      t = { u with staging := t.staging, writer := t.writer, transit := t.transit } ∧
      Reported rs u t := by
  refine ⟨arbitrate v, rfl, ?_, ?_, hr⟩
  · rw [hv]; rfl
  · rw [arbitrate_frame, hv]

theorem finish_raiseAll (rs : List Report) (u : State) :
    ∃ t, finish (raiseAll rs u) = .next t ∧ Arbitrated u.transit t ∧
      t = { u with staging := t.staging, writer := t.writer, transit := t.transit } ∧
      Reported rs u t :=
  finish_reports (raiseAll_frame rs u) ⟨rfl, rfl⟩

/-- A record reads the clock through its stamp alone. -/
theorem takeNormal_setClock (r : Report) {s : State} {k : Clock} (h : k.stamp = s.clock.stamp) :
    takeNormal r (s.setClock k) = (takeNormal r s).setClock k := by
  unfold takeNormal placeRecord recordEntry
  simp only [State.setClock_staging, State.setClock_map, State.setClock_writer, State.setClock_clock,
    h]
  split_ifs <;> rfl

theorem resumeWriter_setClock {s : State} {k : Clock} (h : k.stamp = s.clock.stamp) :
    resumeWriter (s.setClock k) = (resumeWriter s).setClock k := by
  unfold resumeWriter placeRecord recordEntry
  simp only [State.setClock_clock, h]
  rfl

theorem raise_setClock (r : Report) {s : State} {k : Clock} (h : k.stamp = s.clock.stamp) :
    raise r (s.setClock k) = (raise r s).setClock k := by
  have hresumed : k.stamp = (resumeWriter s).clock.stamp := h
  unfold raise
  simp only [State.setClock_staging, State.setClock_map, State.setClock_writer,
    resumeWriter_setClock h, takeNormal_setClock r h, takeNormal_setClock r hresumed]
  split_ifs <;> rfl

theorem raiseAll_setClock (rs : List Report) {s : State} {k : Clock} (h : k.stamp = s.clock.stamp) :
    raiseAll rs (s.setClock k) = (raiseAll rs s).setClock k := by
  induction rs generalizing s with
  | nil => rfl
  | cons r rs ih =>
    change raiseAll rs (raise r (s.setClock k)) = (raiseAll rs (raise r s)).setClock k
    rw [raise_setClock r h, ih (by rw [raise_clock]; exact h)]

theorem Reported.of_setClock {rs : List Report} {s t : State} {k : Clock}
    (h : k.stamp = s.clock.stamp) (hr : Reported rs (s.setClock k) t) : Reported rs s t := by
  rw [Reported, raiseAll_setClock rs h] at hr
  exact hr

/-- What reports leave depends on the clock, the map and the records. -/
theorem Reported.congr {rs : List Report} {s u t : State} (h : Reported rs s t)
    (hc : u.clock = s.clock) (hm : u.map = s.map) (hs : u.staging = s.staging)
    (hw : u.writer = s.writer) : Reported rs u t := by
  obtain ⟨hstaging, hwriter⟩ := raiseAll_congr rs s u hc hm hs hw
  exact ⟨h.1.trans hstaging.symm, h.2.trans hwriter.symm⟩

/-! ### The hall second pulse (R52, R53) -/

theorem PerPort.any_iff {α : Type} (t : PerPort α) (f : α → Bool) :
    t.toList.any f = true ↔ ∃ p, f (t.get p) = true := by
  constructor
  · intro h
    simp only [PerPort.toList, List.any_cons, List.any_nil, Bool.or_false, Bool.or_eq_true] at h
    rcases h with h | h | h | h | h | h | h | h
    exacts [⟨.p1, h⟩, ⟨.p2, h⟩, ⟨.p3, h⟩, ⟨.p4, h⟩, ⟨.p5, h⟩, ⟨.p6, h⟩, ⟨.p7, h⟩, ⟨.p8, h⟩]
  · rintro ⟨p, h⟩
    simp only [PerPort.toList, List.any_cons, List.any_nil, Bool.or_false, Bool.or_eq_true]
    cases p <;> simp only [PerPort.get] at h <;> simp only [h, true_or, or_true]

theorem hasTimeSource_iff (s : State) :
    s.hasTimeSource = true ↔ ∃ p, (s.switch.table.get p).role = .timeSource := by
  simp only [State.hasTimeSource, PerPort.any_iff, decide_eq_true_eq]

/-- A pulse is untrusted where a TIME_SOURCE port is out of service (R52). -/
theorem pulseTrusted_eq_false_iff (s : State) : s.pulseTrusted = false ↔
    ∃ p, (s.switch.table.get p).role = .timeSource ∧
      ((s.switch.table.get p).linkUp = false ∨ s.switch.state = .silent) := by
  have hall : s.switch.table.toList.all (fun e => decide (e.role ≠ .timeSource) || e.linkUp) = false ↔
      ∃ p, (s.switch.table.get p).role = .timeSource ∧ (s.switch.table.get p).linkUp = false := by
    rw [List.all_eq_not_any_not, Bool.not_eq_false', PerPort.any_iff]
    simp
  rw [State.pulseTrusted, Bool.or_eq_false_iff, Bool.and_eq_false_iff, hall, Bool.not_eq_false',
    hasTimeSource_iff, decide_eq_false_iff_not, not_not]
  constructor
  · rintro ⟨⟨p, hp⟩, ⟨q, hq, hdown⟩ | hsilent⟩
    · exact ⟨q, hq, .inl hdown⟩
    · exact ⟨p, hp, .inr hsilent⟩
  · rintro ⟨p, hp, hdown | hsilent⟩
    · exact ⟨⟨p, hp⟩, .inl ⟨p, hp, hdown⟩⟩
    · exact ⟨⟨p, hp⟩, .inr hsilent⟩

theorem accepts_iff_spaced (k : Clock) : k.accepts = true ↔ k.spaced := by
  unfold Clock.accepts Clock.spaced
  cases hl : k.lastAccepted with
  | none => simp
  | some l => cases hp : l.past <;> simp [Moment.age, hp, elapsed]

theorem exec_hallPulse_untrusted {s : State} (h : s.pulseTrusted = false) :
    exec .hallPulse s =
      finish (s.setClock { s.clock with untrusted := satAdd32 s.clock.untrusted 1 }) := by
  change finish (hallPulseEvent s) = _
  simp [hallPulseEvent, h]

theorem exec_hallPulse_glitch {s : State} (ht : s.pulseTrusted = true) (hs : ¬s.clock.spaced) :
    exec .hallPulse s =
      finish (s.setClock { s.clock with glitches := satAdd32 s.clock.glitches 1 }) := by
  rw [← accepts_iff_spaced] at hs
  change finish (hallPulseEvent s) = _
  simp [hallPulseEvent, ht, hs]

theorem exec_hallPulse_accepted {s : State} (ht : s.pulseTrusted = true) (hs : s.clock.spaced) :
    exec .hallPulse s = finish (acceptPulse s) := by
  rw [← accepts_iff_spaced] at hs
  change finish (hallPulseEvent s) = _
  simp [hallPulseEvent, ht, hs]

/-- Settles O14: an untrusted pulse and a glitch end before the clock is written. -/
theorem untrustedAndEarlyPulsesOnlyCount : Obligations.UntrustedAndEarlyPulsesOnlyCount := by
  refine fun s => ⟨fun hdown => ?_, fun l hup hl hpast hearly => ?_⟩
  · rw [exec_hallPulse_untrusted ((pulseTrusted_eq_false_iff s).2 hdown)]
    exact finish_ends _
  · have htrusted : s.pulseTrusted = true := by
      rw [← Bool.not_eq_false, pulseTrusted_eq_false_iff]
      rintro ⟨p, hp, hdown | hsilent⟩
      · simp [(hup p hp).1] at hdown
      · exact (hup p hp).2 hsilent
    have hnot : ¬s.clock.spaced := fun h => by
      rcases h l hl with h | h
      · simp [hpast] at h
      · omega
    rw [exec_hallPulse_glitch htrusted hnot]
    exact finish_ends _

/-! ### An accepted pulse (R53 to R57) -/

theorem withholds_iff (k : Clock) : k.withholds = true ↔ k.c < 0 ∧ k.adjustments < k.c.natAbs ∧
    (k.adjustments + 1) * (1000000 / k.c.natAbs) ≤ (k.m - k.periodStart).toNat := by
  simp only [Clock.withholds, Clock.adjustmentDue, reached, elapsed, Clock.spacing, Bool.and_eq_true,
    decide_eq_true_eq]
  constructor
  · rintro ⟨hneg, ⟨_, hfew⟩, hdue⟩
    exact ⟨hneg, hfew, of_decide_eq_true hdue⟩
  · rintro ⟨hneg, hfew, hdue⟩
    exact ⟨hneg, ⟨by omega, hfew⟩, decide_eq_true hdue⟩

theorem captured_eq (k : Clock) : k.captured = if k.withholds then k.t + 1 else k.t :=
  if_congr (withholds_iff k).symm rfl rfl

theorem beginPeriod_eq (k : Clock) :
    k.beginPeriod = { k with t := k.captured, periodStart := k.m, adjustments := 0 } := by
  rw [captured_eq]
  rfl

/-- The clock at an accepted pulse, before the discipline. -/
theorem noteAccepted_eq (k : Clock) : k.noteAccepted =
    { k with t := k.captured, periodStart := k.m, adjustments := 0
             lastAccepted := some ⟨k.m, false⟩, accepted := min (k.accepted + 1) 4294967295 } := by
  rw [Clock.noteAccepted, beginPeriod_eq]
  rfl

/-- The phase error is the only value of its range that T differs from a whole second by (R54). -/
theorem phaseError_of {t : Micros} {e : Int} (hlow : -500000 ≤ e) (hhigh : e < 500000)
    (hsec : ((t.toNat : Int) - e) % 1000000 = 0) : phaseError t = e := by
  simp only [phaseError]
  generalize t.toNat = x at hsec ⊢
  split <;> omega

theorem acceptPulse_of_none {s : State} (h : s.clock.pendingSet = none) : acceptPulse s =
    raiseAll (pulseReports s.clock.noteAccepted s.clock.noteAccepted.pulseByState)
      (s.setClock s.clock.noteAccepted.pulseByState) := by
  have hk : s.clock.noteAccepted.pendingSet = none := h
  simp only [acceptPulse, hk]

theorem acceptPulse_of_some {s : State} {p : PendingSet} (h : s.clock.pendingSet = some p) :
    acceptPulse s =
      raiseAll (setReports s.clock.noteAccepted (s.clock.noteAccepted.applySet p.seconds))
        (s.setClock (s.clock.noteAccepted.applySet p.seconds)) := by
  have hk : s.clock.noteAccepted.pendingSet = some p := h
  simp only [acceptPulse, hk]

/-- The clock that a pulse in LOCKING leaves (R53 step 5, R55). -/
def Clock.lockingPulse (k : Clock) (e : Int) : Clock :=
  { { k with lastError := e }.pulseLocking e with pulseWatch := some k.m }

theorem lockingPulse_of_step {k : Clock} {e : Int} (he : 1000 < e.natAbs) : k.lockingPulse e =
    { k with t := k.t - BitVec.ofInt 48 e, lockRun := 0, c := k.f
             lastReplaced := some ⟨k.m, false⟩, pulseWatch := some k.m, lastError := e } := by
  simp [Clock.lockingPulse, Clock.pulseLocking, he, Clock.phaseStep, Moment.of]

theorem lockingPulse_of_disciplined {k : Clock} {e : Int} (he : e.natAbs ≤ 1000)
    (hk : k.state = .locking) : k.lockingPulse e =
    { k with f := max (-200) (min (k.f - e.tdiv 8) 200)
             c := max (-500) (min (max (-200) (min (k.f - e.tdiv 8) 200) - e.tdiv 2) 500)
             lockRun := k.nextLockRun e
             state := if 8 ≤ k.nextLockRun e then .locked else .locking
             outlierRun := if 8 ≤ k.nextLockRun e then 0 else k.outlierRun
             pulseWatch := some k.m, lastError := e } := by
  have hrun : Clock.nextLockRun { k with lastError := e } e = k.nextLockRun e := rfl
  simp only [Clock.lockingPulse, Clock.pulseLocking, if_neg (Nat.not_lt.2 he), Clock.discipline,
    clampInt, hrun]
  by_cases h8 : 8 ≤ k.nextLockRun e
  · simp only [if_pos h8]
  · simp only [if_neg h8, hk]

theorem pulseByState_locking {k : Clock} {e : Int} (hk : k.state = .locking)
    (he : phaseError k.t = e) : k.pulseByState = k.lockingPulse e := by
  simp only [Clock.pulseByState, hk, he, Clock.lockingPulse]

/-- The clock from which a pulse relocks: LOCKING with both runs 0 (R56, R57). -/
def Clock.relocking (k : Clock) : Clock :=
  { k with state := .locking, lockRun := 0, outlierRun := 0
           holdoverStart := if k.state = .locked then k.holdoverStart else none }

/-- A pulse that takes the clock back to LOCKING is one in LOCKING with both runs 0 (R56, R57). -/
theorem pulseByState_relocks {k : Clock} {e : Int} (he : phaseError k.t = e)
    (hk : k.state = .holdover ∨ k.state = .drifting ∨
      (k.state = .locked ∧ 100 < e.natAbs ∧ k.outlierRun = 2)) :
    k.pulseByState = k.relocking.lockingPulse e := by
  rcases hk with hk | hk | ⟨hk, hout, hrun⟩
  · simp [Clock.pulseByState, hk, he, Clock.pulseHoldover, Clock.lockingPulse, Clock.enterLocking,
      Clock.relocking]
  · simp [Clock.pulseByState, hk, he, Clock.pulseHoldover, Clock.lockingPulse, Clock.enterLocking,
      Clock.relocking]
  · simp [Clock.pulseByState, hk, he, Clock.pulseLocked, Nat.not_le.2 hout, hrun, Clock.lockingPulse,
      Clock.enterLocking, Clock.relocking]

theorem pulseByState_locked {k : Clock} {e : Int} (hk : k.state = .locked)
    (he : phaseError k.t = e) (h : e.natAbs ≤ 100 ∨ k.outlierRun < 2) :
    k.pulseByState =
      if e.natAbs ≤ 100 then
        { k with f := max (-200) (min (k.f - e.tdiv 8) 200)
                 c := max (-500) (min (max (-200) (min (k.f - e.tdiv 8) 200) - e.tdiv 2) 500)
                 outlierRun := 0, pulseWatch := some k.m, lastError := e }
      else { k with outlierRun := k.outlierRun + 1, pulseWatch := some k.m, lastError := e } := by
  simp only [Clock.pulseByState, hk, he, Clock.pulseLocked]
  by_cases hsmall : e.natAbs ≤ 100
  · simp only [if_pos hsmall, Clock.discipline, clampInt]
  · have hrun : k.outlierRun + 1 < 3 := by omega
    simp only [if_neg hsmall, if_pos hrun]

theorem pulseByState_unset {k : Clock} (hk : k.state = .unset) : k.pulseByState = k := by
  simp only [Clock.pulseByState, hk]

/-- The reports of a pulse whose clock is to step T where `step`. -/
theorem pulseReports_eq {k after : Clock} {e : Int} {step : Prop} [Decidable step]
    (he : phaseError k.t = e) (hstep : k.willStep = true ↔ step) :
    pulseReports k after =
      (if k.state ≠ after.state then
        [.timeState k.state after.state (pulseCause k.state) after.f after.c (some e)] else []) ++
      (if step then [.timeStepped .phaseStep k.t (some e)] else []) := by
  rw [pulseReports, he, if_congr hstep rfl rfl]

/-- An event that leaves the clock `k` with the reports `rs`. -/
theorem clock_ends (rs : List Report) (s : State) (k : Clock) :
    ∃ t, finish (raiseAll rs (s.setClock k)) = .next t ∧ Arbitrated s.transit t ∧
      t = { s with clock := k, staging := t.staging, writer := t.writer, transit := t.transit } ∧
      Reported rs { s with clock := k } t :=
  finish_raiseAll rs (s.setClock k)

/-- HALL_PULSE trusted and accepted, nothing pending: the clock and its reports. -/
theorem pulse_ends {s : State} (ht : s.pulseTrusted = true) (hs : s.clock.spaced)
    (hp : s.clock.pendingSet = none) {k : Clock} {rs : List Report}
    (hk : s.clock.noteAccepted.pulseByState = k)
    (hrs : pulseReports s.clock.noteAccepted k = rs) :
    ∃ t, exec .hallPulse s = .next t ∧ Arbitrated s.transit t ∧
      t = { s with clock := k, staging := t.staging, writer := t.writer, transit := t.transit } ∧
      Reported rs { s with clock := k } t := by
  rw [exec_hallPulse_accepted ht hs, acceptPulse_of_none hp, hk, hrs]
  exact clock_ends rs s k

/-- A pulse without a report changes the clock alone. -/
theorem pulse_ends_silent {s : State} (ht : s.pulseTrusted = true) (hs : s.clock.spaced)
    (hp : s.clock.pendingSet = none) {k : Clock}
    (hk : s.clock.noteAccepted.pulseByState = k)
    (hrs : pulseReports s.clock.noteAccepted k = []) :
    ∃ t, exec .hallPulse s = .next t ∧ Arbitrated s.transit t ∧
      t = { s with clock := k, transit := t.transit } := by
  rw [exec_hallPulse_accepted ht hs, acceptPulse_of_none hp, hk, hrs]
  exact finish_ends _

/-- Settles O15: the discipline below 1000, the phase step above. -/
theorem pulseInLocking : Obligations.PulseInLocking := by
  intro e s ht hs hlocking hpend hlow hhigh hsec
  have hn := noteAccepted_eq s.clock
  have hkt : s.clock.noteAccepted.t = s.clock.captured := by rw [hn]
  have hks : s.clock.noteAccepted.state = .locking := hlocking
  have he : phaseError s.clock.noteAccepted.t = e := by
    rw [hkt]; exact phaseError_of hlow hhigh hsec
  have hwill : s.clock.noteAccepted.willStep = true ↔ 1000 < e.natAbs := by
    simp [Clock.willStep, hks, he]
  obtain ⟨t, hexec, harb, hframe, hrep⟩ :=
    pulse_ends ht hs hpend (pulseByState_locking hks he) (pulseReports_eq he hwill)
  have hclock : t.clock = s.clock.noteAccepted.lockingPulse e := by rw [hframe]
  rw [hks, hkt] at hrep
  rw [← hclock] at hframe hrep
  refine ⟨t, hexec, hframe, harb, fun hsmall => ?_, fun hbig => ?_⟩
  · have hdis := hclock.trans (lockingPulse_of_disciplined hsmall hks)
    rw [if_neg (Nat.not_lt.2 hsmall), List.append_nil] at hrep
    rw [hn] at hdis
    refine ⟨hdis, ?_⟩
    have hstate := congrArg Clock.state hdis
    have hf := congrArg Clock.f hdis
    have hc := congrArg Clock.c hdis
    simp only [Clock.nextLockRun] at hstate hf hc
    rw [hstate, hf, hc] at hrep
    by_cases h8 : 8 ≤ if e.natAbs ≤ 20 then s.clock.lockRun + 1 else 0
    · rw [if_pos h8] at hrep ⊢
      exact hrep
    · rw [if_neg h8] at hrep ⊢
      exact hrep
  · have hstep := hclock.trans (lockingPulse_of_step hbig)
    have hstays : t.clock.state = .locking := by rw [hstep]; exact hlocking
    rw [if_pos hbig, hstays, if_neg (not_not.2 rfl), List.nil_append] at hrep
    rw [hn] at hstep
    exact ⟨hstep, hrep⟩

/-- From lock run 0 one pulse does not lock. -/
theorem lockingPulse_state {k : Clock} {e : Int} (hk : k.state = .locking) (hrun : k.lockRun = 0) :
    (k.lockingPulse e).state = .locking := by
  by_cases he : 1000 < e.natAbs
  · rw [lockingPulse_of_step he]
    exact hk
  · have hnext : ¬8 ≤ k.nextLockRun e := by
      unfold Clock.nextLockRun
      split <;> omega
    rw [lockingPulse_of_disciplined (Nat.not_lt.1 he) hk]
    exact if_neg hnext

/-- Settles O16: by the discipline state before the pulse. -/
theorem pulseOutsideLocking : Obligations.PulseOutsideLocking := by
  refine ⟨fun e s ht hs hlocked hpend hlow hhigh hsec hcase => ?_,
    fun e s ht hs hpend hlow hhigh hsec hcase => ?_, fun s ht hs hpend hunset => ?_⟩
  · have hn := noteAccepted_eq s.clock
    have hkt : s.clock.noteAccepted.t = s.clock.captured := by rw [hn]
    have he : phaseError s.clock.noteAccepted.t = e := by
      rw [hkt]; exact phaseError_of hlow hhigh hsec
    have hks : s.clock.noteAccepted.state = .locked := hlocked
    have hk := pulseByState_locked hks he hcase
    have hwill : ¬s.clock.noteAccepted.willStep = true := by
      have hout : s.clock.noteAccepted.outlierRun = s.clock.outlierRun := rfl
      simp only [Clock.willStep, he, hks, hout, Bool.and_eq_true, decide_eq_true_eq]
      omega
    have hrs : pulseReports s.clock.noteAccepted s.clock.noteAccepted.pulseByState = [] := by
      have hstays : s.clock.noteAccepted.pulseByState.state = .locked := by
        rw [hk]; split <;> exact hks
      rw [pulseReports_eq he (step := False) (iff_of_false hwill id), hks, hstays]
      rfl
    rw [hk] at hrs
    obtain ⟨t, hexec, harb, hframe⟩ := pulse_ends_silent ht hs hpend hk hrs
    rw [hn] at hframe
    exact ⟨t, hexec, harb, hframe⟩
  · have hkt : s.clock.noteAccepted.t = s.clock.captured := by rw [noteAccepted_eq]
    have he : phaseError s.clock.noteAccepted.t = e := by
      rw [hkt]; exact phaseError_of hlow hhigh hsec
    have hks : s.clock.noteAccepted.state = s.clock.state := rfl
    have hwill : s.clock.noteAccepted.willStep = true ↔ 1000 < e.natAbs := by
      have hout : s.clock.noteAccepted.outlierRun = s.clock.outlierRun := rfl
      simp only [Clock.willStep, he, hks, hout]
      rcases hcase with h | h | ⟨h, hbig, hrun⟩
      · simp [h]
      · simp [h]
      · simp [h, hrun]
    have hk := pulseByState_relocks he hcase
    have hlocking : (s.clock.noteAccepted.relocking.lockingPulse e).state = .locking :=
      lockingPulse_state rfl rfl
    obtain ⟨t, hexec, harb, hframe, hrep⟩ := pulse_ends ht hs hpend hk (pulseReports_eq he hwill)
    obtain ⟨u, hexecu, -, hframeu, -⟩ := pulse_ends (s := { s with clock := s.clock.relocking })
      (k := s.clock.noteAccepted.relocking.lockingPulse e) ht hs hpend
      (pulseByState_locking rfl he) rfl
    have hclock : u.clock = s.clock.noteAccepted.relocking.lockingPulse e := by rw [hframeu]
    have hclockt : t.clock = s.clock.noteAccepted.relocking.lockingPulse e := by rw [hframe]
    have hmoved : s.clock.state ≠ .locking := by
      rcases hcase with h | h | ⟨h, -, -⟩ <;> simp [h]
    have hcause : pulseCause s.clock.state =
        if s.clock.state = .locked then .outliers else .pulseResumed := by
      rcases hcase with h | h | ⟨h, -, -⟩ <;> simp [h, pulseCause]
    rw [hlocking, hks, hkt, if_pos hmoved, hcause, ← hclock] at hrep
    rw [← hclock] at hframe
    rw [hclock, ← hclockt] at hrep
    exact ⟨t, u, hexec, hexecu, hframe, harb, hclock.trans hclockt.symm ▸ hrep⟩
  · have hk : s.clock.noteAccepted.pulseByState = s.clock.noteAccepted := pulseByState_unset hunset
    have hwill : ¬s.clock.noteAccepted.willStep = true := by
      have hks : s.clock.noteAccepted.state = .unset := hunset
      simp [Clock.willStep, hks]
    have hrs : pulseReports s.clock.noteAccepted s.clock.noteAccepted = [] := by
      rw [pulseReports_eq rfl (step := False) (iff_of_false hwill id)]
      simp
    obtain ⟨t, hexec, harb, hframe⟩ := pulse_ends_silent ht hs hpend hk hrs
    rw [noteAccepted_eq] at hframe
    exact ⟨t, hexec, harb, hframe⟩

theorem applySet_eq (k : Clock) (seconds : Nat) : k.applySet seconds =
    { k with t := BitVec.ofNat 48 (seconds * 1000000), state := .locking, lockRun := 0
             outlierRun := 0, c := k.f, pendingSet := none, holdoverStart := none
             pulseWatch := some k.m, lastReplaced := some ⟨k.m, false⟩ } := by
  unfold Clock.applySet
  generalize BitVec.ofNat 48 (seconds * 1000000) = instant
  rfl

/-- Settles O17: the set's instant replaces T behind the new period. -/
theorem pendingSetIsAppliedAtPulse : Obligations.PendingSetIsAppliedAtPulse := by
  intro p s ht hs hp
  have happly := applySet_eq s.clock.noteAccepted p.seconds
  have hn := noteAccepted_eq s.clock
  generalize BitVec.ofNat 48 (p.seconds * 1000000) = instant at happly ⊢
  intro k
  have hk : s.clock.noteAccepted.applySet p.seconds = k := by
    rw [happly, hn]
  have hrs : setReports s.clock.noteAccepted k =
      (if s.clock.state = .locking then []
        else [.timeState s.clock.state .locking .setApplied s.clock.f s.clock.f none]) ++
        [.timeStepped .setApplied s.clock.captured none] := by
    rw [setReports, ite_not, hn]
  rw [exec_hallPulse_accepted ht hs, acceptPulse_of_some hp, hk, hrs]
  obtain ⟨t, hexec, harb, hframe, hrep⟩ := clock_ends
    ((if s.clock.state = .locking then []
        else [.timeState s.clock.state .locking .setApplied s.clock.f s.clock.f none]) ++
        [.timeStepped .setApplied s.clock.captured none]) s k
  exact ⟨t, hexec, hframe, harb, hrep⟩

/-! ### The clock's own events (R50, R58 to R60, R63) -/

theorem finish_raise (r : Report) (u : State) :
    ∃ t, finish (raise r u) = .next t ∧ Arbitrated u.transit t ∧
      t = { u with staging := t.staging, writer := t.writer, transit := t.transit } ∧
      Reported [r] u t :=
  finish_raiseAll [r] u

theorem adjustmentDue_of {k : Clock} (h0 : k.c ≠ 0) (hfew : k.adjustments < k.c.natAbs)
    (hdue : (k.adjustments + 1) * (1000000 / k.c.natAbs) ≤ (k.m - k.periodStart).toNat) :
    k.adjustmentDue = true := by
  simp only [Clock.adjustmentDue, h0, hfew, ne_eq, not_false_eq_true, decide_true, Bool.true_and]
  exact decide_eq_true hdue

theorem enterHoldover_eq (k : Clock) : k.enterHoldover =
    { k with t := k.captured, periodStart := k.m, adjustments := 0, state := .holdover, c := k.f
             holdoverStart := some ⟨k.m, false⟩, pulseWatch := none } := by
  rw [Clock.enterHoldover, beginPeriod_eq]
  rfl

theorem steering_iff (k : Clock) : k.steering = true ↔ k.state = .locking ∨ k.state = .locked := by
  simp [Clock.steering]

/-- HOLDOVER entered from `u`, whose traffic and records are those of an event's begin. -/
theorem enterHoldover_ends (cause : TimeCause) (u : State) :
    ∃ t, finish (enterHoldover cause u) = .next t ∧ Arbitrated u.transit t ∧
      t = { u with clock := u.clock.enterHoldover, staging := t.staging, writer := t.writer
                   transit := t.transit } ∧
      Reported [.timeState u.clock.state .holdover cause u.clock.enterHoldover.f
        u.clock.enterHoldover.c none] { u with clock := u.clock.enterHoldover } t :=
  finish_raise _ (u.setClock u.clock.enterHoldover)

/-- A link loss untrusts, and SILENT where a port has the role TIME_SOURCE (R59). -/
def State.untrusts (s : State) : ClockNotice → Bool
  | .linkLoss _ => true
  | .silent => s.hasTimeSource
  | .linkReturn _ => false
  | .silentEnded => false

theorem takeClockNotice_eq (x : ClockNotice) (s : State) : takeClockNotice x s =
    if s.untrusts x && s.clock.steering then enterHoldover .sourceLost s else s := by
  unfold takeClockNotice State.untrusts
  cases x <;> rfl

theorem exec_clockSourceNotice {x : ClockNotice} {rest : List ClockNotice} {s : State}
    (h : s.mail.clock = x :: rest) : exec .clockSourceNotice s =
      finish (takeClockNotice x (s.setMail { s.mail with clock := rest })) := by
  change finish (clockNoticeEvent s) = _
  simp only [clockNoticeEvent, h]

/-- Settles O18: each event of the clock where it is due. -/
theorem clockTimersAndNotices : Obligations.ClockTimersAndNotices := by
  refine ⟨fun s => ⟨fun h0 hfew hdue => ?_, fun hst hdue => ?_⟩, fun s => ?_⟩
  · change Host.Outcome.next (if s.clock.adjustmentDue then _ else s) = _
    rw [if_pos (adjustmentDue_of h0 hfew hdue)]
    rfl
  · have hper : s.clock.periodDue = true := by
      simp only [Clock.periodDue, Bool.and_eq_true, Bool.or_eq_true, decide_eq_true_eq]
      exact ⟨hst, decide_eq_true hdue⟩
    change Host.Outcome.next (if s.clock.periodDue then s.setClock s.clock.beginPeriod else s) = _
    rw [if_pos hper, beginPeriod_eq]
    rfl
  · intro k
    have hk : s.clock.enterHoldover = k := enterHoldover_eq s.clock
    refine ⟨fun w hst hw hdue => ?_, fun x rest hst hx hcase => ?_, fun x rest hx hcase => ?_,
      fun h hst hh _ hdue => ?_, fun p hp hdue => ?_⟩
    · have hwatch : s.clock.watchDue = true := by
        simp only [Clock.watchDue, hw, Bool.and_eq_true, steering_iff]
        exact ⟨hst, decide_eq_true hdue⟩
      have hexec : exec .pulseWatchExpiry s = finish (enterHoldover .pulseMissing s) := by
        change finish (pulseWatchEvent s) = _
        rw [pulseWatchEvent, if_pos hwatch]
      rw [hexec, ← hk]
      exact enterHoldover_ends .pulseMissing s
    · have hun : (s.setMail { s.mail with clock := rest }).untrusts x = true := by
        rcases hcase with ⟨p, rfl⟩ | ⟨rfl, hp⟩
        · rfl
        · exact (hasTimeSource_iff s).2 hp
      have hsteer : s.clock.steering = true := (steering_iff _).2 hst
      rw [exec_clockSourceNotice hx, takeClockNotice_eq,
        if_pos (by simp only [hun, State.setMail_clock, hsteer, Bool.and_self]), ← hk]
      obtain ⟨t, hexec, harb, hframe, hrep⟩ :=
        enterHoldover_ends .sourceLost (s.setMail { s.mail with clock := rest })
      exact ⟨t, hexec, harb, hframe, hrep.congr rfl rfl rfl rfl⟩
    · have hnot : ((s.setMail { s.mail with clock := rest }).untrusts x &&
          (s.setMail { s.mail with clock := rest }).clock.steering) = false := by
        rw [Bool.and_eq_false_iff]
        rcases hcase with hst | ⟨p, rfl⟩ | rfl | ⟨rfl, hp⟩
        · refine .inr (Bool.eq_false_iff.2 fun h => ?_)
          rw [State.setMail_clock, steering_iff] at h
          rcases h with h | h <;> simp [h] at hst
        · exact .inl rfl
        · exact .inl rfl
        · refine .inl (Bool.eq_false_iff.2 fun h => ?_)
          obtain ⟨p, hrole⟩ := (hasTimeSource_iff s).1 h
          exact hp p hrole
      rw [exec_clockSourceNotice hx, takeClockNotice_eq, hnot]
      exact finish_ends _
    · have hlim : s.clock.limitDue = true := by
        simp only [Clock.limitDue, hst, hh, decide_true, Bool.true_and, decide_eq_true_eq]
        rcases hdue with hpast | hlong
        · rw [Moment.age, if_pos hpast]
          omega
        · unfold Moment.age
          split
          · omega
          · exact hlong
      have hexec : exec .holdoverLimit s =
          finish (raise (.timeState .holdover .drifting .holdoverLimit s.clock.f s.clock.c none)
            (s.setClock { s.clock with state := .drifting })) := by
        change finish (holdoverLimitEvent s) = _
        rw [holdoverLimitEvent, if_pos hlim]
      rw [hexec]
      exact finish_raise _ _
    · have hexec : exec .timeSetLapsed s =
          finish (raise (.timeSetLapsed p.seconds)
            (s.setClock { s.clock with pendingSet := none })) := by
        change finish (setLapsedEvent s) = _
        simp only [setLapsedEvent, hp]
        exact congrArg finish (if_pos (decide_eq_true hdue))
      rw [hexec]
      obtain ⟨t, hexec, harb, hframe, hrep⟩ := finish_raise (.timeSetLapsed p.seconds)
        (s.setClock { s.clock with pendingSet := none })
      have hstamp : Clock.stamp { s.clock with pendingSet := none } = s.clock.stamp := rfl
      exact ⟨t, hexec, harb, hframe, hrep.of_setClock hstamp⟩

/-! ### Queries and the results' data (R160) -/

/-- A page names data where the laid-out fields reach it. -/
theorem queryReply_named {s : State} {n : Slot} {fs : List Field}
    (h : (layWords fs).drop (14 * s.page n) ≠ []) : queryReply s n fs =
      { state := s, code := .done, data := some (padTo 14 ((layWords fs).drop (14 * s.page n))) } := by
  unfold queryReply pageOf
  cases hd : (layWords fs).drop (14 * s.page n) with
  | nil => exact absurd hd h
  | cons w ws => rfl

theorem queryReply_unnamed {s : State} {n : Slot} {fs : List Field}
    (h : (layWords fs).drop (14 * s.page n) = []) : queryReply s n fs = refuse s .refusedParam := by
  unfold queryReply pageOf
  rw [h]

theorem beginIssue_page (n : Slot) (word : Word) (s : State) :
    (beginIssue n word s).page n = pageField word := by
  simp [State.page, beginIssue]

/-- A command that answers and changes no block. -/
theorem answered_ends {n : Slot} {w : Word} {run : State → Reply} {s : State} (h : s.takes n)
    {code : ResultCode} {data : Option (List Word)}
    (hq : run (beginIssue n w s) = { state := beginIssue n w s, code := code, data := data }) :
    ∃ t, finish (issueCommand n w run s) = .next t ∧ Arbitrated s.transit t ∧
      t = { s with slots := t.slots, staging := t.staging, writer := t.writer
                   transit := t.transit } ∧ Answered n w [] code data s t := by
  obtain ⟨t, hexec, hframe, hans, harb⟩ := command_ends h hq [] ⟨rfl, rfl⟩
  exact ⟨t, hexec, harb, hframe, hans⟩

theorem layWords_length (fs : List Field) : (layWords fs).length = (layEnd 0 fs + 31) / 32 := by
  simp [layWords]

theorem sinceField_word (now : Micros) (o : Option Moment) : ∃ w, sinceField now o = .word w := by
  cases o <;> exact ⟨_, rfl⟩

theorem timeFields_words (k : Clock) : (layWords (timeFields k)).length = 16 := by
  obtain ⟨w, hw⟩ := sinceField_word k.m k.lastAccepted
  simp [layWords_length, timeFields, hw, layEnd, Field.placeFrom, Field.start, Field.bits, byteOf,
    halfOf, wordFld, flagFld, intHalf, intWord, wordOpt]

/-! ### TIME_SET and TIME_QUERY (R61, R64) -/

theorem runTimeSet_safe {n : Slot} {s : State} (h : s.loader.condition = .safe) :
    runTimeSet n s = refuse s .refusedState := by
  simp [runTimeSet, State.isSafe, h]

theorem runTimeSet_above {n : Slot} {s : State} (h : s.loader.condition ≠ .safe)
    (hs : 281474975 < s.paramWord n 0) : runTimeSet n s = refuse s .refusedParam := by
  simp [runTimeSet, State.isSafe, h, maxSetSeconds, hs]

theorem runTimeSet_sets {n : Slot} {s : State} (h : s.loader.condition ≠ .safe)
    (hs : s.paramWord n 0 ≤ 281474975) : runTimeSet n s =
      { state := s.setClock { s.clock with
          pendingSet := some { seconds := s.paramWord n 0, start := s.clock.m } }
        code := .done
        data := pageOne [wordFld (s.paramWord n 0),
          wordOpt (s.clock.pendingSet.map PendingSet.seconds)] } := by
  simp [runTimeSet, State.isSafe, h, maxSetSeconds, Nat.not_lt.2 hs, State.now]

/-- Settles O19: by the checks of TIME_SET, and by whether the page reaches the 16 words of the
clock's fields. -/
theorem timeSetPendsAndTimeQueryReads : Obligations.TimeSetPendsAndTimeQueryReads := by
  intro n rest s htakes
  refine ⟨?_, fun hpage => ?_, fun hpage => ?_⟩
  · have hparam := beginIssue_paramWord n (opcodeWord 0x20 rest) 0 s
    by_cases hsafe : s.loader.condition = .safe
    · obtain ⟨t, hexec, harb, hframe, hans⟩ :=
        refused_ends (w := opcodeWord 0x20 rest) htakes (runTimeSet_safe (n := n) hsafe)
      have hclock : t.clock = s.clock := by rw [hframe]
      refine ⟨t, _, _, hexec, harb, ?_, hans, fun _ => ⟨rfl, rfl, hclock⟩,
        fun h => absurd hsafe h, fun h => absurd hsafe h⟩
      rw [hclock]
      exact hframe
    · by_cases habove : 281474975 < s.paramWord n 0
      · obtain ⟨t, hexec, harb, hframe, hans⟩ := refused_ends (w := opcodeWord 0x20 rest) htakes
          (runTimeSet_above (n := n) hsafe (by rw [hparam]; exact habove))
        have hclock : t.clock = s.clock := by rw [hframe]
        refine ⟨t, _, _, hexec, harb, ?_, hans, fun h => absurd h hsafe,
          fun _ _ => ⟨rfl, rfl, hclock⟩, fun _ h => absurd habove (Nat.not_lt.2 h)⟩
        rw [hclock]
        exact hframe
      · have hq := runTimeSet_sets (n := n) (s := beginIssue n (opcodeWord 0x20 rest) s) hsafe
          (by rw [hparam]; exact Nat.not_lt.1 habove)
        rw [hparam] at hq
        obtain ⟨t, hexec, hframe, hans, harb⟩ := command_ends htakes hq [] ⟨rfl, rfl⟩
        have hclock : t.clock = { s.clock with
            pendingSet := some { seconds := s.paramWord n 0, start := s.clock.m } } := by
          rw [hframe]
          rfl
        refine ⟨t, _, _, hexec, harb, ?_, hans, fun h => absurd h hsafe,
          fun _ h => absurd h habove, fun _ _ => ⟨rfl, rfl, hclock⟩⟩
        rw [hclock]
        exact hframe
  · have hnamed : (layWords (timeFields s.clock)).drop (14 * pageField (opcodeWord 0x21 rest)) ≠ [] := by
      rw [Ne, List.drop_eq_nil_iff, timeFields_words]
      omega
    have hq : runTimeQuery n (beginIssue n (opcodeWord 0x21 rest) s) = _ :=
      queryReply_named (fs := timeFields s.clock) (by rw [beginIssue_page]; exact hnamed)
    rw [beginIssue_page] at hq
    obtain ⟨t, hexec, harb, hframe, hans⟩ := answered_ends htakes hq
    exact ⟨t, _, hexec, harb, hframe, hans, rfl, hnamed⟩
  · have hunnamed : (layWords (timeFields s.clock)).drop (14 * pageField (opcodeWord 0x21 rest)) = [] := by
      rw [List.drop_eq_nil_iff, timeFields_words]
      omega
    exact refused_ends htakes (queryReply_unnamed (fs := timeFields s.clock)
      (by rw [beginIssue_page]; exact hunnamed))

end Sys2Proof.Machine

namespace Sys2Proof.Machine

/-! ### A step (log 1) -/

/-- Settles O1: by the queue's front. -/
theorem stepRunsFrontCommand : Obligations.StepRunsFrontCommand := fun _ _ _ => rfl

theorem step_of_idle {s : State} (hp : s.pending = []) (hdue : dueEvents s = []) :
    step s = .next (tick s) := by
  simp only [step, hp, idle, hdue]

/-- T at the next microsecond: it stands where the microsecond is withheld (R50). -/
theorem tick_t (k : Clock) : k.tick.t =
    if k.c < 0 ∧ k.adjustments < k.c.natAbs ∧
      (k.adjustments + 1) * (1000000 / k.c.natAbs) ≤ (k.m + 1 - k.periodStart).toNat
    then k.t else k.t + 1 :=
  if_congr (withholds_iff (k.passMoments (k.m + 1))) rfl rfl

theorem tick_eq (k : Clock) : k.tick = { k with
    m := k.m + 1, t := k.tick.t
    lastAccepted := k.lastAccepted.map (Moment.pass (k.m + 1))
    holdoverStart := k.holdoverStart.map (Moment.pass (k.m + 1))
    lastReplaced := k.lastReplaced.map (Moment.pass (k.m + 1)) } := rfl

/-- Settles O2: the microsecond of the clock, and the moments it is marked past at. -/
theorem idleStepTicks : Obligations.IdleStepTicks := by
  intro s hp hdue now
  rw [step_of_idle hp hdue, tick, tick_eq, tick_t]

/-! ### The ring's table (R164) -/

theorem raise_of_normal {r : Report} {s : State} (h : s.writer.losing = false) :
    raise r s = takeNormal r s := by
  simp [raise, h]

theorem takeNormal_places {r : Report} {s : State} (hq : s.staging.length < 8)
    (hfree : 2 ≤ freeSlots s.map.ringCapacity s.writer) : takeNormal r s = placeRecord r s := by
  simp [takeNormal, stagingMax, Nat.not_le.2 hq, hfree]

theorem takeNormal_marks {r : Report} {s : State} (hq : s.staging.length < 8)
    (hfree : freeSlots s.map.ringCapacity s.writer = 1) :
    takeNormal r s = beginLosing (placeRecord .overrun s) := by
  simp [takeNormal, stagingMax, Nat.not_le.2 hq, hfree]

theorem takeNormal_loses {r : Report} {s : State}
    (h : 8 ≤ s.staging.length ∨ freeSlots s.map.ringCapacity s.writer = 0) :
    takeNormal r s = beginLosing s := by
  rcases h with hq | hfree
  · exact if_pos hq
  · simp [takeNormal, hfree]

theorem raise_of_resumed {r : Report} {s : State} (h : s.writer.losing = true)
    (hfree : 2 ≤ freeSlots s.map.ringCapacity s.writer) (hq : s.staging.length ≤ 6) :
    raise r s = raise r (resumeWriter s) := by
  have hnormal : (resumeWriter s).writer.losing = false := rfl
  rw [raise_of_normal hnormal, raise, if_pos h]
  exact if_pos ⟨hfree, Nat.add_le_add_right hq 2⟩

theorem raise_of_losing {r : Report} {s : State} (h : s.writer.losing = true)
    (hnot : ¬(2 ≤ freeSlots s.map.ringCapacity s.writer ∧ s.staging.length ≤ 6)) :
    raise r s = loseRecord s := by
  rw [raise, if_pos h]
  exact if_neg fun ⟨hfree, hq⟩ => hnot ⟨hfree, Nat.le_of_add_le_add_right hq⟩

theorem exec_takeIndexWrite (v : Word) (s : State) : exec (.takeIndexWrite v) s =
    finish (s.setWriter
      (if s.loader.condition ≠ .loading ∧ v.toNat < s.map.ringCapacity then
        { s.writer with take := v.toNat } else s.writer)) := by
  change finish (if s.isLoading then s else takeIndexValue v s) = _
  by_cases hload : s.loader.condition = .loading
  · simp [State.isLoading, hload, State.setWriter]
  · by_cases hv : v.toNat < s.map.ringCapacity
    · simp [State.isLoading, hload, takeIndexValue, hv]
    · simp [State.isLoading, hload, takeIndexValue, hv, State.setWriter]

/-- Settles O49: one row of R164's table after the other, and the take index. -/
theorem reportsAreTakenByTheRingTable : Obligations.ReportsAreTakenByTheRingTable := by
  intro r s n free begin_ placed
  refine ⟨fun h hq hfree => ?_, fun h hq hfree => ?_, fun h hfull => ?_, fun h hfree hq => ?_,
    fun h hnot => ?_, fun v => ?_⟩
  · rw [raise_of_normal h, takeNormal_places hq hfree]
    rfl
  · rw [raise_of_normal h, takeNormal_marks hq hfree]
    rfl
  · rw [raise_of_normal h, takeNormal_loses hfull]
    rfl
  · rw [raise_of_resumed h hfree hq]
    rfl
  · rw [raise_of_losing h hnot]
    rfl
  · rw [exec_takeIndexWrite]
    exact finish_ends _

/-! ### The output lines (R84, R144, R163, R165) -/

theorem PerRobot.any_iff {α : Type} (t : PerRobot α) (f : α → Bool) :
    t.toList.any f = true ↔ ∃ r, f (t.get r) = true := by
  constructor
  · intro h
    simp only [PerRobot.toList, List.any_cons, List.any_nil, Bool.or_false, Bool.or_eq_true] at h
    rcases h with h | h | h | h | h | h
    exacts [⟨.r1, h⟩, ⟨.r2, h⟩, ⟨.r3, h⟩, ⟨.r4, h⟩, ⟨.r5, h⟩, ⟨.r6, h⟩]
  · rintro ⟨r, h⟩
    simp only [PerRobot.toList, List.any_cons, List.any_nil, Bool.or_false, Bool.or_eq_true]
    cases r <;> simp only [PerRobot.get] at h <;> simp only [h, true_or, or_true]

theorem active_iff (st : RobotState) : st.active = true ↔ st ∈ [.ready, .ordered, .filling] := by
  cases st <;> decide

theorem alarming_iff (st : RobotState) : st.alarming = true ↔ st ∈ [.faulted, .silent] := by
  cases st <;> decide

/-- Records are visible exactly where written and take differ (R163). -/
theorem visible_pos_iff {n : Nat} {w : Writer} (hw : w.written < n) (ht : w.take < n) :
    0 < visible n w ↔ w.written ≠ w.take := by
  unfold visible
  rw [Nat.mod_eq_of_lt ht]
  by_cases hle : w.take ≤ w.written
  · rw [show w.written + n - w.take = w.written - w.take + n by omega, Nat.add_mod_right,
      Nat.mod_eq_of_lt (by omega)]
    omega
  · rw [Nat.mod_eq_of_lt (by omega)]
    omega

theorem alarmLine_iff (s : State) : alarmLine s = true ↔
    (∃ r, (s.robots.table.get r).state ∈ [.faulted, .silent]) ∨ s.keepalive.state = .lapsed ∨
      s.robots.lapsed = true ∨ s.clock.state = .drifting ∨ s.switch.state = .silent ∨
      s.loader.condition = .safe := by
  simp only [alarmLine, Bool.or_eq_true, PerRobot.any_iff, alarming_iff, decide_eq_true_eq,
    State.isSafe, or_assoc]

/-- Settles O54: each line by its definition. -/
theorem outputLinesFollowTheState : Obligations.OutputLinesFollowTheState := by
  refine fun s => ⟨fun r => ?_, Iff.rfl, fun hinv hgate => ?_, fun hw ht => ?_, alarmLine_iff s⟩
  · rw [permitLine, Bool.and_eq_true, decide_eq_true_eq, active_iff, and_comm]
    rfl
  · have hrun : s.tracker.running = true := by
      by_contra hstop
      have hidle := (hinv.stopped (Bool.eq_false_iff.2 hstop)).2
      exact Bool.false_ne_true (hidle.symm.trans hgate)
    exact ⟨hrun, (hinv.condition hrun).1⟩
  · rw [attnLine, decide_eq_true_eq]
    exact visible_pos_iff hw ht

end Sys2Proof.Machine

namespace Sys2Proof.Machine

/-! ### What an event does to one robot -/

theorem changeRobot_eq (r : Robot) (f : RobotChange → RobotChange) (s : State) : changeRobot r f s =
    { s with
      robots := { s.robots with table := s.robots.table.set r (f (s.robot r).begin).entry }
      mail := { s.mail with answers := s.mail.answers ++ (f (s.robot r).begin).answers }
      staging := (changeRobot r f s).staging, writer := (changeRobot r f s).writer } := by
  have hframe := changeRobot_only r f s
  have hrobots := changeRobot_robots r f s
  have hmail := changeRobot_mail r f s
  rw [← hrobots, ← hmail]
  exact hframe

/-- An event that changes robot r by `f`. -/
theorem changeRobot_ends {r : Robot} {f : RobotChange → RobotChange} {s : State} {c : RobotChange}
    (hc : f (s.robot r).begin = c) :
    ∃ t, finish (changeRobot r f s) = .next t ∧ Arbitrated s.transit t ∧
      t = { s with
        robots := { s.robots with table := s.robots.table.set r c.entry }
        mail := { s.mail with answers := s.mail.answers ++ c.answers }
        staging := t.staging, writer := t.writer, transit := t.transit } ∧
      Reported (c.notes.map (RobotNote.report r c.entry)) s t := by
  have heq := changeRobot_eq r f s
  have hrep := changeRobot_reported r f s
  rw [hc] at heq hrep
  refine ⟨arbitrate (changeRobot r f s), rfl, ?_, ?_, hrep⟩
  · rw [heq]; rfl
  · rw [arbitrate_frame, heq]

/-- The same for a change without an answer to the Service Window. -/
theorem changeRobot_ends_unanswered {r : Robot} {f : RobotChange → RobotChange} {s : State}
    {e' : RobotEntry} {notes : List RobotNote}
    (hc : f (s.robot r).begin = { entry := e', notes := notes, answers := [] }) :
    ∃ t, finish (changeRobot r f s) = .next t ∧ Arbitrated s.transit t ∧
      t = { s with
        robots := { s.robots with table := s.robots.table.set r e' }
        staging := t.staging, writer := t.writer, transit := t.transit } ∧
      Reported (notes.map (RobotNote.report r e')) s t := by
  obtain ⟨t, hexec, harb, hframe, hrep⟩ := changeRobot_ends hc
  refine ⟨t, hexec, harb, ?_, hrep⟩
  simp only [List.append_nil] at hframe
  exact hframe

/-- A change of state that takes no pending transfer (R82). -/
theorem enter_of_not_ready {c : RobotChange} {r : Robot} {now : Micros} {new : RobotState}
    {hold : Option HoldCause} {fault : Option FaultCause} {cause : RobotCause} (hnew : new ≠ .ready) :
    c.enter r now new hold fault cause =
      { entry := c.entry.entered now new hold fault
        notes := c.notes ++ [.moved c.entry.state new cause c.entry.faultCode c.entry.run
          (c.entry.order.map Order.tag)]
        answers := c.answers } := by
  simp [RobotChange.enter, RobotChange.settlePending, RobotChange.move, RobotChange.put,
    RobotChange.note, RobotEntry.moved, RobotEntry.entered, hnew]

theorem enter_of_unpended {c : RobotChange} {r : Robot} {now : Micros} {new : RobotState}
    {hold : Option HoldCause} {fault : Option FaultCause} {cause : RobotCause}
    (hp : c.entry.transferPending = false) :
    c.enter r now new hold fault cause =
      { entry := c.entry.entered now new hold fault
        notes := c.notes ++ [.moved c.entry.state new cause c.entry.faultCode c.entry.run
          (c.entry.order.map Order.tag)]
        answers := c.answers } := by
  simp [RobotChange.enter, RobotChange.settlePending, RobotChange.move, RobotChange.put,
    RobotChange.note, RobotEntry.moved, RobotEntry.entered, hp]

/-- An entry to READY at which a pending transfer is taken (R82 step 6, R102). -/
theorem enter_ready_of_pending {c : RobotChange} {r : Robot} {now : Micros}
    {hold : Option HoldCause} {fault : Option FaultCause} {cause : RobotCause}
    (hp : c.entry.transferPending = true) :
    c.enter r now .ready hold fault cause =
      { entry := { c.entry.entered now .ready hold fault with
          owner := .service, transferPending := false }
        notes := c.notes ++ [.moved c.entry.state .ready cause c.entry.faultCode c.entry.run
            (c.entry.order.map Order.tag),
          .moved .ready .ready .transfer c.entry.faultCode c.entry.run (c.entry.order.map Order.tag)]
        answers := c.answers ++ [.taken r] } := by
  simp [RobotChange.enter, RobotChange.settlePending, RobotChange.move, RobotChange.put,
    RobotChange.note, RobotEntry.moved, RobotEntry.entered, hp, RobotChange.takeTransfer,
    RobotState.working]

/-- The entry of a robot that leaves ORDERED and FILLING, but for its state and what comes with it. -/
def RobotEntry.gone (e : RobotEntry) : RobotEntry :=
  { e with fresh := true, fp := 0, fillRecord := none, pickupTimer := none, fillTimer := none }

theorem entered_silent (e : RobotEntry) (now : Micros) (hold : Option HoldCause)
    (fault : Option FaultCause) (h : e.state ≠ .faulted) : e.entered now .silent hold fault =
      { e.gone with state := .silent, heartbeatTimer := none } := by
  simp [RobotEntry.entered, RobotEntry.gone, RobotState.working, h]

theorem entered_faulted (e : RobotEntry) (now : Micros) (hold : Option HoldCause)
    (fault : Option FaultCause) : e.entered now .faulted hold fault =
      { e.gone with state := .faulted, hold := none, fault := fault, heartbeatTimer := none } := by
  simp [RobotEntry.entered, RobotEntry.gone, RobotState.working]

theorem entered_held (e : RobotEntry) (now : Micros) (hold : Option HoldCause)
    (fault : Option FaultCause) (h : e.state ≠ .faulted) : e.entered now .held hold fault =
      { e.gone with state := .held, hold := hold } := by
  simp [RobotEntry.entered, RobotEntry.gone, RobotState.working, h]

theorem entered_ready (e : RobotEntry) (now : Micros) (hold : Option HoldCause)
    (fault : Option FaultCause) (h : e.state ≠ .faulted) : e.entered now .ready hold fault =
      { e.gone with state := .ready, hold := none } := by
  simp [RobotEntry.entered, RobotEntry.gone, RobotState.working, h]

theorem entered_starting (e : RobotEntry) (now : Micros) (hold : Option HoldCause)
    (fault : Option FaultCause) : e.entered now .starting hold fault =
      { e.gone with
        state := .starting, fault := if e.state = .faulted then none else e.fault
        heartbeatTimer := some now } := by
  simp [RobotEntry.entered, RobotEntry.gone, RobotState.working]

/-- A change of state of robot r alone. -/
theorem enter_ends {r : Robot} {new : RobotState} {hold : Option HoldCause}
    {fault : Option FaultCause} {cause : RobotCause} {s : State} {e' : RobotEntry}
    (hnew : new ≠ .ready) (he : (s.robot r).entered s.clock.m new hold fault = e') :
    ∃ t, finish (enter r new hold fault cause s) = .next t ∧ Arbitrated s.transit t ∧
      t = { s with
        robots := { s.robots with table := s.robots.table.set r e' }
        staging := t.staging, writer := t.writer, transit := t.transit } ∧
      Reported [.robotState r (s.robot r).state new cause e'.owner e'.hold e'.fault
        (s.robot r).faultCode (s.robot r).run ((s.robot r).order.map Order.tag)] s t := by
  subst he
  exact changeRobot_ends_unanswered (enter_of_not_ready hnew)

/-! ### The timeouts (R90 to R92) -/

theorem heartbeatRuns_of {st : RobotState} (h : st ∉ [.offline, .silent, .faulted]) :
    st.heartbeatRuns = true := by
  cases st <;> simp_all [RobotState.heartbeatRuns]

theorem timerDue_of {now h : Micros} {timer : Option Micros} {d : Nat} (ht : timer = some h)
    (hd : d ≤ (now - h).toNat) : timerDue now timer d = true := by
  rw [ht]
  exact decide_eq_true hd

/-- Settles O23: each timeout is one change of state. -/
theorem robotTimersExpire : Obligations.RobotTimersExpire := by
  intro r h s e gone moves
  refine ⟨fun hst ht hd => ?_, fun hst ht hd => ?_, fun hst ht hd => ?_⟩
  · have hdue : heartbeatDue s r = true := by
      rw [heartbeatDue, Bool.and_eq_true]
      exact ⟨heartbeatRuns_of hst, timerDue_of ht hd⟩
    have hexec : exec (.heartbeatTimeout r) s = finish (enter r .silent none none .heartbeatLost s) := by
      change finish (heartbeatTimeoutEvent r s) = _
      rw [heartbeatTimeoutEvent, if_pos hdue]
    have hnot : (s.robot r).state ≠ .faulted := fun hf => hst (by rw [show e.state = .faulted from hf]; simp)
    change ∃ t, exec (.heartbeatTimeout r) s = .next t ∧ _
    rw [hexec]
    exact enter_ends nofun (entered_silent _ _ _ _ hnot)
  · have hdue : pickupDue s r = true := by
      rw [pickupDue, Bool.and_eq_true]
      exact ⟨decide_eq_true hst, timerDue_of ht hd⟩
    have hexec : exec (.pickupTimeout r) s =
        finish (enter r .faulted none (some .noPickup) .noPickup s) := by
      change finish (pickupTimeoutEvent r s) = _
      rw [pickupTimeoutEvent, if_pos hdue]
    change ∃ t, exec (.pickupTimeout r) s = .next t ∧ _
    rw [hexec]
    exact enter_ends nofun (entered_faulted _ _ _ _)
  · have hdue : fillDue s r = true := by
      rw [fillDue, Bool.and_eq_true]
      exact ⟨decide_eq_true hst, timerDue_of ht hd⟩
    have hexec : exec (.fillTimeout r) s =
        finish (enter r .faulted none (some .fillOvertime) .fillOvertime s) := by
      change finish (fillTimeoutEvent r s) = _
      rw [fillTimeoutEvent, if_pos hdue]
    change ∃ t, exec (.fillTimeout r) s = .next t ∧ _
    rw [hexec]
    exact enter_ends nofun (entered_faulted _ _ _ _)

/-! ### Notices for every robot concerned (R93, R96) -/

theorem Reported.trans {rs qs : List Report} {s u t : State} (h : Reported rs s u)
    (g : Reported qs u t) (hc : u.clock = s.clock) (hm : u.map = s.map) :
    Reported (rs ++ qs) s t := by
  have hall : raiseAll (rs ++ qs) s = raiseAll qs (raiseAll rs s) := List.foldl_append
  obtain ⟨hstaging, hwriter⟩ := raiseAll_congr qs (raiseAll rs s) u (by rw [raiseAll_clock, hc])
    (by rw [raiseAll_map, hm]) h.1 h.2
  rw [Reported, hall]
  exact ⟨g.1.trans hstaging, g.2.trans hwriter⟩

/-- The ROBOT_STATE report of robot r in `s` whose entry becomes `e'`. -/
def State.movedReport (s : State) (r : Robot) (e' : RobotEntry) (new : RobotState)
    (cause : RobotCause) : Report :=
  .robotState r (s.robot r).state new cause e'.owner e'.hold e'.fault (s.robot r).faultCode
    (s.robot r).run ((s.robot r).order.map Order.tag)

/-- From `s` to `t` the robots of `l` that `hit` names entered `new`, one after the other. -/
structure RobotsMoved (l : List Robot) (hit : Robot → Bool) (new : RobotState)
    (hold : Option HoldCause) (cause : RobotCause) (s t : State) : Prop where
  frame : t = { s with
    robots := { s.robots with table := t.robots.table }, staging := t.staging, writer := t.writer }
  hits : ∀ r, t.robots.table.get r =
    if r ∈ l ∧ hit r = true then (s.robot r).entered s.clock.m new hold none else s.robot r
  reports : Reported ((l.filter hit).map fun r =>
    s.movedReport r ((s.robot r).entered s.clock.m new hold none) new cause) s t

theorem enter_moved {r : Robot} {new : RobotState} {hold : Option HoldCause} {cause : RobotCause}
    {s : State} (hnew : new ≠ .ready) :
    RobotsMoved [r] (fun _ => true) new hold cause s (enter r new hold none cause s) := by
  have hc := enter_of_not_ready (c := (s.robot r).begin) (r := r) (now := s.now) (hold := hold)
    (fault := none) (cause := cause) hnew
  have heq := changeRobot_eq r (RobotChange.enter r s.now new hold none cause) s
  have hrep := changeRobot_reported r (RobotChange.enter r s.now new hold none cause) s
  rw [hc] at heq hrep
  have hframe : enter r new hold none cause s = { s with
      robots := { s.robots with
        table := s.robots.table.set r ((s.robot r).entered s.clock.m new hold none) }
      staging := (enter r new hold none cause s).staging
      writer := (enter r new hold none cause s).writer } := by
    refine heq.trans ?_
    simp only [RobotEntry.begin, List.append_nil]
    rfl
  refine ⟨?_, fun q => ?_, hrep⟩
  · rw [hframe]
  · rw [hframe]
    by_cases hq : q = r
    · subst hq
      simp
    · simp [PerRobot.get_set_of_ne _ _ _ _ hq, hq, State.robot]

/-- A notice that asks each robot for itself moves those that it asks for. -/
theorem forRobots_moved {g : Robot → State → State} {hit : Robot → Bool} {new : RobotState}
    {hold : Option HoldCause} {cause : RobotCause} (hnew : new ≠ .ready) {l : List Robot}
    (hl : l.Nodup) {s : State}
    (hg : ∀ r ∈ l, ∀ u, u.robot r = s.robot r → u.robots.settings = s.robots.settings →
      g r u = if hit r = true then enter r new hold none cause u else u) :
    RobotsMoved l hit new hold cause s (l.foldl (fun u r => g r u) s) := by
  induction l generalizing s with
  | nil => exact ⟨rfl, fun r => by simp [State.robot], rfl, rfl⟩
  | cons r l ih =>
    obtain ⟨hr, hl⟩ := List.nodup_cons.1 hl
    have hnext := fun q (hq : q ∈ l) => hg q (List.mem_cons_of_mem r hq)
    rw [List.foldl_cons, hg r List.mem_cons_self s rfl rfl]
    by_cases hhit : hit r = true
    · rw [if_pos hhit]
      have hfirst := enter_moved (r := r) (hold := hold) (cause := cause) (s := s) hnew
      generalize enter r new hold none cause s = u at hfirst
      have hother {q : Robot} (hq : q ∈ l) : u.robot q = s.robot q := by
        have hqr : q ≠ r := fun h => hr (h ▸ hq)
        have hsame := hfirst.hits q
        rwa [if_neg (by simp [hqr])] at hsame
      have hclock : u.clock = s.clock := by rw [hfirst.frame]
      have hmap : u.map = s.map := by rw [hfirst.frame]
      have hsettings : u.robots.settings = s.robots.settings := by rw [hfirst.frame]
      have hrest := ih hl (s := u) fun q hq v hv hset =>
        hnext q hq v (hv.trans (hother hq)) (hset.trans hsettings)
      refine ⟨?_, fun q => ?_, ?_⟩
      · rw [hrest.frame, hfirst.frame]
      · rw [hrest.hits q, hclock]
        by_cases hq : q ∈ l
        · simp only [hq, hother hq, true_and, List.mem_cons, or_true]
        · have hfirstq := hfirst.hits q
          simp only [List.mem_singleton, and_true] at hfirstq
          by_cases hqr : q = r
          · subst hqr
            simpa [hq, hhit, State.robot] using hfirstq
          · simpa [hq, hqr, State.robot] using hfirstq
      · rw [List.filter_cons_of_pos hhit, List.map_cons, ← List.singleton_append]
        refine hfirst.reports.trans ?_ hclock hmap
        have hsame : (l.filter hit).map (fun q => s.movedReport q
            ((s.robot q).entered s.clock.m new hold none) new cause) =
            (l.filter hit).map fun q => u.movedReport q
              ((u.robot q).entered u.clock.m new hold none) new cause :=
          List.map_congr_left fun q hq => by
            simp only [State.movedReport, hother (List.mem_of_mem_filter hq), hclock]
        rw [hsame]
        exact hrest.reports
    · rw [if_neg hhit]
      have hrest := ih hl hnext
      refine ⟨hrest.frame, fun q => ?_, ?_⟩
      · rw [hrest.hits q]
        by_cases hqr : q = r
        · simp [hqr, hhit]
        · simp [hqr]
      · rw [List.filter_cons_of_neg hhit]
        exact hrest.reports

theorem heartbeatRuns_iff_contains (st : RobotState) :
    st.heartbeatRuns = !([.offline, .silent, .faulted].contains st) := by
  cases st <;> rfl

theorem active_iff_contains (st : RobotState) :
    st.active = [RobotState.ready, .ordered, .filling].contains st := by
  cases st <;> rfl

/-- The end of a notice that moved robots. -/
theorem moved_ends {hit : Robot → Bool} {new : RobotState} {hold : Option HoldCause}
    {cause : RobotCause} {s v : State} (h : RobotsMoved allRobots hit new hold cause s v)
    {f : RobotEntry → RobotEntry} (hf : ∀ r, hit r = true →
      (s.robot r).entered s.clock.m new hold none = f (s.robot r) ∧ (f (s.robot r)).state = new ∧
      (f (s.robot r)).owner = (s.robot r).owner ∧ (f (s.robot r)).fault = (s.robot r).fault) :
    ∃ t, finish v = .next t ∧ Arbitrated s.transit t ∧
      t = { s with robots := { s.robots with table := t.robots.table }
                   staging := t.staging, writer := t.writer, transit := t.transit } ∧
      (∀ r, t.robots.table.get r =
        if hit r = true then f (s.robots.table.get r) else s.robots.table.get r) ∧
      Reported ((allRobots.filter hit).map fun r =>
        .robotState r (s.robot r).state (f (s.robot r)).state cause (s.robot r).owner
          (f (s.robot r)).hold (s.robot r).fault (s.robot r).faultCode (s.robot r).run
          ((s.robot r).order.map Order.tag)) s t := by
  refine ⟨arbitrate v, rfl, ?_, ?_, fun r => ?_, ?_⟩
  · rw [h.frame]; rfl
  · rw [arbitrate_frame, h.frame]
  · have hmem : r ∈ allRobots := by cases r <;> decide
    change v.robots.table.get r = _
    rw [h.hits r]
    by_cases hhit : hit r = true
    · simp only [hmem, hhit, and_self, if_true, (hf r hhit).1]
      rfl
    · simp only [hhit, and_false, if_false, Bool.false_eq_true]
      rfl
  · have hsame : (allRobots.filter hit).map (fun r => s.movedReport r
        ((s.robot r).entered s.clock.m new hold none) new cause) =
        (allRobots.filter hit).map fun r =>
          .robotState r (s.robot r).state (f (s.robot r)).state cause (s.robot r).owner
            (f (s.robot r)).hold (s.robot r).fault (s.robot r).faultCode (s.robot r).run
            ((s.robot r).order.map Order.tag) :=
      List.map_congr_left fun r hr => by
        obtain ⟨he, hstate, howner, hfault⟩ := hf r (List.of_mem_filter hr)
        simp only [State.movedReport, he, hstate, howner, hfault]
    rw [← hsame]
    exact h.reports

/-- The end of a notice that moves no robot. -/
theorem quiet_ends {s v : State} {robots : RobotGuard} {mail : Mail}
    (hv : v = { s with robots := robots, mail := mail }) (ht : robots.table = s.robots.table) :
    ∃ t, finish v = .next t ∧ Arbitrated s.transit t ∧
      t = { s with robots := { robots with table := t.robots.table }, mail := mail
                   staging := t.staging, writer := t.writer, transit := t.transit } ∧
      (∀ r, t.robots.table.get r = s.robots.table.get r) ∧ Reported [] s t := by
  subst hv
  exact ⟨_, rfl, rfl, rfl, fun r => by rw [← ht]; rfl, rfl, rfl⟩

theorem not_faulted_of_not_mem {st : RobotState}
    (h : (!([RobotState.offline, .silent, .faulted].contains st)) = true) : st ≠ .faulted := by
  rintro rfl
  exact absurd h (by decide)

theorem not_faulted_of_active {st : RobotState}
    (h : [RobotState.ready, .ordered, .filling].contains st = true) : st ≠ .faulted := by
  rintro rfl
  exact absurd h (by decide)

/-- Settles O24: a loss and a lapse ask each robot for itself, in ascending order. -/
theorem noticesMoveEveryRobotConcerned : Obligations.NoticesMoveEveryRobotConcerned := by
  intro s gone silent held report moves
  refine ⟨fun p rest h => ?_, fun p rest h => ?_, fun rest h => ?_, fun rest h => ?_⟩
  · have hexec : exec .robotLinkNotice s =
        finish (forRobots (loseLink p) (s.setMail { s.mail with robotLink := rest })) := by
      change finish (linkNoticeEvent s) = _
      simp only [linkNoticeEvent, h]
    have hmoved := forRobots_moved (g := loseLink p) (new := .silent) (hold := none)
      (cause := .linkLost) (l := allRobots) (s := s.setMail { s.mail with robotLink := rest })
      (hit := fun r => decide (s.robots.settings.linkPort.get r = some p) &&
        !([.offline, .silent, .faulted].contains (s.robots.table.get r).state))
      nofun (by decide) fun r _ u hu hset => by
        have hset' : u.robots.settings = s.robots.settings := hset
        have hrobot : u.robot r = s.robots.table.get r := hu
        simp only [loseLink, hset', hrobot, heartbeatRuns_iff_contains, Bool.and_eq_true,
          decide_eq_true_eq]
    obtain ⟨t, ht, harb, hframe, hhits, hrep⟩ := moved_ends hmoved (f := silent) fun r hhit =>
      ⟨entered_silent _ _ _ _ (not_faulted_of_not_mem (Bool.and_eq_true_iff.1 hhit).2), rfl, rfl, rfl⟩
    exact ⟨t, hexec.trans ht, harb, hframe, hhits, hrep.congr rfl rfl rfl rfl⟩
  · have hexec : exec .robotLinkNotice s = finish (s.setMail { s.mail with robotLink := rest }) := by
      change finish (linkNoticeEvent s) = _
      simp only [linkNoticeEvent, h]
    change ∃ t, exec .robotLinkNotice s = .next t ∧ _
    rw [hexec]
    exact quiet_ends (robots := s.robots) rfl rfl
  · have hexec : exec .keepaliveNotice s = finish (forRobots holdForLapse
        ((s.setMail { s.mail with keepalive := rest }).setRobots { s.robots with lapsed := true })) := by
      change finish (keepaliveNoticeEvent s) = _
      simp only [keepaliveNoticeEvent, h]
      rfl
    have hmoved := forRobots_moved (g := holdForLapse) (new := .held) (hold := some .lineSilent)
      (cause := .keepalive) (l := allRobots)
      (s := (s.setMail { s.mail with keepalive := rest }).setRobots { s.robots with lapsed := true })
      (hit := fun r => decide ((s.robots.table.get r).owner = .line) &&
        [.ready, .ordered, .filling].contains (s.robots.table.get r).state)
      nofun (by decide) fun r _ u hu _ => by
        have hrobot : u.robot r = s.robots.table.get r := hu
        simp only [holdForLapse, hrobot, active_iff_contains, Bool.and_eq_true, decide_eq_true_eq]
    obtain ⟨t, ht, harb, hframe, hhits, hrep⟩ := moved_ends hmoved (f := held) fun r hhit =>
      ⟨entered_held _ _ _ _ (not_faulted_of_active (Bool.and_eq_true_iff.1 hhit).2), rfl, rfl, rfl⟩
    exact ⟨t, hexec.trans ht, harb, hframe, hhits, hrep.congr rfl rfl rfl rfl⟩
  · have hexec : exec .keepaliveNotice s = finish
        ((s.setMail { s.mail with keepalive := rest }).setRobots { s.robots with lapsed := false }) := by
      change finish (keepaliveNoticeEvent s) = _
      simp only [keepaliveNoticeEvent, h]
      rfl
    change ∃ t, exec .keepaliveNotice s = .next t ∧ _
    rw [hexec]
    exact quiet_ends (robots := { s.robots with lapsed := false }) rfl rfl

/-! ### Credits (R94) -/

theorem exec_fillerCredit_pass {r : Robot} {rest : List Credit} {s : State}
    (h : s.mail.credits = .pass r :: rest) : exec .fillerCredit s =
      finish (changeRobot r RobotChange.passCredit (s.setMail { s.mail with credits := rest })) := by
  change finish (creditEvent s) = _
  simp only [creditEvent, h]

theorem exec_fillerCredit_reject {r : Robot} {rest : List Credit} {s : State}
    (h : s.mail.credits = .reject r :: rest) : exec .fillerCredit s =
      finish (changeRobot r (RobotChange.rejectCredit r s)
        (s.setMail { s.mail with credits := rest })) := by
  change finish (creditEvent s) = _
  simp only [creditEvent, h]

/-- A reject credit of a LINE-owned robot: the run, then the hold test. -/
theorem rejectCredit_of_line {r : Robot} {s : State} {c : RobotChange} (h : c.entry.owner = .line) :
    c.rejectCredit r s =
      (c.put { c.entry with run := min (c.entry.run + 1) 15 }).holdTest r s := by
  simp only [RobotChange.rejectCredit, h]

theorem holdTest_of_below {r : Robot} {s : State} {c : RobotChange}
    (h : s.robots.limit = 0 ∨ c.entry.run < s.robots.limit) : c.holdTest r s = c := if_pos h

theorem holdTest_of_active {r : Robot} {s : State} {c : RobotChange}
    (h : ¬(s.robots.limit = 0 ∨ c.entry.run < s.robots.limit)) (ha : c.entry.state.active = true) :
    c.holdTest r s =
      { entry := { c.entry.gone with state := .held, hold := some .quarantine }
        notes := c.notes ++ [.other (.quarantine r c.entry.run s.robots.limit
            (c.entry.order.map Order.tag)),
          .moved c.entry.state .held .quarantine c.entry.faultCode c.entry.run
            (c.entry.order.map Order.tag)]
        answers := c.answers } := by
  have hnot : c.entry.state ≠ .faulted := fun hf => by simp [hf, RobotState.active] at ha
  simp only [RobotChange.holdTest, if_neg h, if_pos ha]
  rw [enter_of_not_ready (by decide), ← entered_held c.entry s.now _ none hnot]
  simp [RobotChange.note]

theorem holdTest_of_idle {r : Robot} {s : State} {c : RobotChange}
    (h : ¬(s.robots.limit = 0 ∨ c.entry.run < s.robots.limit)) (ha : c.entry.state.active = false) :
    c.holdTest r s =
      if (c.entry.state = .starting ∨ c.entry.state = .silent) ∧ c.entry.hold = none then
        { entry := { c.entry with hold := some .quarantine }
          notes := c.notes ++ [.other (.quarantine r c.entry.run s.robots.limit
            (c.entry.order.map Order.tag))]
          answers := c.answers }
      else c := by
  simp only [RobotChange.holdTest, if_neg h, ha, Bool.false_eq_true, if_false]
  rfl

/-- Settles O25: by the owner, then by the branches of the hold test. -/
theorem creditMovesQuarantineRun : Obligations.CreditMovesQuarantineRun := by
  intro r rest s e mail run quarantine becomes
  have hends {f : RobotChange → RobotChange} {e' : RobotEntry} {notes : List RobotNote}
      (hexec : exec .fillerCredit s = finish (changeRobot r f (s.setMail mail)))
      (hc : f e.begin = { entry := e', notes := notes, answers := [] }) :
      becomes e' (notes.map (RobotNote.report r e')) := by
    obtain ⟨t, ht, harb, hframe, hrep⟩ :=
      changeRobot_ends_unanswered (s := s.setMail mail) (r := r) hc
    exact ⟨t, hexec.trans ht, harb, hframe, hrep.congr rfl rfl rfl rfl⟩
  refine ⟨fun h howner => ?_, fun h howner => ?_, fun h howner => ?_⟩
  · rcases h with h | h
    · refine hends (notes := []) (exec_fillerCredit_pass h) ?_
      simp [RobotChange.passCredit, RobotEntry.begin, howner]
    · refine hends (notes := []) (exec_fillerCredit_reject h) ?_
      simp [RobotChange.rejectCredit, RobotEntry.begin, howner]
  · refine hends (notes := []) (exec_fillerCredit_pass h) ?_
    simp [RobotChange.passCredit, RobotEntry.begin, howner, RobotChange.put]
  · have hreject : RobotChange.rejectCredit r s e.begin =
        RobotChange.holdTest r s { entry := { e with run := run }, notes := [], answers := [] } :=
      rejectCredit_of_line howner
    by_cases hbelow : s.robots.limit = 0 ∨ run < s.robots.limit
    · rw [if_pos hbelow]
      exact hends (notes := []) (exec_fillerCredit_reject h)
        (hreject.trans (holdTest_of_below hbelow))
    · rw [if_neg hbelow]
      by_cases hactive : e.state ∈ [.ready, .ordered, .filling]
      · rw [if_pos hactive]
        have hheld := hends (exec_fillerCredit_reject h) (hreject.trans
          (holdTest_of_active hbelow ((active_iff _).2 hactive)))
        simp only [List.nil_append, List.map_cons, List.map_nil, RobotNote.report,
          RobotEntry.gone] at hheld
        rw [← howner]
        exact hheld
      · have hidle := hreject.trans (holdTest_of_idle hbelow
          (Bool.eq_false_iff.2 fun ha => hactive ((active_iff _).1 ha)))
        rw [if_neg hactive]
        by_cases hkept : (e.state = .starting ∨ e.state = .silent) ∧ e.hold = none
        · rw [if_pos hkept]
          exact hends (exec_fillerCredit_reject h) (hidle.trans (if_pos hkept))
        · rw [if_neg hkept]
          exact hends (notes := []) (exec_fillerCredit_reject h) (hidle.trans (if_neg hkept))

/-! ### The robot commands (R97 to R100) -/

theorem Robot.ofNum?_num (r : Robot) : Robot.ofNum? r.num = some r := by cases r <;> rfl

theorem Robot.ofNum?_of_outside {k : Nat} (h : k = 0 ∨ 6 < k) : Robot.ofNum? k = none := by
  rcases h with rfl | h
  · rfl
  · obtain ⟨j, rfl⟩ := Nat.exists_eq_add_of_lt h
    rw [show 6 + j + 1 = j + 7 by omega]
    rfl

theorem namedRobot_issued (n : Slot) (word : Word) (s : State) :
    namedRobot n (beginIssue n word s) = Robot.ofNum? (s.paramBits n 0 0 8) := by
  rw [namedRobot, beginIssue_paramBits]

/-- A command that changes robot r by `f` and answers behind its reports. -/
theorem robotChange_ends {n : Slot} {w : Word} {run : State → Reply} {s : State} (h : s.takes n)
    {r : Robot} {f : RobotChange → RobotChange} {c : RobotChange} {code : ResultCode}
    {data : Option (List Word)} (hc : f (s.robot r).begin = c)
    (hq : run (beginIssue n w s) =
      { state := changeRobot r f (beginIssue n w s), code := code, data := data }) :
    ∃ t, finish (issueCommand n w run s) = .next t ∧ Arbitrated s.transit t ∧
      t = { s with
        robots := { s.robots with table := s.robots.table.set r c.entry }
        mail := { s.mail with answers := s.mail.answers ++ c.answers }
        slots := t.slots, staging := t.staging, writer := t.writer, transit := t.transit } ∧
      Answered n w (c.notes.map (RobotNote.report r c.entry)) code data s t := by
  have heq := changeRobot_eq r f (beginIssue n w s)
  have hrep := changeRobot_reported r f (beginIssue n w s)
  change f ((beginIssue n w s).robot r).begin = c at hc
  rw [hc] at heq hrep
  obtain ⟨t, hexec, hframe, hans, harb⟩ := command_ends h hq _ hrep
    (by change (changeRobot r f (beginIssue n w s)).slots = _; rw [heq])
    (by change (changeRobot r f (beginIssue n w s)).map = _; rw [heq]; rfl)
    (by change (changeRobot r f (beginIssue n w s)).transit = _; rw [heq]; rfl)
  refine ⟨t, hexec, harb, ?_, hans⟩
  change t = { changeRobot r f (beginIssue n w s) with
    slots := t.slots, staging := t.staging, writer := t.writer, transit := t.transit } at hframe
  rw [heq] at hframe
  exact hframe

/-- The same for a change without an answer to the Service Window. -/
theorem robotChange_ends_unanswered {n : Slot} {w : Word} {run : State → Reply} {s : State}
    (h : s.takes n) {r : Robot} {f : RobotChange → RobotChange} {e' : RobotEntry}
    {notes : List RobotNote} {code : ResultCode} {data : Option (List Word)}
    (hc : f (s.robot r).begin = { entry := e', notes := notes, answers := [] })
    (hq : run (beginIssue n w s) =
      { state := changeRobot r f (beginIssue n w s), code := code, data := data }) :
    ∃ t, finish (issueCommand n w run s) = .next t ∧ Arbitrated s.transit t ∧
      t = { s with
        robots := { s.robots with table := s.robots.table.set r e' }
        slots := t.slots, staging := t.staging, writer := t.writer, transit := t.transit } ∧
      Answered n w (notes.map (RobotNote.report r e')) code data s t := by
  obtain ⟨t, hexec, harb, hframe, hans⟩ := robotChange_ends h hc hq
  refine ⟨t, hexec, harb, ?_, hans⟩
  simp only [List.append_nil] at hframe
  exact hframe

/-- The data of a robot command's result after a change of robot r. -/
theorem robotData_changeRobot (r : Robot) (f : RobotChange → RobotChange) (s : State) :
    robotData r (changeRobot r f s) =
      pageOne [byteOf r.num, byteOf (f (s.robot r).begin).entry.state.code] := by
  rw [robotData, changeRobot_robot_self]

theorem robotCommand_named {n : Slot} {act : Robot → State → Reply} {r : Robot} {s : State}
    (hsafe : s.loader.condition ≠ .safe) (hr : namedRobot n s = some r) :
    robotCommand n act s = act r s := by
  simp [robotCommand, State.isSafe, hsafe, hr]

theorem robotCommand_safe {n : Slot} {act : Robot → State → Reply} {s : State}
    (hsafe : s.loader.condition = .safe) :
    robotCommand n act s = refuseRobot n .refusedState s := by
  simp [robotCommand, State.isSafe, hsafe]

theorem refuseRobot_named {n : Slot} {code : ResultCode} {r : Robot} {s : State}
    (hr : namedRobot n s = some r) :
    refuseRobot n code s = { state := s, code := code, data := robotData r s } := by
  simp [refuseRobot, hr]

theorem refuseRobot_unnamed {n : Slot} {code : ResultCode} {s : State}
    (hr : namedRobot n s = none) : refuseRobot n code s = refuse s code := by
  simp [refuseRobot, hr, refuse]

/-- A change of state by a command. -/
theorem robotEnter_ends {n : Slot} {w : Word} {run : State → Reply} {s : State} (h : s.takes n)
    {r : Robot} {new : RobotState} {hold : Option HoldCause} {fault : Option FaultCause}
    {cause : RobotCause} {e' : RobotEntry} (hnew : new ≠ .ready)
    (he : (s.robot r).entered s.clock.m new hold fault = e')
    (hq : run (beginIssue n w s) =
      robotDone r (enter r new hold fault cause (beginIssue n w s))) :
    ∃ t, finish (issueCommand n w run s) = .next t ∧ Arbitrated s.transit t ∧
      t = { s with
        robots := { s.robots with table := s.robots.table.set r e' }
        slots := t.slots, staging := t.staging, writer := t.writer, transit := t.transit } ∧
      Answered n w [.robotState r (s.robot r).state new cause e'.owner e'.hold e'.fault
        (s.robot r).faultCode (s.robot r).run ((s.robot r).order.map Order.tag)] .done
        (pageOne [byteOf r.num, byteOf e'.state.code]) s t := by
  have hc := enter_of_not_ready (c := (s.robot r).begin) (r := r) (now := s.now) (hold := hold)
    (fault := fault) (cause := cause) hnew
  have hdata : robotData r (enter r new hold fault cause (beginIssue n w s)) =
      pageOne [byteOf r.num, byteOf e'.state.code] := by
    have hissued : (beginIssue n w s).robot r = s.robot r := rfl
    have hnow : (beginIssue n w s).now = s.now := rfl
    rw [← he, enter, robotData_changeRobot, hissued, hnow, hc]
    rfl
  rw [robotDone, hdata] at hq
  subst he
  exact robotChange_ends_unanswered h hc hq

end Sys2Proof.Machine

namespace Sys2Proof.Machine

/-! ### ROBOT_ARM, ROBOT_CLEAR, ROBOT_HOLD and ROBOT_RELEASE (R97 to R100) -/

/-- The entry of a robot that a command moves: `RobotEntry.gone`, and no fault cause once it leaves
FAULTED (R82). -/
def RobotEntry.commanded (e : RobotEntry) : RobotEntry :=
  { e.gone with fault := if e.state = .faulted then none else e.fault }

theorem entered_held_commanded (e : RobotEntry) (now : Micros) (hold : Option HoldCause)
    (fault : Option FaultCause) : e.entered now .held hold fault =
      { e.commanded with state := .held, hold := hold } := by
  simp [RobotEntry.entered, RobotEntry.gone, RobotEntry.commanded, RobotState.working]

theorem entered_ready_commanded (e : RobotEntry) (now : Micros) (hold : Option HoldCause)
    (fault : Option FaultCause) : e.entered now .ready hold fault =
      { e.commanded with state := .ready, hold := none } := by
  simp [RobotEntry.entered, RobotEntry.gone, RobotEntry.commanded, RobotState.working]

/-- A refused robot command, the robot named: its number and its state. -/
theorem robotRefused_ends {n : Slot} {w : Word} {run : State → Reply} {s : State} (h : s.takes n)
    {r : Robot} (hr : s.paramBits n 0 0 8 = r.num) {code : ResultCode}
    (hq : run (beginIssue n w s) = refuseRobot n code (beginIssue n w s)) :
    ∃ t, finish (issueCommand n w run s) = .next t ∧ Arbitrated s.transit t ∧
      t = { s with slots := t.slots, staging := t.staging, writer := t.writer
                   transit := t.transit } ∧
      Answered n w [] code (pageOne [byteOf r.num, byteOf (s.robots.table.get r).state.code]) s t := by
  have hnamed : namedRobot n (beginIssue n w s) = some r := by
    rw [namedRobot_issued, hr, Robot.ofNum?_num]
  rw [refuseRobot_named hnamed] at hq
  exact answered_ends h hq

theorem robotCommand_unnamed {n : Slot} {act : Robot → State → Reply} {s : State}
    (hr : namedRobot n s = none) : robotCommand n act s =
      refuse s (if s.loader.condition = .safe then .refusedState else .refusedParam) := by
  by_cases hsafe : s.loader.condition = .safe
  · rw [robotCommand_safe hsafe, refuseRobot_unnamed hr, if_pos hsafe]
  · simp only [robotCommand, State.isSafe, hsafe, decide_false, Bool.false_eq_true, if_false, hr,
      refuseRobot_unnamed hr]

/-- ROBOT_RELEASE's change of a robot with entry `e` (R100). -/
def RobotChange.release (r : Robot) (e : RobotEntry) (now : Micros) (c : RobotChange) : RobotChange :=
  (c.put { e with run := 0 }).enter r now .ready none none .release

theorem release_of_unpended {r : Robot} {e : RobotEntry} {now : Micros} (hs : e.state = .held)
    (hp : e.transferPending = false) : RobotChange.release r e now e.begin =
      { entry := { e.commanded with state := .ready, hold := none, run := 0 }
        notes := [.moved .held .ready .release e.faultCode 0 (e.order.map Order.tag)]
        answers := [] } := by
  rw [RobotChange.release, enter_of_unpended (by exact hp), entered_ready_commanded, ← hs]
  rfl

theorem release_of_pending {r : Robot} {e : RobotEntry} {now : Micros} (hs : e.state = .held)
    (hp : e.transferPending = true) : RobotChange.release r e now e.begin =
      { entry := { e.commanded with
          state := .ready, hold := none, run := 0, owner := .service, transferPending := false }
        notes := [.moved .held .ready .release e.faultCode 0 (e.order.map Order.tag),
          .moved .ready .ready .transfer e.faultCode 0 (e.order.map Order.tag)]
        answers := [.taken r] } := by
  rw [RobotChange.release, enter_ready_of_pending (by exact hp), entered_ready_commanded, ← hs]
  rfl

theorem commanded_of_held {e : RobotEntry} (h : e.state = .held) : e.commanded = e.gone := by
  simp [RobotEntry.commanded, RobotEntry.gone, h]

/-- Settles O26: each command by its own test of the robot's state. -/
theorem robotCommandsMoveOneRobot : Obligations.RobotCommandsMoveOneRobot := by
  constructor
  · intro n rest r s htakes hsafe hr e base answers moves passed report
    have hnamed (w : Word) : namedRobot n (beginIssue n w s) = some r := by
      rw [namedRobot_issued, hr, Robot.ofNum?_num]
    have hrun (w : Word) (act : Robot → State → Reply) :
        robotCommand n act (beginIssue n w s) = act r (beginIssue n w s) :=
      robotCommand_named hsafe (hnamed w)
    have hkept {c : Instr} {code : BitVec 8} {rc : ResultCode} {run : State → Reply}
        (hexec : exec c s = finish (issueCommand n (opcodeWord code rest) run s))
        (hq : run (beginIssue n (opcodeWord code rest) s) =
          { state := beginIssue n (opcodeWord code rest) s, code := rc
            data := robotData r (beginIssue n (opcodeWord code rest) s) }) :
        answers c code rc [] e := by
      obtain ⟨t, ht, harb, hframe, hans⟩ := answered_ends htakes hq
      refine ⟨t, hexec.trans ht, harb, ?_, hans⟩
      rw [PerRobot.set_get]
      exact hframe
    have hrefused {c : Instr} {code : BitVec 8} {act : Robot → State → Reply}
        (hexec : exec c s = finish (issueCommand n (opcodeWord code rest) (robotCommand n act) s))
        (hq : act r (beginIssue n (opcodeWord code rest) s) =
          refuseRobot n .refusedState (beginIssue n (opcodeWord code rest) s)) :
        answers c code .refusedState [] e :=
      hkept hexec (by rw [hrun, hq, refuseRobot_named (hnamed _)])
    have hmoves {c : Instr} {code : BitVec 8} {act : Robot → State → Reply} {new : RobotState}
        {hold : Option HoldCause} {cause : RobotCause} {e' : RobotEntry}
        (hexec : exec c s = finish (issueCommand n (opcodeWord code rest) (robotCommand n act) s))
        (hnew : new ≠ .ready) (he : e.entered s.clock.m new hold none = e')
        (hq : act r (beginIssue n (opcodeWord code rest) s) =
          robotDone r (enter r new hold none cause (beginIssue n (opcodeWord code rest) s))) :
        moves c code cause e' := by
      obtain ⟨t, ht, hrest⟩ := robotEnter_ends htakes hnew he ((hrun _ act).trans hq)
      have hstate : e'.state = new := by rw [← he]; rfl
      have hsame : e'.run = e.run := by rw [← he]; rfl
      have howner : e'.owner = e.owner := by rw [← he]; rfl
      refine ⟨t, hexec.trans ht, ?_⟩
      rw [hsame, hstate]
      rw [howner, hstate] at hrest
      exact hrest
    refine ⟨?_, ?_, ?_, ?_⟩
    · split
      · next hst => exact hmoves rfl (by decide) (entered_starting _ _ _ _) (if_pos hst)
      · next hst => exact hrefused rfl (if_neg hst)
    · split
      · next hst => exact hmoves rfl (by decide) (entered_starting _ _ _ _) (if_pos hst)
      · next hst => exact hrefused rfl (if_neg hst)
    · split
      · next hst =>
        exact hmoves rfl (by decide) (entered_held_commanded _ _ _ _)
          (if_pos ((active_iff _).2 hst))
      · next hst =>
        have hidle : ¬(e.state.active = true) := fun ha => hst ((active_iff _).1 ha)
        split
        · next hheld =>
          refine hkept (run := robotCommand n (holdRobot n)) rfl ?_
          rw [hrun]
          exact (if_neg hidle).trans (if_pos hheld)
        · next hheld => exact hrefused rfl ((if_neg hidle).trans (if_neg hheld))
    · split
      · next hst =>
        have hq (w : Word) : robotCommand n (releaseRobot n) (beginIssue n w s) =
            robotDone r (changeRobot r (RobotChange.release r e s.now) (beginIssue n w s)) :=
          (hrun w _).trans (if_pos hst)
        have hissued (w : Word) : (beginIssue n w s).robot r = e := rfl
        simp only [robotDone, robotData_changeRobot, hissued] at hq
        split
        · next hpend =>
          have hc := release_of_pending (r := r) (now := s.now) hst.1 hpend
          simp only [hc] at hq
          obtain ⟨t, ht, harb, hframe, hans⟩ :=
            robotChange_ends (w := opcodeWord 0x04 rest) htakes hc (hq _)
          rw [commanded_of_held hst.1] at hans
          exact ⟨t, ht, harb, hframe, hans⟩
        · next hpend =>
          have hc := release_of_unpended (r := r) (now := s.now) hst.1 (Bool.eq_false_iff.2 hpend)
          simp only [hc] at hq
          obtain ⟨t, ht, harb, hframe, hans⟩ :=
            robotChange_ends_unanswered (w := opcodeWord 0x04 rest) htakes hc (hq _)
          refine ⟨t, ht, harb, hframe, ?_⟩
          rw [hst.1]
          exact hans
      · next hst => exact hrefused rfl (if_neg hst)
  · intro n rest s c code htakes hc refused named
    have hrun : ∃ act, exec c s = finish (issueCommand n (opcodeWord code rest)
        (robotCommand n act) s) := by
      simp only [List.mem_cons, Prod.mk.injEq, List.not_mem_nil, or_false] at hc
      rcases hc with ⟨rfl, rfl⟩ | ⟨rfl, rfl⟩ | ⟨rfl, rfl⟩ | ⟨rfl, rfl⟩ <;> exact ⟨_, rfl⟩
    obtain ⟨act, hexec⟩ := hrun
    change (∀ r : Robot, _ → _ → ∃ t, exec c s = .next t ∧ _) ∧ (_ → ∃ t, exec c s = .next t ∧ _)
    rw [hexec]
    refine ⟨fun r hsafe hr => robotRefused_ends htakes hr (robotCommand_safe hsafe), fun hout => ?_⟩
    have hunnamed : namedRobot n (beginIssue n (opcodeWord code rest) s) = none := by
      rw [namedRobot_issued, Robot.ofNum?_of_outside hout]
    exact refused_ends htakes (robotCommand_unnamed hunnamed)

/-! ### TRANSFER_REQUEST (R102) -/

theorem exec_transferRequest {r : Robot} {rest : List TransferMsg} {s : State}
    (h : s.mail.transfers = .request r :: rest) : exec .transferRequest s =
      finish (changeRobot r (RobotChange.requestTransfer r s.now)
        (s.setMail { s.mail with transfers := rest })) := by
  change finish (transferRequestEvent s) = _
  simp only [transferRequestEvent, h]

/-- A robot without a hold cause to keep passes to SERVICE: from READY or HELD it enters READY. -/
theorem takeTransfer_of_ready {r : Robot} {now : Micros} {e : RobotEntry}
    (h : e.state = .ready ∨ e.state = .held) : e.begin.takeTransfer r now =
      { entry := { e.gone with
          state := .ready, owner := .service, transferPending := false, hold := none }
        notes := [.moved e.state .ready .transfer e.faultCode e.run (e.order.map Order.tag)]
        answers := [.taken r] } := by
  rcases h with h | h <;>
    simp [RobotChange.takeTransfer, RobotEntry.begin, h, RobotChange.move, RobotChange.put,
      RobotChange.note, RobotEntry.entered, RobotEntry.gone, RobotState.working, RobotEntry.moved]

theorem takeTransfer_of_not_ready {r : Robot} {now : Micros} {e : RobotEntry}
    (h : ¬(e.state = .ready ∨ e.state = .held)) : e.begin.takeTransfer r now =
      { entry := { e with
          owner := .service, transferPending := false, hold := none, fresh := true, fp := 0 }
        notes := [.moved e.state e.state .transfer e.faultCode e.run (e.order.map Order.tag)]
        answers := [.taken r] } := by
  simp [RobotChange.takeTransfer, RobotEntry.begin, h, RobotChange.put, RobotChange.note,
    RobotEntry.moved]

theorem requestTransfer_takes {r : Robot} {now : Micros} {e : RobotEntry} (ho : e.owner = .line)
    (h : e.state ∈ [.ready, .held, .starting, .offline]) :
    e.begin.requestTransfer r now = e.begin.takeTransfer r now := by
  simp only [List.mem_cons, List.not_mem_nil, or_false] at h
  rcases h with h | h | h | h <;> simp [RobotChange.requestTransfer, RobotEntry.begin, ho, h]

theorem requestTransfer_pends {r : Robot} {now : Micros} {e : RobotEntry} (ho : e.owner = .line)
    (h : e.state ∈ [.ordered, .filling, .silent, .faulted]) :
    e.begin.requestTransfer r now = e.begin.pendTransfer r := by
  simp only [List.mem_cons, List.not_mem_nil, or_false] at h
  rcases h with h | h | h | h <;> simp [RobotChange.requestTransfer, RobotEntry.begin, ho, h]

/-- Settles O28: by the owner and the state of the robot. -/
theorem transferRequestByState : Obligations.TransferRequestByState := by
  intro r rest s h e becomes taken report
  have hends {c : RobotChange} {a : TransferReply}
      (hc : RobotChange.requestTransfer r s.now e.begin = c) (ha : c.answers = [a]) :
      becomes c.entry a (c.notes.map (RobotNote.report r c.entry)) := by
    obtain ⟨t, ht, harb, hframe, hrep⟩ := changeRobot_ends (r := r)
      (f := RobotChange.requestTransfer r s.now)
      (s := s.setMail { s.mail with transfers := rest }) hc
    rw [ha] at hframe
    exact ⟨t, (exec_transferRequest h).trans ht, harb, hframe, hrep.congr rfl rfl rfl rfl⟩
  refine ⟨fun howner => ?_, fun howner hst => ?_, fun howner hst => ?_, fun howner hst => ?_⟩
  · have hc : RobotChange.requestTransfer r s.now e.begin =
        { entry := e, notes := [], answers := [.taken r] } := by
      have hbegin : e.begin.entry.owner = .service := howner
      simp only [RobotChange.requestTransfer, hbegin]
      rfl
    exact hends hc rfl
  · have hc := (requestTransfer_takes howner (by rcases hst with hst | hst <;> simp [hst])).trans
      (takeTransfer_of_ready (r := r) (now := s.now) hst)
    exact hends hc rfl
  · have hc := (requestTransfer_takes howner (by rcases hst with hst | hst <;> simp [hst])).trans
      (takeTransfer_of_not_ready (r := r) (now := s.now)
        (by rcases hst with hst | hst <;> simp [hst]))
    exact hends hc rfl
  · exact hends (requestTransfer_pends howner hst) rfl

/-! ### ROBOT_ENVELOPE (R111) -/

theorem refuseEnvelope_named {n : Slot} {code : ResultCode} {r : Robot} {s : State}
    (hr : namedRobot n s = some r) :
    refuseEnvelope n code s = { state := s, code := code, data := envelopeData r s } := by
  simp [refuseEnvelope, hr]

theorem working_iff (st : RobotState) : st.working = true ↔ st = .ordered ∨ st = .filling := by
  cases st <;> simp [RobotState.working]

/-- The six values of the statement are the settled ones. -/
theorem settle_givenEnvelope (n : Slot) (s : State) : (givenEnvelope n s).settle =
    { vmin := min (s.paramWord n 1) 30000, vmax := min (s.paramWord n 2) 30000
      fmax := min (s.paramWord n 3) 1000, fstep := max 1 (min (s.paramWord n 4) 1000)
      hmin := min (s.paramWord n 5) 500, hmax := min (s.paramWord n 6) 500 } := rfl

theorem runRobotEnvelope_barred {n : Slot} {r : Robot} {s : State} (hr : namedRobot n s = some r)
    (h : s.loader.condition = .safe ∨ (s.robot r).state = .ordered ∨
      (s.robot r).state = .filling) :
    runRobotEnvelope n s =
      { state := s, code := .refusedState, data := envelopeData r s } := by
  rw [runRobotEnvelope, ← refuseEnvelope_named hr]
  by_cases hsafe : s.loader.condition = .safe
  · simp [State.isSafe, hsafe]
  · have hworks : (s.robot r).state.working = true := (working_iff _).2 (h.resolve_left hsafe)
    simp [State.isSafe, hsafe, hr, hworks]

theorem runRobotEnvelope_crossed {n : Slot} {r : Robot} {s : State} (hr : namedRobot n s = some r)
    (h : ¬(s.loader.condition = .safe ∨ (s.robot r).state = .ordered ∨
      (s.robot r).state = .filling))
    (hcross : (givenEnvelope n s).settle.vmax < (givenEnvelope n s).settle.vmin ∨
      (givenEnvelope n s).settle.hmax < (givenEnvelope n s).settle.hmin) :
    runRobotEnvelope n s =
      { state := s, code := .refusedParam, data := envelopeData r s } := by
  obtain ⟨hsafe, hidle⟩ := not_or.1 h
  have hworks : ¬((s.robot r).state.working = true) := fun hw => hidle ((working_iff _).1 hw)
  have hord : ¬((givenEnvelope n s).settle.ordered = true) := by
    simp only [Envelope.ordered, decide_eq_true_eq]
    omega
  rw [runRobotEnvelope, ← refuseEnvelope_named hr]
  simp [State.isSafe, hsafe, hr, hworks, hord]

theorem runRobotEnvelope_writes {n : Slot} {r : Robot} {s : State} (hr : namedRobot n s = some r)
    (h : ¬(s.loader.condition = .safe ∨ (s.robot r).state = .ordered ∨
      (s.robot r).state = .filling))
    (hcross : ¬((givenEnvelope n s).settle.vmax < (givenEnvelope n s).settle.vmin ∨
      (givenEnvelope n s).settle.hmax < (givenEnvelope n s).settle.hmin)) :
    runRobotEnvelope n s =
      { state := writeEnvelope r (givenEnvelope n s).settle s
        code := if (givenEnvelope n s).settle = givenEnvelope n s then .done else .doneAdjusted
        data := envelopeData r (writeEnvelope r (givenEnvelope n s).settle s) } := by
  obtain ⟨hsafe, hidle⟩ := not_or.1 h
  have hworks : ¬((s.robot r).state.working = true) := fun hw => hidle ((working_iff _).1 hw)
  have hord : (givenEnvelope n s).settle.ordered = true := by
    simp only [Envelope.ordered, decide_eq_true_eq]
    omega
  simp [runRobotEnvelope, State.isSafe, hsafe, hr, hworks, hord]

theorem runRobotEnvelope_unnamed {n : Slot} {s : State} (hr : namedRobot n s = none) :
    runRobotEnvelope n s =
      refuse s (if s.loader.condition = .safe then .refusedState else .refusedParam) := by
  by_cases hsafe : s.loader.condition = .safe <;>
    simp [runRobotEnvelope, State.isSafe, hsafe, hr, refuseEnvelope, refuse]

theorem givenEnvelope_issued (n : Slot) (word : Word) (s : State) :
    givenEnvelope n (beginIssue n word s) = givenEnvelope n s := by
  simp only [givenEnvelope, beginIssue_paramWord]

/-- Settles O35: one check after the other. -/
theorem robotEnvelopeIsSettledAndWritten : Obligations.RobotEnvelopeIsSettledAndWritten := by
  refine ⟨fun n rest r s htakes hr => ?_, fun n rest s htakes hout => ?_⟩
  · intro e p v answers
    have hnamed : namedRobot n (beginIssue n (opcodeWord 0x05 rest) s) = some r := by
      rw [namedRobot_issued, hr, Robot.ofNum?_num]
    have hgiven := givenEnvelope_issued n (opcodeWord 0x05 rest) s
    have hkept {code : ResultCode}
        (hq : runRobotEnvelope n (beginIssue n (opcodeWord 0x05 rest) s) =
          { state := beginIssue n (opcodeWord 0x05 rest) s, code := code
            data := envelopeData r (beginIssue n (opcodeWord 0x05 rest) s) }) :
        answers code e := by
      obtain ⟨t, ht, harb, hframe, hans⟩ := answered_ends htakes hq
      refine ⟨t, ht, harb, ?_, hans⟩
      rw [PerRobot.set_get]
      exact hframe
    split
    · next hbar => exact hkept (runRobotEnvelope_barred hnamed hbar)
    · next hbar =>
      split
      · next hcross =>
        exact hkept (runRobotEnvelope_crossed hnamed hbar (by rw [hgiven]; exact hcross))
      · next hcross =>
        have hq := runRobotEnvelope_writes hnamed hbar (by rw [hgiven]; exact hcross)
        rw [hgiven] at hq
        obtain ⟨t, ht, hframe, hans, harb⟩ := command_ends htakes hq [] ⟨rfl, rfl⟩
        refine ⟨t, ht, harb, hframe, ?_⟩
        have hdata : envelopeData r (writeEnvelope r (givenEnvelope n s).settle
            (beginIssue n (opcodeWord 0x05 rest) s)) =
            pageOne (byteOf r.num :: byteOf e.state.code :: envelopeFields v) := by
          simp only [envelopeData, writeEnvelope, setRobot, State.robot, State.setRobots_robots,
            PerRobot.get_set_self]
          rfl
        rw [hdata] at hans
        exact hans
  · have hnamed : namedRobot n (beginIssue n (opcodeWord 0x05 rest) s) = none := by
      rw [namedRobot_issued, Robot.ofNum?_of_outside hout]
    exact refused_ends htakes (runRobotEnvelope_unnamed hnamed)

end Sys2Proof.Machine

namespace Sys2Proof.Machine

/-! ### Rightful writes whose effect is on one robot -/

/-- A rightful write whose owner does nothing but accept it. -/
theorem Rightful.passes {m : Master} {q : Request} {k : RegionKind} {s : State}
    (h : Rightful m q k s) {ws : List WriteWord} {eff : State → State}
    (hh : handleWrite issueFull m q (s.map.place q.addr.toNat) s = .accept ws eff)
    (heff : eff (admitted m q k ws s) = admitted m q k ws s) :
    ∃ t, Machine.exec (.requestArrival m q) s = .next t ∧ Admitted m q k ws s t ∧
      t = { s with
        pacing := s.charged m q
        window := { s.window with inFlight := s.window.inFlight || decide (m = .service) }
        transit := t.transit } := by
  refine ⟨arbitrate (eff (admitted m q k ws s)), h.exec hh (by rw [heff]), ?_, ?_⟩
  · rw [heff]
    exact arbitrate_admitted ..
  · rw [heff]
    rfl

/-- A rightful write whose owner changes robot r by `f`. -/
theorem Rightful.changesRobot {m : Master} {q : Request} {k : RegionKind} {s : State}
    (h : Rightful m q k s) {ws : List WriteWord} {eff : State → State} {r : Robot}
    {f : RobotChange → RobotChange} {c : RobotChange}
    (hh : handleWrite issueFull m q (s.map.place q.addr.toNat) s = .accept ws eff)
    (heff : eff (admitted m q k ws s) = changeRobot r f (admitted m q k ws s))
    (hc : f (s.robot r).begin = c) :
    ∃ t, Machine.exec (.requestArrival m q) s = .next t ∧ Admitted m q k ws s t ∧
      t = { s with
        pacing := s.charged m q
        robots := { s.robots with table := s.robots.table.set r c.entry }
        mail := { s.mail with answers := s.mail.answers ++ c.answers }
        window := { s.window with inFlight := s.window.inFlight || decide (m = .service) }
        staging := t.staging, writer := t.writer, transit := t.transit } ∧
      Reported (c.notes.map (RobotNote.report r c.entry)) s t := by
  have heq := changeRobot_eq r f (admitted m q k ws s)
  have hrep := changeRobot_reported r f (admitted m q k ws s)
  change f ((admitted m q k ws s).robot r).begin = c at hc
  rw [hc] at heq hrep
  have htransit : (changeRobot r f (admitted m q k ws s)).transit = (admitted m q k ws s).transit := by
    rw [heq]
  have hexec := h.exec hh (by rw [heff, htransit])
  rw [heff] at hexec
  refine ⟨arbitrate (changeRobot r f (admitted m q k ws s)), hexec, ?_, ?_,
    hrep.congr rfl rfl rfl rfl⟩
  · rw [Admitted, Arbitrated, arbitrate, State.setTransit_transit, htransit]
    rfl
  · rw [arbitrate_frame, heq]
    rfl

/-! ### Status records (R85 to R89) -/

theorem robotOfOffset_of {o : Nat} {r : Robot} (h : r.num = o / 8 + 1) :
    robotOfOffset o = some r := by
  rw [robotOfOffset, ← h, Robot.ofNum?_num]

theorem robotNum_bounds (r : Robot) : 1 ≤ r.num ∧ r.num ≤ 6 := by cases r <;> decide

theorem robotOfOffset_slot (r : Robot) : robotOfOffset (8 * (r.num - 1)) = some r := by
  have := robotNum_bounds r
  exact robotOfOffset_of (by omega)

theorem allEnabled_iff (ws : List WriteWord) :
    allEnabled ws = true ↔ ∀ w ∈ ws, w.enables = 0b1111 := by
  simp only [allEnabled, List.all_eq_true, decide_eq_true_eq]
  rfl

theorem handleWrite_status {m : Master} {q : Request} {s : State} {issue : Slot → Word → State → State}
    (hk : (s.map.place q.addr.toNat).kind = .status) :
    handleWrite issue m q (s.map.place q.addr.toNat) s =
      if (s.map.place q.addr.toNat).offset < 48 then
        .accept (stampWords s.clock.stamp (s.map.place q.addr.toNat).offset q.words)
          (statusWrite m (s.map.place q.addr.toNat).offset q.len q.words)
      else .accept q.words id := by
  simp only [handleWrite, hk]

/-- A status record that R85 does not take. -/
theorem statusWrite_ignored {m : Master} {o : Nat} {len : BurstLen} {ws : List WriteWord} {s : State}
    (h : m ≠ .robotlink ∨ len ≠ .eight ∨ (∃ w ∈ ws, w.enables ≠ 0b1111) ∨
      ∃ r : Robot, r.num = o / 8 + 1 ∧
        (s.robots.table.get r).lastHeartbeat = some (StatusRecord.ofWords ws).heartbeat) :
    statusWrite m o len ws s = s := by
  unfold statusWrite
  split
  · rfl
  · next r hr =>
    refine if_neg ?_
    rintro ⟨hm, hlen, hall, hnew⟩
    rcases h with h | h | ⟨w, hw, h⟩ | ⟨q, hq, h⟩
    · exact h hm
    · exact h hlen
    · exact h ((allEnabled_iff ws).1 hall w hw)
    · obtain rfl : q = r := Option.some.inj ((robotOfOffset_of hq).symm.trans hr)
      exact hnew h

theorem statusWrite_taken {o : Nat} {len : BurstLen} {ws : List WriteWord} {r : Robot} {s : State}
    (ho : robotOfOffset o = some r) (hlen : len = .eight) (hall : ∀ w ∈ ws, w.enables = 0b1111)
    (hnew : (s.robots.table.get r).lastHeartbeat ≠ some (StatusRecord.ofWords ws).heartbeat) :
    statusWrite .robotlink o len ws s =
      changeRobot r (RobotChange.validHeartbeat r s (StatusRecord.ofWords ws)) s := by
  simp only [statusWrite, ho]
  exact if_pos ⟨trivial, hlen, (allEnabled_iff ws).2 hall, hnew⟩

/-- A valid heartbeat: the robot's entry, the reports and the answers by its change. -/
theorem statusTaken_of {q : Request} {r : Robot} {s : State} (h : Rightful .robotlink q .status s)
    (hlen : q.len = .eight) (hall : ∀ w ∈ q.words, w.enables = 0b1111)
    (ho : (s.map.place q.addr.toNat).offset = 8 * (r.num - 1))
    (hnew : (s.robots.table.get r).lastHeartbeat ≠ some (StatusRecord.ofWords q.words).heartbeat)
    {c : RobotChange}
    (hc : RobotChange.validHeartbeat r s (StatusRecord.ofWords q.words) (s.robot r).begin = c) :
    StatusTaken q r c.entry (c.notes.map (RobotNote.report r c.entry)) c.answers s := by
  have hr := robotNum_bounds r
  have hh := handleWrite_status (m := .robotlink) (issue := issueFull) h.kind
  rw [ho, if_pos (by omega)] at hh
  have hstamped := stampWords_stamped s.clock.stamp (8 * (r.num - 1)) q.words
  generalize stampWords s.clock.stamp (8 * (r.num - 1)) q.words = ws at hh hstamped
  have heff := statusWrite_taken (s := admitted .robotlink q .status ws s) (robotOfOffset_slot r)
    hlen hall hnew
  obtain ⟨t, hexec, hadm, hframe, hrep⟩ := h.changesRobot hh heff hc
  refine ⟨t, ws, hexec, hstamped, hadm, ?_, hrep⟩
  simp only [reduceCtorEq, decide_false, Bool.or_false] at hframe
  exact hframe

/-- The entry in which a valid heartbeat is recorded (R85). -/
def RobotEntry.heard (e : RobotEntry) (x : StatusRecord) (now : Micros) : RobotEntry :=
  { e with lastHeartbeat := some x.heartbeat, lastValid := some ⟨now, false⟩ }

/-- The entry with its heartbeat timer restarted. -/
def RobotEntry.restarted (e : RobotEntry) (now : Micros) : RobotEntry :=
  { e with heartbeatTimer := some now }

theorem validHeartbeat_of_fault {r : Robot} {s : State} {x : StatusRecord} {e : RobotEntry}
    (h : x.condition = .fault) : e.begin.validHeartbeat r s x =
      (e.heard x s.clock.m).begin.faultReported r s.clock.m x := if_pos h

theorem validHeartbeat_of_not_fault {r : Robot} {s : State} {x : StatusRecord} {e : RobotEntry}
    (h : x.condition ≠ .fault) : e.begin.validHeartbeat r s x =
      (e.heard x s.clock.m).begin.heartbeatByState r s x := if_neg h

theorem faultReported_of_offline {r : Robot} {now : Micros} {x : StatusRecord} {e : RobotEntry}
    (h : e.state = .offline) : e.begin.faultReported r now x = e.begin := by
  simp [RobotChange.faultReported, RobotEntry.begin, h]

theorem faultReported_of_faulted {r : Robot} {now : Micros} {x : StatusRecord} {e : RobotEntry}
    (h : e.state = .faulted) :
    e.begin.faultReported r now x = { e with faultCode := x.faultCode : RobotEntry }.begin := by
  simp [RobotChange.faultReported, RobotEntry.begin, h, RobotChange.put]

theorem faultReported_of_other {r : Robot} {now : Micros} {x : StatusRecord} {e : RobotEntry}
    (ho : e.state ≠ .offline) (hf : e.state ≠ .faulted) : e.begin.faultReported r now x =
      { entry := { e.gone with
          state := .faulted, hold := none, fault := some .reported, faultCode := x.faultCode
          heartbeatTimer := none }
        notes := [.moved e.state .faulted .faultReported x.faultCode e.run (e.order.map Order.tag)]
        answers := [] } := by
  have hmove : e.begin.faultReported r now x =
      RobotChange.enter r now .faulted none (some .reported) .faultReported
        { e with faultCode := x.faultCode : RobotEntry }.begin := by
    unfold RobotChange.faultReported
    have hbegin : e.begin.entry.state = e.state := rfl
    rw [hbegin]
    cases hst : e.state <;> simp_all <;> rfl
  rw [hmove, enter_of_not_ready (by decide), entered_faulted]
  rfl

theorem heartbeatByState_idle {r : Robot} {s : State} {x : StatusRecord} {e : RobotEntry}
    (h : e.state = .offline ∨ e.state = .faulted) :
    e.begin.heartbeatByState r s x = e.begin := by
  rcases h with h | h <;> simp [RobotChange.heartbeatByState, RobotEntry.begin, h]

theorem heartbeatByState_restarts {r : Robot} {s : State} {x : StatusRecord} {e : RobotEntry}
    (h : e.state = .ready ∨ e.state = .held) :
    e.begin.heartbeatByState r s x = (e.restarted s.clock.m).begin := by
  rcases h with h | h <;>
    simp [RobotChange.heartbeatByState, RobotEntry.begin, h, RobotChange.restartHeartbeat,
      RobotChange.put, RobotEntry.restarted, State.now]

theorem heartbeatByState_silent {r : Robot} {s : State} {x : StatusRecord} {e : RobotEntry}
    (h : e.state = .silent) : e.begin.heartbeatByState r s x =
      if s.robotLinked r then
        { entry := { e.gone with state := .starting, heartbeatTimer := some s.clock.m }
          notes := [.moved e.state .starting .heartbeat e.faultCode e.run (e.order.map Order.tag)]
          answers := [] }
      else e.begin := by
  have hbegin : e.begin.entry.state = .silent := h
  simp only [RobotChange.heartbeatByState, hbegin]
  refine if_congr Iff.rfl ?_ rfl
  have hfault : e.begin.entry.state ≠ .faulted := by rw [hbegin]; decide
  rw [enter_of_not_ready (by decide), entered_starting, if_neg hfault]
  rfl

theorem heartbeatByState_starting {r : Robot} {s : State} {x : StatusRecord} {e : RobotEntry}
    (h : e.state = .starting) : e.begin.heartbeatByState r s x =
      (e.restarted s.clock.m).begin.leaveStarting r s := by
  have hbegin : e.begin.entry.state = .starting := h
  simp only [RobotChange.heartbeatByState, hbegin]
  rfl

theorem leaveStarting_stays {r : Robot} {s : State} {e : RobotEntry}
    (h : e.envelopeWritten = false ∨ s.robotLinked r = false) :
    e.begin.leaveStarting r s = e.begin := by
  have hbegin : e.begin.entry.envelopeWritten = e.envelopeWritten := rfl
  rcases h with h | h <;> simp [RobotChange.leaveStarting, hbegin, h]

/-- The entry after STARTING is left for HELD. -/
theorem leaveStarting_holds {r : Robot} {s : State} {e : RobotEntry} {hold : HoldCause}
    (hs : e.state = .starting) (hw : e.envelopeWritten = true) (hl : s.robotLinked r = true)
    (hh : e.hold = some hold ∨
      e.hold = none ∧ (e.owner = .line ∧ s.robots.lapsed = true) ∧ hold = .lineSilent) :
    e.begin.leaveStarting r s =
      { entry := { e.gone with state := .held, hold := some hold }
        notes := [.moved e.state .held .heartbeat e.faultCode e.run (e.order.map Order.tag)]
        answers := [] } := by
  have hmove : e.begin.leaveStarting r s =
      e.begin.enter r s.now .held (some hold) none .heartbeat := by
    rcases hh with hh | ⟨hh, ⟨howner, hlapsed⟩, rfl⟩
    · simp [RobotChange.leaveStarting, RobotEntry.begin, hw, hl, hh]
    · simp [RobotChange.leaveStarting, RobotEntry.begin, hw, hl, hh, howner, hlapsed]
  have hbegin : e.begin.entry = e := rfl
  rw [hmove, enter_of_not_ready (by decide), hbegin, entered_held _ _ _ _ (by rw [hs]; decide)]
  rfl

theorem leaveStarting_readies {r : Robot} {s : State} {e : RobotEntry}
    (hw : e.envelopeWritten = true) (hl : s.robotLinked r = true) (hh : e.hold = none)
    (hn : ¬(e.owner = .line ∧ s.robots.lapsed = true)) :
    e.begin.leaveStarting r s = e.begin.enter r s.now .ready none none .heartbeat := by
  simp [RobotChange.leaveStarting, RobotEntry.begin, hw, hl, hh, hn]

theorem enterReady_unpended {r : Robot} {now : Micros} {cause : RobotCause} {e : RobotEntry}
    (hs : e.state ≠ .faulted) (hp : e.transferPending = false) :
    e.begin.enter r now .ready none none cause =
      { entry := { e.gone with state := .ready, hold := none }
        notes := [.moved e.state .ready cause e.faultCode e.run (e.order.map Order.tag)]
        answers := [] } := by
  have hbegin : e.begin.entry = e := rfl
  rw [enter_of_unpended (by exact hp), hbegin, entered_ready _ _ _ _ hs]
  rfl

theorem enterReady_pending {r : Robot} {now : Micros} {cause : RobotCause} {e : RobotEntry}
    (hs : e.state ≠ .faulted) (hp : e.transferPending = true) :
    e.begin.enter r now .ready none none cause =
      { entry := { e.gone with
          state := .ready, hold := none, owner := .service, transferPending := false }
        notes := [.moved e.state .ready cause e.faultCode e.run (e.order.map Order.tag),
          .moved .ready .ready .transfer e.faultCode e.run (e.order.map Order.tag)]
        answers := [.taken r] } := by
  have hbegin : e.begin.entry = e := rfl
  rw [enter_ready_of_pending (by exact hp), hbegin, entered_ready _ _ _ _ hs]
  rfl

/-- Settles O29: a record that is not taken passes; a valid heartbeat by the robot's state. -/
theorem heartbeatActsByState : Obligations.HeartbeatActsByState := by
  refine ⟨fun m q s h => ?_, fun q r s h hlen hall ho => ?_⟩
  · intro o hignored
    have hh := handleWrite_status (m := m) (issue := issueFull) h.kind
    by_cases hlow : o < 48
    · rw [if_pos hlow] at hh
      have hcase := hignored
      have heff := statusWrite_ignored (o := o)
        (s := admitted m q .status (stampWords s.clock.stamp o q.words) s)
        (h := by
          rcases hignored with hc | hc | hc | hc | hc
          · exact .inl hc
          · exact .inr (.inl hc)
          · exact .inr (.inr (.inl hc))
          · exact absurd hlow (Nat.not_lt.2 hc)
          · exact .inr (.inr (.inr hc)))
      obtain ⟨t, hexec, hadm, hframe⟩ := h.passes hh heff
      refine ⟨t, _, hexec, hadm, ?_, hframe⟩
      rw [if_pos hlow]
      exact stampWords_stamped _ _ _
    · rw [if_neg hlow] at hh
      obtain ⟨t, hexec, hadm, hframe⟩ := h.passes hh rfl
      exact ⟨t, _, hexec, hadm, by rw [if_neg hlow], hframe⟩
  · intro e x tag linked hd g still moves hnew
    have htaken {c : RobotChange} (hc : RobotChange.validHeartbeat r s x e.begin = c) :=
      statusTaken_of h hlen hall ho hnew hc
    have hlinked : linked = s.robotLinked r := rfl
    refine ⟨fun hst => ?_, fun hst => ?_, fun hx hoff hfault => ?_, fun hx hst => ?_,
      fun hx hst => ?_, fun hx hst => ?_⟩
    · by_cases hx : x.condition = .fault
      · exact htaken ((validHeartbeat_of_fault hx).trans (faultReported_of_offline hst))
      · exact htaken ((validHeartbeat_of_not_fault hx).trans (heartbeatByState_idle (.inl hst)))
    · by_cases hx : x.condition = .fault
      · rw [if_pos hx]
        exact htaken ((validHeartbeat_of_fault hx).trans (faultReported_of_faulted hst))
      · rw [if_neg hx]
        exact htaken ((validHeartbeat_of_not_fault hx).trans (heartbeatByState_idle (.inr hst)))
    · exact htaken ((validHeartbeat_of_fault hx).trans (faultReported_of_other hoff hfault))
    · exact htaken ((validHeartbeat_of_not_fault hx).trans (heartbeatByState_restarts hst))
    · have hc := (validHeartbeat_of_not_fault (r := r) (s := s) (e := e) hx).trans
        (heartbeatByState_silent hst)
      rw [hlinked]
      by_cases hl : s.robotLinked r = true
      · rw [if_pos hl] at hc ⊢
        exact htaken hc
      · rw [if_neg hl] at hc ⊢
        exact htaken hc
    · have hstarting := (validHeartbeat_of_not_fault (r := r) (s := s) (e := e) hx).trans
        (heartbeatByState_starting hst)
      by_cases hstays : e.envelopeWritten = false ∨ linked = false
      · rw [if_pos hstays]
        exact htaken (hstarting.trans (leaveStarting_stays hstays))
      · rw [if_neg hstays]
        obtain ⟨hw, hl⟩ := not_or.1 hstays
        rw [Bool.not_eq_false] at hw hl
        refine ⟨fun hold hh => ?_, fun hh hlapsed => ?_, fun hh hlapsed => ?_⟩
        · have hmoved := htaken (hstarting.trans (leaveStarting_holds hst hw hl (.inl hh)))
          rw [← hh] at hmoved
          exact hmoved
        · exact htaken (hstarting.trans
            (leaveStarting_holds hst hw hl (.inr ⟨hh, hlapsed, rfl⟩)))
        · have hready := hstarting.trans (leaveStarting_readies hw hl hh hlapsed)
          have hstate : g.state = .starting := hst
          have hnot : g.state ≠ .faulted := by rw [hstate]; decide
          have hunheld : g.hold = none := hh
          by_cases hp : e.transferPending = true
          · rw [if_pos hp]
            have hc := hready.trans (enterReady_pending (e := g) hnot hp)
            rw [hstate] at hc
            intro e' report
            have hentry : e' = { g.gone with
                state := .ready, hold := none, owner := .service, transferPending := false } := by
              rw [← hunheld]
              rfl
            rw [hentry]
            exact htaken hc
          · rw [if_neg hp]
            have hmoved := htaken (hready.trans
              (enterReady_unpended hnot (Bool.eq_false_iff.2 hp)))
            rw [← hunheld] at hmoved
            exact hmoved

end Sys2Proof.Machine

namespace Sys2Proof.Machine

/-! ### Heartbeats in ORDERED and FILLING (R87, R89) -/

/-- A tag names the order in hand, or the fill under way. -/
def RobotEntry.knows (e : RobotEntry) (tag : BitVec 16) : Prop :=
  e.order.map Order.tag = some tag ∨
    (e.state = .filling ∧ e.fillRecord.map FillRecord.tag = some tag)

/-- The guarded volume that a fill which ends is checked against. -/
def RobotEntry.checkedVolume (e : RobotEntry) : Option Nat :=
  if e.state = .ordered then e.orderVolume else e.fillRecord.map FillRecord.volume

/-- What a heartbeat of a robot that is ORDERED or FILLING does, by its condition (R87). -/
theorem heartbeatByState_working {r : Robot} {s : State} {x : StatusRecord} {e : RobotEntry}
    (h : e.state = .ordered ∨ e.state = .filling) [Decidable (e.knows x.tag)] :
    e.begin.heartbeatByState r s x =
      match x.condition with
      | .idle => (e.restarted s.clock.m).begin
      | .fault => (e.restarted s.clock.m).begin
      | .filling =>
        if e.knows x.tag then
          if e.state = .ordered then (e.restarted s.clock.m).begin.pickUp s.clock.m x.tag
          else (e.restarted s.clock.m).begin
        else (e.restarted s.clock.m).begin.countMismatch
      | .done =>
        if e.knows x.tag then (e.restarted s.clock.m).begin.endFill r s x e.checkedVolume
        else (e.restarted s.clock.m).begin.countMismatch
      | .halted =>
        if e.knows x.tag then (e.restarted s.clock.m).begin.endFill r s x none
        else (e.restarted s.clock.m).begin.countMismatch := by
  have hbegin : e.begin.entry.state = e.state := rfl
  rcases h with h | h
  · have hknows : e.knows x.tag ↔ (e.restarted s.clock.m).begin.entry.currentTag x.tag = true := by
      simp [RobotEntry.knows, h, RobotEntry.currentTag, RobotEntry.begin, RobotEntry.restarted]
    simp only [RobotChange.heartbeatByState, hbegin, h, RobotEntry.checkedVolume, if_true,
      if_congr hknows rfl rfl]
    rfl
  · have hknows : e.knows x.tag ↔ ((e.restarted s.clock.m).begin.entry.currentTag x.tag ||
        (e.restarted s.clock.m).begin.entry.fillTag x.tag) = true := by
      simp [RobotEntry.knows, h, RobotEntry.currentTag, RobotEntry.fillTag, RobotEntry.begin,
        RobotEntry.restarted]
    simp only [RobotChange.heartbeatByState, hbegin, h, RobotEntry.checkedVolume, reduceCtorEq,
      if_false, if_congr hknows rfl rfl]
    rfl

/-- An entry to READY with or without a pending transfer (R82 step 6). -/
theorem enterReady {r : Robot} {now : Micros} {cause : RobotCause} {e : RobotEntry}
    (hs : e.state ≠ .faulted) : e.begin.enter r now .ready none none cause =
      { entry := { e.gone with
          state := .ready, hold := none
          owner := if e.transferPending = true then .service else e.owner
          transferPending := false }
        notes := [.moved e.state .ready cause e.faultCode e.run (e.order.map Order.tag)] ++
          (if e.transferPending = true then
            [.moved .ready .ready .transfer e.faultCode e.run (e.order.map Order.tag)] else [])
        answers := if e.transferPending = true then [.taken r] else [] } := by
  by_cases hp : e.transferPending = true
  · rw [enterReady_pending hs hp]
    simp only [hp, if_true]
    rfl
  · rw [enterReady_unpended hs (Bool.eq_false_iff.2 hp)]
    simp [RobotEntry.gone, hp]

theorem pickUp_eq {now : Micros} {tag : BitVec 16} {e : RobotEntry} {v : Nat}
    (hs : e.state ≠ .faulted) (hv : e.orderVolume = some v) : e.begin.pickUp now tag =
      { entry := { e with
          state := .filling, fillRecord := some { tag := tag, volume := v }, pickupTimer := none
          fillTimer := some now }
        notes := [.moved e.state .filling .pickup e.faultCode e.run (e.order.map Order.tag)]
        answers := [] } := by
  simp [RobotChange.pickUp, RobotChange.move, RobotChange.put, RobotChange.note, RobotEntry.begin,
    RobotEntry.entered, RobotEntry.moved, RobotState.working, hs, hv]

theorem endFill_unchecked {r : Robot} {s : State} {x : StatusRecord} {c : RobotChange} :
    c.endFill r s x none = c.enter r s.clock.m .ready none none .fillEnd := rfl

theorem endFill_checked {r : Robot} {s : State} {x : StatusRecord} {c : RobotChange} {v : Nat}
    (h : x.condition = .done) : c.endFill r s x (some v) =
      (c.enter r s.clock.m .ready none none .fillEnd).deviationCheck r s x.tag x.delivered v := by
  simp [RobotChange.endFill, h, State.now]

theorem deviationCheck_of_near {r : Robot} {s : State} {tag : BitVec 16} {d v : Nat}
    {c : RobotChange}
    (h : ¬s.robots.settings.tolerance * v < ((d : Int) - (v : Int)).natAbs * 1000) :
    c.deviationCheck r s tag d v = c := by
  simp [RobotChange.deviationCheck, deviates, h]

theorem deviationCheck_of_far {r : Robot} {s : State} {tag : BitVec 16} {d v : Nat}
    {c : RobotChange}
    (h : s.robots.settings.tolerance * v < ((d : Int) - (v : Int)).natAbs * 1000) :
    c.deviationCheck r s tag d v =
      (c.note (.other (.fillDeviation r tag v d s.robots.settings.tolerance
        c.entry.owner))).rejectCredit r s := by
  simp [RobotChange.deviationCheck, deviates, h]

theorem rejectCredit_of_service {r : Robot} {s : State} {c : RobotChange}
    (h : c.entry.owner = .service) : c.rejectCredit r s = c := by
  simp only [RobotChange.rejectCredit, h]

/-- The reports of a fill's end, a transfer taken at it or not, and of what follows. -/
theorem map_fillEnd {α β : Type} (f : α → β) (a b : α) (rest : List α) (p : Prop) [Decidable p] :
    ([a] ++ (if p then [b] else []) ++ rest).map f =
      [f a] ++ (if p then [f b] else []) ++ rest.map f := by
  by_cases hp : p <;> simp [hp]

/-- Settles O30: by the condition and the tag, then by the deviation and the limit. -/
theorem fillEndIsCheckedForDeviation : Obligations.FillEndIsCheckedForDeviation := by
  intro q r s h hlen hall ho e x tag g known hnew hst
  have htaken {c : RobotChange} (hc : RobotChange.validHeartbeat r s x e.begin = c) :=
    statusTaken_of h hlen hall ho hnew hc
  have hcases (hx : x.condition ≠ .fault) : RobotChange.validHeartbeat r s x e.begin = _ :=
    (validHeartbeat_of_not_fault hx).trans
      (@heartbeatByState_working r s x (e.heard x s.clock.m) hst (Classical.dec _))
  have hg : (e.heard x s.clock.m).restarted s.clock.m = g := rfl
  have hknown : (e.heard x s.clock.m).knows x.tag ↔ known := Iff.rfl
  have hstate : (e.heard x s.clock.m).state = e.state := rfl
  have hvol : (e.heard x s.clock.m).checkedVolume = e.checkedVolume := rfl
  simp only [hg, hknown, hstate, hvol] at hcases
  refine ⟨fun hx => ?_, fun hx hno => ?_, fun o v hx hord ho' htag hv => ?_, fun hx hfill hk => ?_,
    ?_⟩
  · have hc := hcases (by rw [hx]; decide)
    simp only [hx] at hc
    exact htaken hc
  · simp only [List.mem_cons, List.not_mem_nil, or_false] at hx
    have hc := hcases (by rcases hx with hx | hx | hx <;> rw [hx] <;> decide)
    have hmis : RobotChange.validHeartbeat r s x e.begin = g.begin.countMismatch := by
      rcases hx with hx | hx | hx <;> simpa only [hx, hno, if_false] using hc
    exact htaken hmis
  · have hk : known := .inl (by simp only [tag, ho', Option.map_some, htag])
    have hc := hcases (by rw [hx]; decide)
    simp only [hx, hk, hord, if_true] at hc
    have hgv : g.orderVolume = some v := by
      change e.order.bind Order.volume = some v
      rw [ho']
      exact hv
    have hmoved := htaken (hc.trans (pickUp_eq (by change e.state ≠ _; rw [hord]; decide) hgv))
    rw [← hord]
    exact hmoved
  · have hc := hcases (by rw [hx]; decide)
    simp only [hx, hk, hfill, if_true, reduceCtorEq, if_false] at hc
    exact htaken hc
  · intro owner answers ready ends
    have hnot : g.state ≠ .faulted := by
      change e.state ≠ _
      rcases hst with hst | hst <;> rw [hst] <;> decide
    have hready : g.begin.enter r s.clock.m .ready none none .fillEnd = _ := enterReady hnot
    let notes : List RobotNote :=
      [.moved e.state .ready .fillEnd e.faultCode e.run tag] ++
        (if e.transferPending = true then
          [.moved .ready .ready .transfer e.faultCode e.run tag] else [])
    have hends (e' : RobotEntry) (rest : List RobotNote) (howner : e'.owner = owner)
        (hfault : e'.fault = e.fault) :
        (notes ++ rest).map (RobotNote.report r e') =
          ends e' ++ rest.map (RobotNote.report r e') := by
      refine (map_fillEnd _ _ _ _ _).trans ?_
      simp only [RobotNote.report, howner, hfault]
      rfl
    have hready : g.begin.enter r s.clock.m .ready none none .fillEnd =
        { entry := ready, notes := notes, answers := answers } := enterReady hnot
    have hplain {e' : RobotEntry} (hc : RobotChange.validHeartbeat r s x e.begin =
        { entry := e', notes := notes, answers := answers })
        (howner : e'.owner = owner) (hfault : e'.fault = e.fault) :
        StatusTaken q r e' (ends e') answers s := by
      have hended := htaken hc
      have hmap := hends e' [] howner hfault
      rw [List.append_nil, List.map_nil, List.append_nil] at hmap
      rw [hmap] at hended
      exact hended
    have hbehind {e' : RobotEntry} {rest : List RobotNote}
        (hc : RobotChange.validHeartbeat r s x e.begin =
          { entry := e', notes := notes ++ rest, answers := answers })
        (howner : e'.owner = owner) (hfault : e'.fault = e.fault) :
        StatusTaken q r e' (ends e' ++ rest.map (RobotNote.report r e')) answers s := by
      have hended := htaken hc
      rw [hends e' rest howner hfault] at hended
      exact hended
    refine ⟨fun hx hk => ?_, fun v hx hk hordv hfillv => ?_⟩
    · have hc := hcases (by rw [hx]; decide)
      simp only [hx, hk, if_true, endFill_unchecked] at hc
      exact hplain (hc.trans hready) rfl rfl
    · intro bad deviation run counted held
      have hv : e.checkedVolume = some v := by
        unfold RobotEntry.checkedVolume
        rcases hst with hst | hst
        · rw [if_pos hst]
          exact hordv hst
        · rw [if_neg (by rw [hst]; decide)]
          exact hfillv hst
      have hc := hcases (by rw [hx]; decide)
      simp only [hx, hk, if_true, hv, endFill_checked hx, hready] at hc
      have hfar (hbad : bad) := hc.trans (deviationCheck_of_far hbad)
      have hline (hbad : bad) (howner : owner = .line) :=
        (hfar hbad).trans (rejectCredit_of_line (by exact howner))
      refine ⟨fun hnear => ?_, fun hbad howner => ?_, fun hbad howner hbelow => ?_,
        fun hbad howner hreached => ?_⟩
      · exact hplain (hc.trans (deviationCheck_of_near hnear)) rfl rfl
      · exact hbehind ((hfar hbad).trans (rejectCredit_of_service (by exact howner))) rfl rfl
      · exact hbehind ((hline hbad howner).trans (holdTest_of_below hbelow)) rfl rfl
      · have hheld := (hline hbad howner).trans (holdTest_of_active hreached rfl)
        have hmoved := hbehind (e' := held) (rest := [.other deviation,
          .other (.quarantine r run s.robots.limit tag),
          .moved .ready .held .quarantine e.faultCode run tag])
          (hheld.trans (by simp only [RobotChange.note, RobotChange.put, List.append_assoc]; rfl))
          rfl rfl
        have howner' : held.owner = .line := howner
        simp only [List.map_cons, List.map_nil, RobotNote.report, howner'] at hmoved
        exact hmoved

end Sys2Proof.Machine

namespace Sys2Proof.Machine

/-! ### Orders: the tests (R106, R107) -/

theorem handleWrite_orderRefused {m : Master} {q : Request} {s : State} {r : Robot} {k : Nat}
    {issue : Slot → Word → State → State} {reason : OrderReason}
    (hk : (s.map.place q.addr.toNat).kind = .orders)
    (hlt : k < 8) (ho : (s.map.place q.addr.toNat).offset = 8 * (r.num - 1) + k)
    (hj : judgeOrder (s.robot r) m q.len q.words = .refused reason) :
    handleWrite issue m q (s.map.place q.addr.toNat) s =
      .refuse (some (orderRefusedReport r (s.robot r) m (8 * (r.num - 1) + k) q.words reason)) := by
  have hr := robotNum_bounds r
  have hrobot : robotOfOffset (8 * (r.num - 1) + k) = some r := robotOfOffset_of (by omega)
  simp only [handleWrite, hk, handleOrder, ho, hrobot, hj,
    if_pos (show 8 * (r.num - 1) + k < 48 by omega)]

/-- The write of an order, taken by the owner with the words it puts to memory. -/
theorem handleWrite_orderPassed {m : Master} {q : Request} {s : State} {r : Robot}
    {issue : Slot → Word → State → State} {mode : OrderMode}
    (hk : (s.map.place q.addr.toNat).kind = .orders)
    (ho : (s.map.place q.addr.toNat).offset = 8 * (r.num - 1))
    (hj : judgeOrder (s.robot r) m q.len q.words = .passed mode) :
    handleWrite issue m q (s.map.place q.addr.toNat) s =
      .accept (orderWords r mode q.words s) (passOrder r mode q.words) := by
  have hr := robotNum_bounds r
  simp only [handleWrite, hk, handleOrder, ho, robotOfOffset_slot, hj,
    if_pos (show 8 * (r.num - 1) < 48 by omega)]

theorem owner_master (o : Owner) :
    (match o with | .line => Master.line | .service => .service) = o.master := by cases o <;> rfl

theorem ofCode?_eq_none_iff (c : BitVec 2) : OrderMode.ofCode? c = none ↔ c = 0 := by
  revert c; decide

/-- The mode code 1 is FILL's, the other two are HOLD's and PARK's. -/
theorem ofCode?_fill_iff (c : BitVec 2) : OrderMode.ofCode? c = some .fill ↔ c = 1 := by
  revert c; decide

/-- The tests of the owner and of the shape are met: the mode is judged (R106). -/
theorem judgeOrder_badMode {e : RobotEntry} {m : Master} {len : BurstLen} {ws : List WriteWord}
    (hm : m = e.owner.master) (hlen : len = .eight) (hall : ∀ w ∈ ws, w.enables = 0b1111)
    (hmode : OrderMode.ofCode? (orderModeCode (wordAt ws 0)) = none) :
    judgeOrder e m len ws = .refused .badMode := by
  simp [judgeOrder, hm, hlen, (allEnabled_iff ws).2 hall, hmode]

theorem judgeOrder_refusedMode {e : RobotEntry} {m : Master} {len : BurstLen} {ws : List WriteWord}
    {mode : OrderMode} {reason : OrderReason}
    (hm : m = e.owner.master) (hlen : len = .eight) (hall : ∀ w ∈ ws, w.enables = 0b1111)
    (hmode : OrderMode.ofCode? (orderModeCode (wordAt ws 0)) = some mode)
    (hrefused : e.state.refuses mode = some reason) :
    judgeOrder e m len ws = .refused reason := by
  simp [judgeOrder, hm, hlen, (allEnabled_iff ws).2 hall, hmode, hrefused]

theorem judgeOrder_passedMode {e : RobotEntry} {m : Master} {len : BurstLen} {ws : List WriteWord}
    {mode : OrderMode}
    (hm : m = e.owner.master) (hlen : len = .eight) (hall : ∀ w ∈ ws, w.enables = 0b1111)
    (hmode : OrderMode.ofCode? (orderModeCode (wordAt ws 0)) = some mode)
    (hpass : e.state.refuses mode = none) : judgeOrder e m len ws = .passed mode := by
  simp [judgeOrder, hm, hlen, (allEnabled_iff ws).2 hall, hmode, hpass]

/-- The statement's chain of tests gives the reason of `judgeOrder`. -/
theorem judgeOrder_refused {e : RobotEntry} {m : Master} {len : BurstLen} {ws : List WriteWord}
    {reason : OrderReason}
    (h : if m ≠ e.owner.master then reason = .notOwner
      else if ¬(len = .eight ∧ ∀ w ∈ ws, w.enables = 0b1111) then reason = .shape
      else if orderModeCode (wordAt ws 0) = 0 then reason = .badMode
      else (e.state ∈ [.offline, .starting, .silent, .faulted] ∧ reason = .state) ∨
        (e.state = .held ∧ orderModeCode (wordAt ws 0) = 1 ∧ reason = .state) ∨
        (e.state = .filling ∧ orderModeCode (wordAt ws 0) = 1 ∧ reason = .busy)) :
    judgeOrder e m len ws = .refused reason := by
  by_cases hm : m = e.owner.master
  · rw [if_neg (not_not.2 hm)] at h
    by_cases hshape : len = .eight ∧ ∀ w ∈ ws, w.enables = 0b1111
    · rw [if_neg (not_not.2 hshape)] at h
      by_cases hzero : orderModeCode (wordAt ws 0) = 0
      · rw [if_pos hzero] at h
        rw [h]
        exact judgeOrder_badMode hm hshape.1 hshape.2 ((ofCode?_eq_none_iff _).2 hzero)
      · rw [if_neg hzero] at h
        cases hmode : OrderMode.ofCode? (orderModeCode (wordAt ws 0)) with
        | none => exact absurd ((ofCode?_eq_none_iff _).1 hmode) hzero
        | some mode =>
          refine judgeOrder_refusedMode hm hshape.1 hshape.2 hmode ?_
          rcases h with ⟨hst, rfl⟩ | ⟨hst, hfill, rfl⟩ | ⟨hst, hfill, rfl⟩
          · simp only [List.mem_cons, List.not_mem_nil, or_false] at hst
            rcases hst with hst | hst | hst | hst <;> simp only [hst, RobotState.refuses]
          · obtain rfl : mode = .fill :=
              Option.some.inj (hmode.symm.trans ((ofCode?_fill_iff _).2 hfill))
            simp only [hst, RobotState.refuses]
          · obtain rfl : mode = .fill :=
              Option.some.inj (hmode.symm.trans ((ofCode?_fill_iff _).2 hfill))
            simp only [hst, RobotState.refuses]
    · rw [if_pos hshape] at h
      have hshape' : len ≠ .eight ∨ allEnabled ws = false := by
        by_contra hboth
        obtain ⟨hlen, hall⟩ := not_or.1 hboth
        exact hshape ⟨not_not.1 hlen, (allEnabled_iff ws).1 (Bool.not_eq_false _ ▸ hall)⟩
      rw [judgeOrder, if_neg (not_not.2 hm), if_pos hshape', h]
  · rw [if_pos hm] at h
    rw [judgeOrder, if_pos hm, h]

/-- A denial behind the owner's report (R5; log 38). -/
theorem deny_denied_behind (m : Master) (r : Request) (cause : DenialCause) (g : Option RegionRef)
    (report : Report) (s : State) :
    Denied m (particularsOf r cause g) [report] s (deny m r cause g (some report) s) := by
  obtain ⟨hstaging, hwriter⟩ := raise_congr report s
    (deliver m { status := .denied, data := zeroData r.dir r.len } s) rfl rfl rfl rfl
  exact countDenial_congr m (particularsOf r cause g)
    (s := raise report s) (t := raise report (deliver m _ s))
    (by simp only [raise_clock]; rfl) (by simp only [raise_map]; rfl)
    (by simp only [raise_window]; rfl) (by simp only [raise_limiters]; rfl) hstaging hwriter

/-- The end of an arrival that is denied, with the owner's report or without. -/
theorem denied_ends {m : Master} {q : Request} {cause : DenialCause} {g : Option RegionRef}
    {report : Option Report} {s : State} (hwf : q.wf = true)
    (he : s.transit.ports.get m = .empty) (hl : s.lanesTaken)
    (hdeny : arrive m q s = deny m q cause g report s) :
    ∃ t, exec (.requestArrival m q) s = .next t ∧
      t = { s with limiters := t.limiters, staging := t.staging, writer := t.writer,
                   transit := t.transit } ∧
      t.limiters = (deny m q cause g report s).limiters ∧
      t.staging = (deny m q cause g report s).staging ∧
      t.writer = (deny m q cause g report s).writer ∧
      Arbitrated { s.transit with
        completions := s.transit.completions.set m
          (some { status := .denied, data := zeroData q.dir q.len }) } t := by
  have hend := deny_lanesTaken q cause g report hl (hl m he)
  refine ⟨arbitrate (deny m q cause g report s), ?_, ?_, rfl, rfl, rfl, ?_⟩
  · rw [exec_arrival hwf he hl, hdeny, finishLanes_of_taken hend]
    rfl
  · rw [arbitrate_frame, deny_frame]
  · have hports : s.transit.ports.set m .empty = s.transit.ports := by
      rw [← he]
      exact PerMaster.set_get _ m
    have ht := deny_transit m q cause g report s
    rw [hports] at ht
    unfold Arbitrated
    rw [← ht]
    rfl

theorem examine_kindRefused {issue : Slot → Word → State → State} {m : Master} {q : Request}
    {s : State} {report : Option Report} (hdir : q.dir = .write)
    (hright : deniedRight s.window m .write (s.map.place q.addr.toNat) = none)
    (hh : handleWrite issue m q (s.map.place q.addr.toNat) s = .refuse report) :
    examine issue m q s =
      deny m q .kind (some (s.map.place q.addr.toNat).region) report s := by
  simp [examine, hdir, hright, handle, hh]

/-- Settles O31: the first failing test refuses, and the request is denied behind its report. -/
theorem orderWriteIsRefusedByTheFirstTest : Obligations.OrderWriteIsRefusedByTheFirstTest := by
  intro m q r k reason s hwf hdir he hl haligned hinside hkind hlt ho hright e w0 mode owner hcase
  have howner : owner = e.owner.master := owner_master e.owner
  rw [howner] at hcase
  have hjudge : judgeOrder (s.robot r) m q.len q.words = .refused reason := judgeOrder_refused hcase
  have hh := handleWrite_orderRefused (m := m) (issue := issueFull) hkind hlt ho hjudge
  have hdeny := (arrive_examines haligned hinside).trans (examine_kindRefused hdir hright hh)
  obtain ⟨t, hexec, hframe, hlim, hstaging, hwriter, harb⟩ := denied_ends hwf he hl hdeny
  obtain ⟨hlim', hstaging', hwriter'⟩ := deny_denied_behind m q .kind
    (some (s.map.place q.addr.toNat).region)
    (orderRefusedReport r (s.robot r) m (8 * (r.num - 1) + k) q.words reason) s
  have hreport : orderRefusedReport r (s.robot r) m (8 * (r.num - 1) + k) q.words reason =
      .orderRefused r m reason e.state e.owner
        (if k = 0 then some (w0.extractLsb' 0 16) else none) (if k = 0 then some mode else none) := by
    have hcovered : (8 * (r.num - 1) + k) % 8 = 0 ↔ k = 0 := by omega
    simp only [orderRefusedReport, hcovered, decide_eq_true_eq]
    rfl
  rw [hreport] at hlim hstaging hwriter hlim' hstaging' hwriter'
  have hparticulars : particularsOf q .kind (some (s.map.place q.addr.toNat).region) =
      { cause := .kind, dir := .write, addr := q.addr, len := q.len
        region := some (s.map.place q.addr.toNat).region } := by
    rw [particularsOf, hdir]
  rw [hparticulars] at hlim' hstaging' hwriter'
  have hzero : zeroData q.dir q.len = [] := by rw [hdir]; rfl
  rw [hzero] at harb
  exact ⟨t, hexec, hframe, ⟨hlim.trans hlim', hstaging.trans hstaging', hwriter.trans hwriter'⟩, harb⟩

end Sys2Proof.Machine

namespace Sys2Proof.Machine

/-! ### Orders: a passed FILL (R108 to R110) -/

theorem guardFlags_any_iff (g : GuardFlags) : g.any = false ↔ g = ⟨false, false, false, false⟩ := by
  obtain ⟨a, b, c, d⟩ := g
  simp [GuardFlags.any, and_assoc]

/-- The entry that a passed FILL leaves (R108). -/
def RobotEntry.filled (e : RobotEntry) (now : Micros) (tag : BitVec 16) (v f : Nat) : RobotEntry :=
  { e with
    state := .ordered
    order := some { tag := tag, mode := .fill, volume := some v }
    fresh := false
    fp := f
    pickupTimer := some now
    fillTimer := if e.state = .ready then none else e.fillTimer }

theorem orderFill_eq {now : Micros} {e : RobotEntry} (hs : e.state = .ready ∨ e.state = .ordered)
    (tag : BitVec 16) (v f : Nat) :
    (e.begin.orderFill now).takeOrder { tag := tag, mode := .fill, volume := some v } f =
      { entry := e.filled now tag v f
        notes := if e.state = .ready then
          [.moved .ready .ordered .order e.faultCode e.run (e.order.map Order.tag)] else []
        answers := [] } := by
  obtain ⟨state⟩ := e
  simp only at hs
  rcases hs with rfl | rfl <;> rfl

theorem passFill_eq {r : Robot} {now : Micros} {e : RobotEntry}
    (hs : e.state = .ready ∨ e.state = .ordered) (tag : BitVec 16) (v f h : Nat) (g : Guarded) :
    e.begin.passFill r now tag v f h g =
      { entry := e.filled now tag g.v g.f
        notes := (if e.state = .ready then
            [.moved .ready .ordered .order e.faultCode e.run (e.order.map Order.tag)] else []) ++
          (if g.flags = ⟨false, false, false, false⟩ then []
           else [.other (guardedReport r e.owner tag v f h g)])
        answers := [] } := by
  have hfilled := orderFill_eq (now := now) hs tag g.v g.f
  by_cases hf : g.flags = ⟨false, false, false, false⟩
  · simp [RobotChange.passFill, hfilled, (guardFlags_any_iff _).2 hf, if_pos hf]
  · have hany : g.flags.any = true := by
      rw [← Bool.not_eq_false]
      exact fun h => hf ((guardFlags_any_iff _).1 h)
    simp only [RobotChange.passFill, hfilled, hany, if_neg hf]
    rfl

theorem map_passFill {α β : Type} (f : α → β) (a b : α) (p q : Prop) [Decidable p] [Decidable q] :
    ((if p then [a] else []) ++ (if q then [] else [b])).map f =
      (if p then [f a] else []) ++ (if q then [] else [f b]) := by
  split_ifs <;> rfl

/-- Settles O32: the guarded FILL goes to memory and is the robot's order. -/
theorem fillOrderIsGuardedAndPassed : Obligations.FillOrderIsGuardedAndPassed := by
  intro m q r w0 w1 w2 w3 w4 w5 w6 w7 s hdir hlen hwords hall haligned he hl hinside hkind ho hright
    hcredit e howner hcode hst tag v f h fmax v' f1 f' h' flags word
  have hrightful : Rightful m q .orders s := by
    refine ⟨?_, hdir, he, hl, ?_, ?_, hkind, hright, hcredit⟩
    · simp [Request.wf, hdir, hlen, hwords, BurstLen.words]
    · rw [hlen]; exact haligned
    · rw [hlen]; exact hinside
  have hmaster : m = e.owner.master := howner.trans (owner_master e.owner)
  have hpass : e.state.refuses .fill = none := by
    rcases hst with hst | hst <;> rw [hst] <;> rfl
  have hmode : OrderMode.ofCode? (orderModeCode (wordAt q.words 0)) = some .fill := by
    rw [hwords]
    exact (ofCode?_fill_iff _).2 hcode
  have hh := handleWrite_orderPassed (issue := issueFull) hkind ho (judgeOrder_passedMode hmaster hlen hall hmode hpass)
  have hguard : guardOf r q.words s = ⟨v', f', h', flags⟩ := by
    rw [guardOf, hwords]
    rfl
  rw [orderWords, hguard] at hh
  have hc := passFill_eq (r := r) (now := s.now) (e := s.robot r) hst tag v f h ⟨v', f', h', flags⟩
  obtain ⟨t, hexec, hadm, hframe, hrep⟩ := hrightful.changesRobot (r := r)
    (f := RobotChange.passFill r s.now tag v f h ⟨v', f', h', flags⟩) hh
    (by
      have hguard' : guardOf r q.words (admitted m q .orders
          (fillWords q.words ⟨v', f', h', flags⟩ (s.robot r).owner s.clock.stamp) s) =
          ⟨v', f', h', flags⟩ := hguard
      rw [passOrder, hguard', hwords]
      rfl) hc
  refine ⟨t, hexec, ?_, ?_, ?_⟩
  · rw [hframe]
    simp only [List.append_nil]
    rfl
  · rw [Admitted, State.txn, hdir, hlen, ho, hwords] at hadm
    exact hadm
  · rw [map_passFill] at hrep
    exact hrep

/-! ### A passed HOLD or PARK -/

theorem passStop_unordered {r : Robot} {now : Micros} {tag : BitVec 16} {mode : OrderMode}
    {e : RobotEntry} (hs : e.state ≠ .ordered) :
    e.begin.passStop r now tag mode =
      { entry := { e with order := some ⟨tag, mode, none⟩, fresh := false, fp := 0 }
        notes := [], answers := [] } := by
  rw [RobotChange.passStop, if_neg (show e.begin.entry.state ≠ .ordered from hs)]
  rfl

theorem passStop_unpended {r : Robot} {now : Micros} {tag : BitVec 16} {mode : OrderMode}
    {e : RobotEntry} (hs : e.state = .ordered) (hp : e.transferPending = false) :
    e.begin.passStop r now tag mode =
      { entry := { e with
          order := some ⟨tag, mode, none⟩, fresh := false, fp := 0, state := .ready, hold := none
          fillRecord := none, pickupTimer := none, fillTimer := none }
        notes := [.moved .ordered .ready .order e.faultCode e.run (e.order.map Order.tag)]
        answers := [] } := by
  obtain ⟨state⟩ := e
  simp only at hs hp
  subst hs hp
  rfl

theorem passStop_pending {r : Robot} {now : Micros} {tag : BitVec 16} {mode : OrderMode}
    {e : RobotEntry} (hs : e.state = .ordered) (hp : e.transferPending = true) :
    e.begin.passStop r now tag mode =
      { entry := { e with
          order := some ⟨tag, mode, none⟩, fresh := true, fp := 0, state := .ready, hold := none
          fillRecord := none, pickupTimer := none, fillTimer := none
          owner := .service, transferPending := false }
        notes := [.moved .ordered .ready .order e.faultCode e.run (e.order.map Order.tag),
          .moved .ready .ready .transfer e.faultCode e.run (some tag)]
        answers := [.taken r] } := by
  obtain ⟨state⟩ := e
  simp only at hs hp
  subst hs hp
  rfl

theorem guardWord_clear (o : Owner) :
    guardWord .clear o = if o = .service then 0x100 else 0 := by
  cases o <;> rfl

/-- Settles O33: a HOLD or PARK stops the robot, by its state and its pending transfer. -/
theorem stopOrderIsPassed : Obligations.StopOrderIsPassed := by
  intro m q r w0 w1 w2 w3 w4 w5 w6 w7 mode s hr hlen hwords hall ho e howner hcode hst tag word guard
    passes taken ready report old
  have hmaster : m = e.owner.master := howner.trans (owner_master e.owner)
  have hmode : OrderMode.ofCode? (orderModeCode (wordAt q.words 0)) = some mode := by
    have hfield : orderModeCode (wordAt q.words 0) = w0.data.extractLsb' 16 2 := by rw [hwords]; rfl
    rw [hfield]
    rcases hcode with ⟨h, rfl⟩ | ⟨h, rfl⟩ <;> rw [h] <;> rfl
  have hstop : mode = .hold ∨ mode = .park := hcode.imp And.right And.right
  have hpass : e.state.refuses mode = none := by
    simp only [List.mem_cons, List.not_mem_nil, or_false] at hst
    rcases hst with h | h | h | h <;> rcases hstop with rfl | rfl <;> rw [h] <;> rfl
  have hh := handleWrite_orderPassed (issue := issueFull) hr.kind ho (judgeOrder_passedMode hmaster hlen hall hmode hpass)
  have hwrites : orderWords r mode q.words s =
      [w0, w1, w2, w3, word guard, w5, word s.clock.stamp.wordA, word s.clock.stamp.wordB] := by
    have hwords' : orderWords r mode q.words s = stopWords q.words e.owner s.clock.stamp := by
      rcases hstop with rfl | rfl <;> rfl
    rw [hwords', stopWords, guardWord_clear, hwords]
    rfl
  rw [hwrites] at hh
  have heff (ws : List WriteWord) : passOrder r mode q.words (admitted m q .orders ws s) =
      changeRobot r (RobotChange.passStop r s.now tag mode) (admitted m q .orders ws s) := by
    have htag : tag = orderTag (wordAt q.words 0) := by rw [hwords]; rfl
    rw [htag]
    rcases hstop with rfl | rfl <;> rfl
  have hends {c : RobotChange} (hc : (s.robot r).begin.passStop r s.now tag mode = c) :
      passes c.entry (c.notes.map (RobotNote.report r c.entry)) c.answers :=
    hr.changesRobot hh (heff _) hc
  refine ⟨fun hs => hends (passStop_unordered hs), fun hs hp => ?_, fun hs hp => ?_⟩
  · have hpassed := hends (passStop_unpended (tag := tag) (mode := mode) hs hp)
    exact hpassed
  · have hpassed := hends (passStop_pending (tag := tag) (mode := mode) hs hp)
    exact hpassed

end Sys2Proof.Machine

namespace Sys2Proof.Machine

/-! ### Settling (R153) -/

theorem mem_allRobots (r : Robot) : r ∈ allRobots := by cases r <;> decide

/-- The test of settling behind the reports `rs` of its event, from the window `w`. -/
theorem settleTest_settled {w : ServiceWindow} {rs : List Report} {s v : State} (hw : v.window = w)
    (hr : Reported rs s v) (hc : v.clock = s.clock := by rfl) (hm : v.map = s.map := by rfl) :
    Settled w rs s (settleTest v) := by
  subst hw
  by_cases hset : v.window.settles = true
  · obtain ⟨hst, hrefusal, hflight, hreturns⟩ := (settles_iff _).1 hset
    rw [Settled, if_pos ⟨hst, hrefusal, hflight, fun r _ => hreturns r⟩, settleTest, if_pos hset]
    refine ⟨settle_window v, hr.trans ?_ hc hm⟩
    have hreport : Reported [windowReport v.window.state .settled
        { v.window with state := idleState v.window.key }]
        (setWin { v.window with state := idleState v.window.key } v) (settle v) := ⟨rfl, rfl⟩
    rw [hst] at hreport
    exact hreport.congr rfl rfl rfl rfl
  · rw [Settled, if_neg, settleTest, if_neg hset]
    · exact ⟨rfl, hr⟩
    · rintro ⟨hst, hrefusal, hflight, hreturns⟩
      exact hset ((settles_iff _).2 ⟨hst, hrefusal, hflight, fun r => hreturns r (mem_allRobots r)⟩)

theorem settleTest_transit (s : State) : (settleTest s).transit = s.transit := by
  rw [settleTest_only]

theorem settleTest_mail (s : State) : (settleTest s).mail = s.mail := by
  unfold settleTest
  split_ifs
  · exact settle_mail s
  · rfl

theorem settleTest_frame (s : State) :
    settleTest s = { s with window := (settleTest s).window, staging := (settleTest s).staging
                            writer := (settleTest s).writer } := by
  have h := settleTest_only s
  rw [WindowOnly, settleTest_mail] at h
  exact h

theorem settleTest_ends {w : ServiceWindow} {rs : List Report} {s v : State} (hw : v.window = w)
    (hr : Reported rs s v) (hc : v.clock = s.clock := by rfl) (hm : v.map = s.map := by rfl) :
    ∃ t, finish (settleTest v) = .next t ∧ Arbitrated v.transit t ∧
      t = { v with window := t.window, staging := t.staging, writer := t.writer
                   transit := t.transit } ∧ Settled w rs s t := by
  refine ⟨arbitrate (settleTest v), rfl, ?_, ?_, settleTest_settled hw hr hc hm⟩
  · unfold Arbitrated
    rw [← settleTest_transit v]
    rfl
  · rw [arbitrate_frame, settleTest_frame]

theorem lanesTaken_congr {s t : State} (h : t.transit = s.transit) :
    t.lanesTaken ↔ s.lanesTaken := by
  rw [State.lanesTaken, State.lanesTaken, h]

theorem finishLanes_settleTest {v : State} (h : v.lanesTaken) :
    finishLanes (settleTest v) = finish (settleTest v) :=
  finishLanes_of_taken ((lanesTaken_congr (settleTest_transit v)).2 h)

/-! ### The refusal and the answers (R147, R151) -/

theorem refusalEvent_quiet {s : State} (hr : s.window.refusal = true)
    (hp : ∀ q, s.transit.ports.service ≠ .held q) :
    refusalEvent s = settleTest (setWin { s.window with refusal := false } s) := by
  have hheld : refuseHeld s = s := by
    unfold refuseHeld
    split
    · next r h => exact absurd h (hp r)
    all_goals rfl
  rw [refusalEvent, if_pos hr, hheld]

theorem refusalEvent_held {q : Request} {s : State} (hr : s.window.refusal = true)
    (hp : s.transit.ports.service = .held q) :
    refusalEvent s = settleTest
      (setWin { s.window with refusal := false }
        (deny .service q .window (some (s.map.place q.addr.toNat).region) none s)) := by
  have hheld : refuseHeld s =
      deny .service q .window (some (s.map.place q.addr.toNat).region) none s := by
    have hp' : s.transit.ports.get .service = .held q := hp
    simp only [refuseHeld, hp']
  have hwindow : (deny .service q .window (some (s.map.place q.addr.toNat).region) none s).window =
      s.window := by rw [deny_frame]
  rw [refusalEvent, if_pos hr, hheld]
  simp only [hwindow]

theorem takeAnswer_eq (r : Robot) (new : RobotOutcome) (s : State) :
    takeAnswer r new s = setWin { s.window with
      robotSet :=
        if s.window.robotSet.get r = some .requested ∨ s.window.robotSet.get r = some .pending then
          s.window.robotSet.set r (some new)
        else s.window.robotSet } s := by
  unfold takeAnswer
  cases hr : s.window.robotSet.get r with
  | none => simp; rfl
  | some old =>
    have hset : s.window.robotSet.set r (some old) = s.window.robotSet := by
      rw [← hr]
      exact PerRobot.set_get ..
    cases old <;> simp [answered, hset]

/-- Settles O47: the refusal and the answers, each taken by the window. -/
theorem refusalAndAnswersReachTheWindow : Obligations.RefusalAndAnswersReachTheWindow := by
  intro s w
  refine ⟨fun hr hl hp => ?_, fun q hr hp hl hlane => ?_, fun r pending rest hmail => ?_⟩
  · change ∃ t, finishLanes (refusalEvent s) = .next t ∧ _
    have htaken : (setWin { s.window with refusal := false } s).lanesTaken := hl
    rw [refusalEvent_quiet hr hp, finishLanes_settleTest htaken]
    exact settleTest_ends rfl ⟨rfl, rfl⟩
  · intro u
    have hdenied := deny_denied .service q .window (some (s.map.place q.addr.toNat).region) s
    have htransit := deny_transit .service q .window (some (s.map.place q.addr.toNat).region) none s
    have htaken := deny_lanesTaken (m := .service) q .window
      (some (s.map.place q.addr.toNat).region) none hl hlane
    have hframe := deny_frame .service q .window (some (s.map.place q.addr.toNat).region) none s
    change ∃ t, finishLanes (refusalEvent s) = .next t ∧ _
    rw [refusalEvent_held hr hp]
    generalize deny .service q .window (some (s.map.place q.addr.toNat).region) none s = v at *
    obtain ⟨hlim, hstaging, hwriter⟩ := hdenied
    obtain ⟨t, hexec, harb, hend, hset⟩ := settleTest_ends
      (v := setWin { s.window with refusal := false } v) (s := u) (rs := []) rfl
      ⟨hstaging, hwriter⟩ (by rw [countDenial_clock, hframe]; rfl)
      (by rw [countDenial_map, hframe]; rfl)
    have htaken' : (setWin { s.window with refusal := false } v).lanesTaken := htaken
    rw [← finishLanes_settleTest htaken'] at hexec
    refine ⟨t, hexec, ?_, hset, ?_⟩
    · have hlimiters : v.limiters = u.limiters := hlim
      rw [← hlimiters, hend, hframe]
      rfl
    · unfold Arbitrated at harb ⊢
      rw [← htransit]
      exact harb
  · intro new
    have hevent : answerEvent s = takeAnswer r new (s.setMail { s.mail with answers := rest }) := by
      cases pending <;> simp only [answerEvent, hmail] <;> rfl
    refine ⟨arbitrate (answerEvent s), rfl, ?_, ?_⟩
    · rw [hevent, takeAnswer_eq]
      rfl
    · rw [hevent, takeAnswer_eq]
      rfl

end Sys2Proof.Machine

namespace Sys2Proof.Machine

/-! ### Returns (R103, R151) -/

/-- The entry of a SERVICE-owned robot that is given back. -/
def RobotEntry.givenBack (e : RobotEntry) : RobotEntry :=
  if e.state ∈ [.ready, .ordered, .filling, .starting] then
    { e with owner := .line, transferPending := false, state := .held, hold := some .serviceEnded
             fresh := true, fp := 0, fillRecord := none, pickupTimer := none, fillTimer := none }
  else if e.state = .silent then
    { e with owner := .line, transferPending := false, hold := some .serviceEnded }
  else { e with owner := .line, transferPending := false }

theorem givenBack_owner (e : RobotEntry) : e.givenBack.owner = .line := by
  unfold RobotEntry.givenBack
  split_ifs <;> rfl

theorem giveBack_eq (r : Robot) (now : Micros) (e : RobotEntry) :
    e.begin.giveBack r now =
      { entry := e.givenBack
        notes := [.moved e.state e.givenBack.state .serviceReturn e.faultCode e.run
          (e.order.map Order.tag)]
        answers := [] } := by
  obtain ⟨state⟩ := e
  cases state <;> rfl

theorem setOutcome_eq (r : Robot) (o : RobotOutcome) (s : State) :
    setOutcome r o s = setWin
      (if (s.window.robotSet.get r).isSome = true then
        { s.window with robotSet := s.window.robotSet.set r (some o) } else s.window) s := by
  unfold setOutcome
  cases s.window.robotSet.get r <;> rfl

/-- The window after an outcome is recorded for robot r. -/
def ServiceWindow.noted (w : ServiceWindow) (r : Robot) (o : RobotOutcome) : ServiceWindow :=
  if (w.robotSet.get r).isSome = true then { w with robotSet := w.robotSet.set r (some o) } else w

theorem takeReturn_service {r : Robot} {s : State} (h : (s.robot r).owner = .service) :
    takeReturn r s = { s with
        robots := { s.robots with table := s.robots.table.set r (s.robot r).givenBack }
        window := s.window.noted r .returned
        staging := (takeReturn r s).staging, writer := (takeReturn r s).writer } ∧
      Reported [.robotState r (s.robot r).state (s.robot r).givenBack.state .serviceReturn .line
        (s.robot r).givenBack.hold (s.robot r).givenBack.fault (s.robot r).faultCode (s.robot r).run
        ((s.robot r).order.map Order.tag)] s (takeReturn r s) := by
  have htake : takeReturn r s =
      setOutcome r .returned (changeRobot r (RobotChange.giveBack r s.now) s) := by
    simp only [takeReturn, h]
  have heq := changeRobot_eq r (RobotChange.giveBack r s.now) s
  have hrep := changeRobot_reported r (RobotChange.giveBack r s.now) s
  rw [giveBack_eq] at heq hrep
  simp only [List.append_nil] at heq
  rw [setOutcome_eq] at htake
  rw [htake]
  generalize changeRobot r (RobotChange.giveBack r s.now) s = v at *
  refine ⟨by rw [heq]; rfl, ?_⟩
  rw [← givenBack_owner (s.robot r)]
  exact hrep

theorem takeReturn_pending {r : Robot} {s : State} (h : (s.robot r).owner = .line)
    (hp : (s.robot r).transferPending = true) :
    takeReturn r s = { s with
      robots := { s.robots with
        table := s.robots.table.set r { s.robot r with transferPending := false } }
      window := s.window.noted r .cancelled } := by
  have htake : takeReturn r s = setOutcome r .cancelled (cancelTransfer r s) := by
    simp only [takeReturn, h]
    exact if_pos hp
  rw [htake, setOutcome_eq]
  rfl

theorem takeReturn_unpended {r : Robot} {s : State} (h : (s.robot r).owner = .line)
    (hp : (s.robot r).transferPending = false) : takeReturn r s = s := by
  simp only [takeReturn, h, hp]
  rfl

/-- The end of ROBOT_RETURN, by what the taking of the return leaves. -/
theorem robotReturn_ends {r : Robot} {rest : List TransferMsg} {s v : State} {rs : List Report}
    {x : RobotEntry} {w' : ServiceWindow} (hmail : s.mail.transfers = .giveBack r :: rest)
    (htake : takeReturn r (s.setMail { s.mail with transfers := rest }) = v)
    (hv : v = { s with
      robots := { s.robots with table := s.robots.table.set r x }
      mail := { s.mail with transfers := rest }, window := w'
      staging := v.staging, writer := v.writer })
    (hr : Reported rs s v) :
    ∃ t, Machine.exec .robotReturn s = .next t ∧ Arbitrated s.transit t ∧
      t = { s with
        robots := { s.robots with table := s.robots.table.set r x }
        mail := { s.mail with transfers := rest }, window := t.window
        staging := t.staging, writer := t.writer, transit := t.transit } ∧
      Settled w' rs s t := by
  have hevent : robotReturnEvent s = settleTest v := by
    simp only [robotReturnEvent, hmail, ← htake]
  obtain ⟨t, hexec, harb, hframe, hset⟩ := settleTest_ends (w := w') (by rw [hv]) hr
    (by rw [hv]) (by rw [hv])
  refine ⟨t, ?_, ?_, ?_, hset⟩
  · rw [← hexec, ← hevent]
    rfl
  · rw [hv] at harb
    exact harb
  · rw [hframe, hv]

/-- Settles O46: by the owner and the pending transfer of the robot given back. -/
theorem robotReturnTakesTheRobotBack : Obligations.RobotReturnTakesTheRobotBack := by
  intro r rest s hmail e w noted back e' becomes
  refine ⟨fun howner => ?_, fun howner hp => ?_, fun howner hp => ?_⟩
  · obtain ⟨hframe, hrep⟩ := takeReturn_service (s := s.setMail { s.mail with transfers := rest }) howner
    exact robotReturn_ends hmail rfl hframe (hrep.congr rfl rfl rfl rfl)
  · have htake := takeReturn_pending (s := s.setMail { s.mail with transfers := rest }) howner hp
    exact robotReturn_ends hmail htake rfl ⟨rfl, rfl⟩
  · have htake := takeReturn_unpended (s := s.setMail { s.mail with transfers := rest }) howner hp
    have hset : s.robots.table.set r e = s.robots.table := PerRobot.set_get ..
    exact robotReturn_ends hmail htake (by rw [hset]; rfl) ⟨rfl, rfl⟩

end Sys2Proof.Machine

namespace Sys2Proof.Machine

/-! ### The key and the endings of a session (R145, R149 to R151) -/

theorem changeWindow_reported (cause : WindowCause) (w : ServiceWindow) (s : State) :
    Reported [windowReport s.window.state cause w] s (changeWindow cause w s) := by
  have h : Reported [windowReport s.window.state cause w] (setWin w s) (changeWindow cause w s) :=
    ⟨rfl, rfl⟩
  exact h.congr rfl rfl rfl rfl

theorem changeWindow_frame (cause : WindowCause) (w : ServiceWindow) (s : State) :
    changeWindow cause w s = { s with
      window := w, staging := (changeWindow cause w s).staging
      writer := (changeWindow cause w s).writer } := by
  rw [changeWindow, raise_frame]
  rfl

theorem drain_frame (cause : WindowCause) (s : State) :
    drain cause s = { s with
      window := s.window.drained
      mail := { s.mail with
        transfers := s.mail.transfers ++ forRobotSet s.window.robotSet .giveBack }
      staging := (drain cause s).staging, writer := (drain cause s).writer } := by
  have h := changeWindow_frame cause s.window.drained s
  rw [drain, sendTransfers]
  generalize changeWindow cause s.window.drained s = v at *
  rw [h]
  rfl

theorem drain_reported (cause : WindowCause) (s : State) :
    Reported [windowReport s.window.state cause s.window.drained] s (drain cause s) :=
  changeWindow_reported cause s.window.drained s

/-- The end of an event that changes the window and the messages, and raises the reports `rs`. -/
theorem window_ends {s v : State} {w : ServiceWindow} {mail : Mail} {rs : List Report}
    (hv : v = { s with window := w, mail := mail, staging := v.staging, writer := v.writer })
    (hr : Reported rs s v) :
    ∃ t, finish v = .next t ∧ Arbitrated s.transit t ∧
      t = { s with window := w, mail := mail, staging := t.staging, writer := t.writer
                   transit := t.transit } ∧ Reported rs s t := by
  refine ⟨arbitrate v, rfl, ?_, ?_, hr⟩
  · rw [hv]; rfl
  · rw [arbitrate_frame, hv]

theorem windowTimerEvent_due {d : Micros} {s : State} (hst : s.window.state = .opened)
    (hd : s.window.deadline = some d) (hpast : (s.clock.m - d).toNat < 2 ^ 47) :
    windowTimerEvent s = drain .expired s := by
  refine if_pos ?_
  simp only [windowTimerDue, hst, hd, decide_true, Bool.true_and]
  exact decide_eq_true hpast

theorem linkLossEvent_opened {p : SwPort} {rest : List SwPort} {s : State}
    (hm : s.mail.serviceLoss = p :: rest) (hst : s.window.state = .opened) :
    linkLossEvent s = drain .linkLost (s.setMail { s.mail with serviceLoss := rest }) := by
  simp only [linkLossEvent, hm]
  exact if_pos hst

theorem linkLossEvent_other {p : SwPort} {rest : List SwPort} {s : State}
    (hm : s.mail.serviceLoss = p :: rest) (hst : s.window.state ≠ .opened) :
    linkLossEvent s = s.setMail { s.mail with serviceLoss := rest } := by
  simp only [linkLossEvent, hm]
  exact if_neg hst

theorem runServiceRevoke_opened {s : State} (hsafe : s.loader.condition ≠ .safe)
    (hst : s.window.state = .opened) :
    runServiceRevoke s =
      { state := drain .revoke s, code := .done, data := pageOne [.half s.window.session] } := by
  simp [runServiceRevoke, State.isSafe, hsafe, hst]

theorem runServiceRevoke_refused {s : State}
    (h : ¬(s.loader.condition ≠ .safe ∧ s.window.state = .opened)) :
    runServiceRevoke s = refuse s .refusedState := by
  refine if_pos ?_
  by_cases hsafe : s.loader.condition = .safe
  · simp [State.isSafe, hsafe]
  · simp [show s.window.state ≠ .opened from fun hst => h ⟨hsafe, hst⟩]

theorem keyEvent_on {s : State} (hk : s.window.key = false) (hst : s.window.state = .closed) :
    keyEvent true s =
      changeWindow .keyOn { s.window with key := true, state := .keyed } (recordKey true s) := by
  rw [keyEvent, if_neg (by rw [hk]; decide)]
  simp only [hst]
  rfl

theorem keyEvent_off_keyed {s : State} (hk : s.window.key = true) (hst : s.window.state = .keyed) :
    keyEvent false s =
      changeWindow .keyOff { s.window with key := false, state := .closed } (recordKey false s) := by
  rw [keyEvent, if_neg (by rw [hk]; decide)]
  simp only [hst]
  rfl

theorem keyEvent_off_opened {s : State} (hk : s.window.key = true) (hst : s.window.state = .opened) :
    keyEvent false s = drain .keyOff (recordKey false s) := by
  rw [keyEvent, if_neg (by rw [hk]; decide)]
  simp only [hst]

theorem keyEvent_draining {level : Bool} {s : State} (hst : s.window.state = .draining) :
    keyEvent level s = recordKey level s := by
  unfold keyEvent
  split_ifs with hk
  · rw [recordKey, ← hk]
    rfl
  · simp only [hst]

/-- Settles O44: the key by the window's state, and each ending of an OPEN window. -/
theorem keyAndTheEndingsOfASession : Obligations.KeyAndTheEndingsOfASession := by
  intro s w goes sent drained report
  have hopened (key : Bool) (cause : WindowCause) (hst : w.state = .opened) :
      [windowReport w.state cause { w with key := key }.drained] = [report key cause] := by
    rw [hst]
    rfl
  refine ⟨fun hk hst => ?_, fun hk hst => ?_, fun level hst => ?_, fun hk hst => ?_,
    fun d hst hd hpast => ?_, fun p rest hm => ⟨fun hst => ?_, fun hst => ?_⟩,
    fun n rest htakes => ?_⟩
  · have hrep := changeWindow_reported .keyOn { w with key := true, state := .keyed } (recordKey true s)
    have hframe := changeWindow_frame .keyOn { w with key := true, state := .keyed } (recordKey true s)
    rw [← keyEvent_on hk hst] at hrep hframe
    rw [show (recordKey true s).window.state = .closed from hst] at hrep
    exact window_ends hframe (hrep.congr rfl rfl rfl rfl)
  · have hrep := changeWindow_reported .keyOff { w with key := false, state := .closed } (recordKey false s)
    have hframe := changeWindow_frame .keyOff { w with key := false, state := .closed } (recordKey false s)
    rw [← keyEvent_off_keyed hk hst] at hrep hframe
    rw [show (recordKey false s).window.state = .keyed from hst] at hrep
    exact window_ends hframe (hrep.congr rfl rfl rfl rfl)
  · exact window_ends (v := keyEvent level s) (by rw [keyEvent_draining hst]; rfl)
      (by rw [keyEvent_draining hst]; exact ⟨rfl, rfl⟩)
  · have hrep := drain_reported .keyOff (recordKey false s)
    have hframe := drain_frame .keyOff (recordKey false s)
    rw [← keyEvent_off_opened hk hst] at hrep hframe
    rw [← hopened false .keyOff hst]
    exact window_ends hframe (hrep.congr rfl rfl rfl rfl)
  · have hrep := drain_reported .expired s
    have hframe := drain_frame .expired s
    rw [← windowTimerEvent_due hst hd hpast] at hrep hframe
    rw [← hopened w.key .expired hst]
    exact window_ends hframe hrep
  · have hrep := drain_reported .linkLost (s.setMail { s.mail with serviceLoss := rest })
    have hframe := drain_frame .linkLost (s.setMail { s.mail with serviceLoss := rest })
    rw [← linkLossEvent_opened hm hst] at hrep hframe
    rw [← hopened w.key .linkLost hst]
    exact window_ends hframe (hrep.congr rfl rfl rfl rfl)
  · exact window_ends (v := linkLossEvent s) (by rw [linkLossEvent_other hm hst]; rfl)
      (by rw [linkLossEvent_other hm hst]; exact ⟨rfl, rfl⟩)
  · intro ok
    by_cases hok : ok
    · have hrep := drain_reported .revoke (beginIssue n (opcodeWord 0x42 rest) s)
      have hframe := drain_frame .revoke (beginIssue n (opcodeWord 0x42 rest) s)
      have hrun := runServiceRevoke_opened (s := beginIssue n (opcodeWord 0x42 rest) s) hok.1 hok.2
      obtain ⟨t, hexec, ht, hans, harb⟩ := command_ends htakes hrun _ hrep
        (by rw [hframe]) (by rw [hframe]; rfl) (by rw [hframe]; rfl)
      refine ⟨t, _, _, _, hexec, harb, hans, fun _ => ⟨?_, hopened w.key .revoke hok.2, rfl, rfl⟩,
        fun hn => absurd hok hn⟩
      rw [ht, hframe]
      rfl
    · have hrun := runServiceRevoke_refused (s := beginIssue n (opcodeWord 0x42 rest) s) hok
      obtain ⟨t, hexec, harb, ht, hans⟩ := refused_ends htakes hrun
      exact ⟨t, _, _, _, hexec, harb, hans, fun h => absurd h hok, fun _ => ⟨ht, rfl, rfl, rfl⟩⟩

end Sys2Proof.Machine

namespace Sys2Proof.Machine

/-! ### SERVICE_GRANT and SERVICE_EXTEND (R146, R147, R149) -/

theorem mapM_eq_some_of_forall₂ {α β : Type} {f : α → Option β} {l : List α} {gs : List β}
    (h : List.Forall₂ (fun a g => f a = some g) l gs) : l.mapM f = some gs := by
  induction h with
  | nil => rfl
  | cons hhead _ ih => simp [hhead, ih]

theorem mapM_eq_none_of_mem {α β : Type} {f : α → Option β} {l : List α} {a : α} (ha : a ∈ l)
    (hf : f a = none) : l.mapM f = none := by
  induction l with
  | nil => cases ha
  | cons b l ih =>
    rcases List.mem_cons.1 ha with rfl | hmem
    · simp [hf]
    · simp [ih hmem]

theorem grantable_iff {mp : RegionMap} {i : Nat} : mp.grantable i = true ↔
    ∃ e, mp.entries[i]? = some e ∧ e.enabled = true ∧ RegionKind.ofCode? e.kindCode ≠ some .control := by
  unfold RegionMap.grantable
  cases mp.entries[i]? <;> simp

theorem givenGrant_eq_some {n : Slot} {s : State} {i : Nat} {g : Grant}
    (hregion : g.region = s.paramBits n (2 + i) 0 8) (h15 : g.region ≤ 15)
    (hcode : s.paramBits n (2 + i) 8 2 = if g.rw = true then 2 else 1)
    (hg : s.map.grantable g.region = true) : givenGrant n s i = some g := by
  obtain ⟨region, rw⟩ := g
  simp only at hregion h15 hcode hg
  subst hregion
  cases rw <;> simp_all [givenGrant, grantRights?]

theorem givenGrant_eq_none {n : Slot} {s : State} {i : Nat}
    (h : 15 < s.paramBits n (2 + i) 0 8 ∨ s.paramBits n (2 + i) 8 2 ∉ [1, 2] ∨
      s.map.grantable (s.paramBits n (2 + i) 0 8) = false) : givenGrant n s i = none := by
  unfold givenGrant
  dsimp only
  cases hrights : grantRights? (s.paramBits n (2 + i) 8 2) with
  | none => rfl
  | some rw =>
    refine if_neg ?_
    rintro ⟨h15, hg⟩
    rcases h with h | h | h
    · omega
    · refine absurd hrights ?_
      unfold grantRights?
      split <;> simp_all
    · rw [h] at hg
      cases hg

theorem givenGrants_issued (n : Slot) (word : Word) (s : State) (count : Nat) :
    givenGrants n (beginIssue n word s) count = givenGrants n s count := by
  have h : givenGrant n (beginIssue n word s) = givenGrant n s := by
    funext i
    simp only [givenGrant, beginIssue_paramBits]
    rfl
  rw [givenGrants, h, givenGrants]

theorem namesOtherRobot_issued (n : Slot) (word : Word) (s : State) :
    namesOtherRobot n (beginIssue n word s) = namesOtherRobot n s := by
  simp only [namesOtherRobot, beginIssue_param]

theorem givenRobots_issued (n : Slot) (word : Word) (s : State) :
    givenRobots n (beginIssue n word s) = givenRobots n s := by
  simp only [givenRobots, beginIssue_param]

theorem givenGrants_eq_some {n : Slot} {s : State} {count : Nat} {gs : List Grant}
    (hlen : gs.length = count) (h : ∀ (i : Nat) (g : Grant), gs[i]? = some g → givenGrant n s i = some g) :
    givenGrants n s count = some gs := by
  refine mapM_eq_some_of_forall₂ (List.forall₂_iff_get.2 ⟨by simp [hlen], fun i h1 h2 => ?_⟩)
  rw [List.get_eq_getElem, List.getElem_range]
  exact h i _ (List.getElem?_eq_getElem h2)

theorem givenGrants_eq_none {n : Slot} {s : State} {count i : Nat} (hi : i < count)
    (h : givenGrant n s i = none) : givenGrants n s count = none :=
  mapM_eq_none_of_mem (List.mem_range.2 hi) h

theorem givenRobots_eq {n : Slot} {s : State} {rs : PerRobot (Option RobotOutcome)}
    (h : ∀ r, rs.get r = if (s.param n 1).getLsbD (8 + r.num) then some .requested else none) :
    givenRobots n s = rs := by
  obtain ⟨a, b, c, d, e, f⟩ := rs
  have h1 : a = _ := h .r1
  have h2 : b = _ := h .r2
  have h3 : c = _ := h .r3
  have h4 : d = _ := h .r4
  have h5 : e = _ := h .r5
  have h6 : f = _ := h .r6
  rw [h1, h2, h3, h4, h5, h6]
  rfl

theorem runServiceGrant_refusedState {n : Slot} {s : State}
    (h : s.loader.condition = .safe ∨ s.loader.load ≠ none ∨ s.window.state ≠ .keyed) :
    runServiceGrant n s = refuse s .refusedState := by
  refine if_pos ?_
  rcases h with h | h | h
  · simp [State.isSafe, h]
  · simp [Option.isSome_iff_ne_none.2 h]
  · simp [h]

/-- The checks of SERVICE_GRANT behind that of the state. -/
theorem runServiceGrant_refusedParam {n : Slot} {s : State} (hsafe : s.loader.condition ≠ .safe)
    (hload : s.loader.load = none) (hst : s.window.state = .keyed)
    (h : (s.paramWord n 0 = 0 ∨ 4 < s.paramBits n 1 0 8 ∨ namesOtherRobot n s = true) ∨
      givenGrants n s (s.paramBits n 1 0 8) = none) :
    runServiceGrant n s = refuse s .refusedParam := by
  have hstate : ¬(s.isSafe || s.loader.load.isSome || decide (s.window.state ≠ .keyed)) = true := by
    simp [State.isSafe, hsafe, hload, hst]
  unfold runServiceGrant
  dsimp only
  rw [if_neg hstate]
  rcases h with h | h
  · exact if_pos h
  · rw [h]
    exact ite_self _

theorem runServiceGrant_opens {n : Slot} {s : State} {gs : List Grant}
    (hsafe : s.loader.condition ≠ .safe) (hload : s.loader.load = none)
    (hst : s.window.state = .keyed)
    (h : ¬(s.paramWord n 0 = 0 ∨ 4 < s.paramBits n 1 0 8 ∨ namesOtherRobot n s = true))
    (hgs : givenGrants n s (s.paramBits n 1 0 8) = some gs) :
    runServiceGrant n s =
      { state := openWindow (min (s.paramWord n 0) s.window.maxDuration) gs (givenRobots n s) s
        code := if min (s.paramWord n 0) s.window.maxDuration = s.paramWord n 0 then .done
          else .doneAdjusted
        data := grantData (min (s.paramWord n 0) s.window.maxDuration)
          (openWindow (min (s.paramWord n 0) s.window.maxDuration) gs (givenRobots n s) s).window } := by
  have hstate : ¬(s.isSafe || s.loader.load.isSome || decide (s.window.state ≠ .keyed)) = true := by
    simp [State.isSafe, hsafe, hload, hst]
  unfold runServiceGrant
  dsimp only
  rw [if_neg hstate, if_neg h, hgs]

theorem openWindow_frame (d : Nat) (gs : List Grant) (rs : PerRobot (Option RobotOutcome)) (s : State) :
    openWindow d gs rs s = { s with
      window := s.window.granted s.now d gs rs
      mail := { s.mail with transfers := s.mail.transfers ++ forRobotSet rs .request }
      staging := (openWindow d gs rs s).staging, writer := (openWindow d gs rs s).writer } := by
  have h := changeWindow_frame .grant (s.window.granted s.now d gs rs) s
  rw [openWindow, sendTransfers]
  generalize changeWindow .grant (s.window.granted s.now d gs rs) s = v at *
  rw [h]
  rfl

theorem openWindow_reported (d : Nat) (gs : List Grant) (rs : PerRobot (Option RobotOutcome))
    (s : State) :
    Reported [windowReport s.window.state .grant (s.window.granted s.now d gs rs)] s
      (openWindow d gs rs s) :=
  changeWindow_reported .grant (s.window.granted s.now d gs rs) s

theorem runServiceExtend_refused {n : Slot} {s : State}
    (h : s.loader.condition = .safe ∨ s.window.state ≠ .opened) :
    runServiceExtend n s = refuse s .refusedState := by
  refine if_pos ?_
  rcases h with h | h <;> simp [State.isSafe, h]

theorem runServiceExtend_opened {n : Slot} {s : State} {sum : Nat}
    (hsafe : s.loader.condition ≠ .safe) (hst : s.window.state = .opened)
    (hsum : s.window.remaining s.now + s.paramBits n 0 0 16 * 1000000 = sum) :
    runServiceExtend n s =
      { state := setWin { s.window with
            deadline := some (s.now + BitVec.ofNat 48 (min sum (s.window.maxDuration * 1000000))) } s
        code := if min sum (s.window.maxDuration * 1000000) = sum then .done else .doneAdjusted
        data := pageOne [.half s.window.session,
          wordFld (min sum (s.window.maxDuration * 1000000) / 1000)] } := by
  subst hsum
  exact if_neg (by simp [State.isSafe, hsafe, hst])

/-- The microseconds left in OPEN, as the statement spells them. -/
theorem remaining_eq {w : ServiceWindow} {now d : Micros} (hd : w.deadline = some d) :
    w.remaining now = if (now - d).toNat < 2 ^ 47 then 0 else (d - now).toNat := by
  unfold ServiceWindow.remaining atOrPast elapsed
  simp only [hd]
  by_cases h : (now - d).toNat < 2 ^ 47
  · rw [if_pos h, decide_eq_true h]
    rfl
  · rw [if_neg h, decide_eq_false h]
    rfl

/-- Settles O45: the refusals and effects of SERVICE_GRANT and SERVICE_EXTEND. -/
theorem grantOpensAndExtendMovesTheDeadline : Obligations.GrantOpensAndExtendMovesTheDeadline := by
  intro n rest s htakes w refused
  refine ⟨fun h => refused_ends htakes (runServiceGrant_refusedState h),
    fun h => refused_ends htakes (runServiceExtend_refused h), fun hsafe hload hst hbad => ?_,
    fun gs rs hsafe hload hst hdur hlen hfew hgrants h8 h15 hrs => ?_,
    fun d hsafe hst hd => ?_⟩
  · have hnone : (s.paramWord n 0 = 0 ∨ 4 < s.paramBits n 1 0 8 ∨ namesOtherRobot n s = true) ∨
        givenGrants n s (s.paramBits n 1 0 8) = none := by
      rcases hbad with h | h | ⟨i, hi, h⟩ | h
      · exact .inl (.inl h)
      · exact .inl (.inr (.inl h))
      · refine .inr (givenGrants_eq_none hi (givenGrant_eq_none (h.imp_right (Or.imp_right fun h => ?_))))
        rw [← Bool.not_eq_true, grantable_iff]
        rintro ⟨e, he, hen, hcontrol⟩
        rcases h e he with h | h
        · rw [h] at hen
          cases hen
        · exact hcontrol h
      · exact .inl (.inr (.inr (by simpa [namesOtherRobot] using h)))
    refine refused_ends htakes (runServiceGrant_refusedParam hsafe hload hst ?_)
    rwa [beginIssue_paramWord, beginIssue_paramBits, givenGrants_issued, namesOtherRobot_issued]
  · intro d w'
    have hgs : givenGrants n s (s.paramBits n 1 0 8) = some gs := by
      refine givenGrants_eq_some hlen fun i g hg => ?_
      obtain ⟨hregion, h15, hcode, he⟩ := hgrants i g hg
      exact givenGrant_eq_some hregion h15 hcode (grantable_iff.2 he)
    have hpass : ¬(s.paramWord n 0 = 0 ∨ 4 < s.paramBits n 1 0 8 ∨ namesOtherRobot n s = true) := by
      rw [← hlen]
      simp only [namesOtherRobot, h8, h15]
      simp [hdur, hfew]
    have hrun := runServiceGrant_opens (n := n) (s := beginIssue n (opcodeWord 0x40 rest) s) (gs := gs)
      hsafe hload hst
      (by rwa [beginIssue_paramWord, beginIssue_paramBits, namesOtherRobot_issued])
      (by rwa [beginIssue_paramBits, givenGrants_issued])
    rw [givenRobots_issued, givenRobots_eq hrs, beginIssue_paramWord] at hrun
    have hframe := openWindow_frame d gs rs (beginIssue n (opcodeWord 0x40 rest) s)
    have hrep := openWindow_reported d gs rs (beginIssue n (opcodeWord 0x40 rest) s)
    rw [show (beginIssue n (opcodeWord 0x40 rest) s).window.state = .keyed from hst] at hrep
    obtain ⟨t, hexec, ht, hans, harb⟩ := command_ends htakes hrun _ hrep
      (by change (openWindow d gs rs _).slots = _; rw [hframe])
      (by change (openWindow d gs rs _).map = _; rw [hframe]; rfl)
      (by change (openWindow d gs rs _).transit = _; rw [hframe]; rfl)
    refine ⟨t, hexec, harb, ?_, ?_⟩
    · rw [ht]
      change { openWindow d gs rs _ with
        slots := t.slots, staging := t.staging, writer := t.writer, transit := t.transit } = _
      rw [hframe]
      rfl
    · have hdata : (openWindow d gs rs (beginIssue n (opcodeWord 0x40 rest) s)).window = w' := by
        rw [hframe]
        rfl
      rw [← hdata]
      exact hans
  · intro remaining sum left
    have hsum : w.remaining s.now + (beginIssue n (opcodeWord 0x41 rest) s).paramBits n 0 0 16 * 1000000 =
        sum := by
      rw [beginIssue_paramBits, remaining_eq hd]
      rfl
    have hrun := runServiceExtend_opened (n := n) (s := beginIssue n (opcodeWord 0x41 rest) s) hsafe hst
      hsum
    obtain ⟨t, hexec, ht, hans, harb⟩ := command_ends htakes hrun [] ⟨rfl, rfl⟩
    exact ⟨t, hexec, harb, ht, hans⟩

end Sys2Proof.Machine

namespace Sys2Proof.Machine

/-! ### The keepalive (R161, R162) -/

/-- The end of an event that changes the keepalive, sends notices and raises the reports `rs`. -/
theorem keepalive_ends {s v : State} {k : Keepalive} {notices : List KeepaliveMsg} {rs : List Report}
    (hv : v = { s with
      keepalive := k, mail := { s.mail with keepalive := s.mail.keepalive ++ notices }
      staging := v.staging, writer := v.writer })
    (hr : Reported rs s v) :
    ∃ t, finish v = .next t ∧ Arbitrated s.transit t ∧
      t = { s with
        keepalive := k, mail := { s.mail with keepalive := s.mail.keepalive ++ notices }
        staging := t.staging, writer := t.writer, transit := t.transit } ∧ Reported rs s t := by
  refine ⟨arbitrate v, rfl, ?_, ?_, hr⟩
  · rw [hv]; rfl
  · rw [arbitrate_frame, hv]

/-- The end of an event that changes the keepalive alone. -/
theorem keepalive_ends_quiet {s v : State} {k : Keepalive} (hv : v = s.setKeepalive k) :
    ∃ t, finish v = .next t ∧ Arbitrated s.transit t ∧
      t = { s with
        keepalive := k, mail := { s.mail with keepalive := s.mail.keepalive ++ [] }
        staging := t.staging, writer := t.writer, transit := t.transit } ∧ Reported [] s t := by
  subst hv
  exact keepalive_ends (by rw [List.append_nil]; rfl) ⟨rfl, rfl⟩

theorem exec_keepaliveWrite {v : Word} {s : State} (h : s.loader.condition ≠ .loading) :
    exec (.keepaliveWrite v) s = finish (keepaliveValue v s) := by
  change finish (if s.isLoading then s else keepaliveValue v s) = _
  rw [if_neg (by simp [State.isLoading, h])]

theorem exec_keepaliveWrite_loading {v : Word} {s : State} (h : s.loader.condition = .loading) :
    exec (.keepaliveWrite v) s = finish s := by
  change finish (if s.isLoading then s else keepaliveValue v s) = _
  rw [if_pos (by simp [State.isLoading, h])]

theorem keepaliveValue_changed {v : Word} {s : State} (h : v ≠ s.keepalive.last) :
    keepaliveValue v s = keepaliveChange v s := if_neg h

theorem keepaliveChange_unarmed {v : Word} {s : State} (h : s.keepalive.state = .unarmed) :
    keepaliveChange v s = s.setKeepalive { s.keepalive with last := v } := by
  simp only [keepaliveChange, h]

theorem keepaliveChange_running {v : Word} {s : State} (h : s.keepalive.state = .running) :
    keepaliveChange v s = s.setKeepalive { s.keepalive with last := v, timer := some s.now } := by
  simp only [keepaliveChange, h]

theorem keepaliveChange_lapsed {v : Word} {s : State} (h : s.keepalive.state = .lapsed) :
    keepaliveChange v s = sendKeepalive .resume
      (s.setKeepalive { s.keepalive with last := v, state := .running, timer := some s.now }) := by
  simp only [keepaliveChange, h]

theorem keepaliveLapsedEvent_due {t0 : Micros} {ms : Nat} {s : State}
    (hst : s.keepalive.state = .running) (ht : s.keepalive.timer = some t0)
    (hms : s.keepalive.timeout = some ms) (hdue : ms * 1000 ≤ (s.clock.m - t0).toNat) :
    keepaliveLapsedEvent s = lapseKeepalive s := by
  refine if_pos ?_
  simp only [keepaliveDue, hst, hms, decide_true, Bool.true_and]
  exact timerDue_of ht hdue

theorem lapseKeepalive_frame {ms : Nat} {s : State} (hms : s.keepalive.timeout = some ms) :
    lapseKeepalive s = { s with
        keepalive := { s.keepalive with state := .lapsed, timer := none }
        mail := { s.mail with keepalive := s.mail.keepalive ++ [.lapse] }
        staging := (lapseKeepalive s).staging, writer := (lapseKeepalive s).writer } ∧
      Reported [.keepaliveLapsed ms s.keepalive.last] s (lapseKeepalive s) := by
  have hrep : Reported [.keepaliveLapsed ms s.keepalive.last]
      (s.setKeepalive { s.keepalive with state := .lapsed, timer := none })
      (raise (.keepaliveLapsed ms s.keepalive.last)
        (s.setKeepalive { s.keepalive with state := .lapsed, timer := none })) := ⟨rfl, rfl⟩
  have hframe := raise_frame (.keepaliveLapsed ms s.keepalive.last)
    (s.setKeepalive { s.keepalive with state := .lapsed, timer := none })
  have hlapse : lapseKeepalive s = sendKeepalive .lapse (raise (.keepaliveLapsed ms s.keepalive.last)
      (s.setKeepalive { s.keepalive with state := .lapsed, timer := none })) := by
    rw [lapseKeepalive, hms]
    rfl
  rw [hlapse]
  generalize raise (.keepaliveLapsed ms s.keepalive.last)
    (s.setKeepalive { s.keepalive with state := .lapsed, timer := none }) = v at *
  exact ⟨by rw [hframe]; rfl, hrep.congr rfl rfl rfl rfl⟩

/-- The keepalive, the code and the data that KEEPALIVE_SET ends with. -/
theorem runKeepaliveSet_eq (n : Slot) (s : State) : ∃ k,
    (runKeepaliveSet n s).state = s.setKeepalive k ∧
    (k, (runKeepaliveSet n s).code, (runKeepaliveSet n s).data) =
      if s.loader.condition = .safe then (s.keepalive, .refusedState, none)
      else if s.keepalive.state ≠ .unarmed then (s.keepalive, .refusedOnce, none)
      else if s.paramWord n 0 < 10 ∨ 10000 < s.paramWord n 0 then (s.keepalive, .refusedParam, none)
      else ({ s.keepalive with
          state := .running, timeout := some (s.paramWord n 0), timer := some s.clock.m }, .done,
        pageOne [halfOf (s.paramWord n 0)]) := by
  simp only [runKeepaliveSet, State.isSafe, decide_eq_true_eq]
  split_ifs
  all_goals exact ⟨_, rfl, rfl⟩

/-- Settles O48: the keepalive word, the lapse and KEEPALIVE_SET. -/
theorem keepaliveIsArmedRestartedAndLapses : Obligations.KeepaliveIsArmedRestartedAndLapses := by
  intro s k goes
  refine ⟨fun v hl => ?_, fun v hl => ⟨fun hv => ?_, fun hv hst => ?_, fun hv hst => ?_,
    fun hv hst => ?_⟩, fun t0 ms hst ht hms hdue => ?_, fun n rest htakes => ?_⟩
  · change ∃ t, exec _ s = _ ∧ _
    rw [exec_keepaliveWrite_loading hl]
    exact keepalive_ends_quiet rfl
  · change ∃ t, exec _ s = _ ∧ _
    rw [exec_keepaliveWrite hl, show keepaliveValue v s = s from if_pos hv]
    exact keepalive_ends_quiet rfl
  · change ∃ t, exec _ s = _ ∧ _
    rw [exec_keepaliveWrite hl, keepaliveValue_changed hv]
    exact keepalive_ends_quiet (keepaliveChange_unarmed hst)
  · change ∃ t, exec _ s = _ ∧ _
    rw [exec_keepaliveWrite hl, keepaliveValue_changed hv]
    exact keepalive_ends_quiet (keepaliveChange_running hst)
  · change ∃ t, exec _ s = _ ∧ _
    rw [exec_keepaliveWrite hl, keepaliveValue_changed hv, keepaliveChange_lapsed hst]
    exact keepalive_ends rfl ⟨rfl, rfl⟩
  · change ∃ t, finish (keepaliveLapsedEvent s) = _ ∧ _
    rw [keepaliveLapsedEvent_due hst ht hms hdue]
    obtain ⟨hframe, hrep⟩ := lapseKeepalive_frame hms
    exact keepalive_ends hframe hrep
  · intro p
    obtain ⟨k', hstate, hresult⟩ := runKeepaliveSet_eq n (beginIssue n (opcodeWord 0x30 rest) s)
    rw [beginIssue_paramWord] at hresult
    obtain ⟨t, hexec, ht, hans, harb⟩ := command_ends htakes rfl [] (by rw [hstate]; exact ⟨rfl, rfl⟩)
      (by rw [hstate]; rfl) (by rw [hstate]; rfl) (by rw [hstate]; rfl)
    rw [hstate] at ht
    refine ⟨t, _, _, hexec, harb, ?_, hans, ?_⟩
    · rw [ht]
      rfl
    · rw [show t.keepalive = k' by rw [ht]; rfl]
      exact hresult

end Sys2Proof.Machine

namespace Sys2Proof.Machine

/-! ### Queries (R79, R101, R131, R160) -/

/-- What a command that changes no block ends with. -/
def Answers (c : Instr) (n : Slot) (w : Word) (code : ResultCode) (data : Option (List Word))
    (s : State) : Prop :=
  ∃ t, Machine.exec c s = .next t ∧ Arbitrated s.transit t ∧
    t = { s with slots := t.slots, staging := t.staging, writer := t.writer, transit := t.transit } ∧
    Answered n w [] code data s t

/-- The page that a query names is answered, or the query refused with the data `other`. -/
def ShowsPage (c : Instr) (n : Slot) (w : Word) (fs : List Field) (other : Option (List Word))
    (s : State) : Prop :=
  (14 * pageField w < (layWords fs).length →
    Answers c n w .done (some (padTo 14 ((layWords fs).drop (14 * pageField w)))) s) ∧
  ((layWords fs).length ≤ 14 * pageField w → Answers c n w .refusedParam other s)

/-- A query by what its execution gives: the page, or a refusal that changes nothing. -/
theorem showsPage_of {c : Instr} {n : Slot} {w : Word} {run : State → Reply} {fs : List Field}
    {other : Option (List Word)} {s : State} (htakes : s.takes n)
    (hc : exec c s = finish (issueCommand n w run s))
    (hnamed : ∀ ws, pageOf fs ((beginIssue n w s).page n) = some ws →
      run (beginIssue n w s) = { state := beginIssue n w s, code := .done, data := some ws })
    (hunnamed : pageOf fs ((beginIssue n w s).page n) = none →
      run (beginIssue n w s) = { state := beginIssue n w s, code := .refusedParam, data := other }) :
    ShowsPage c n w fs other s := by
  rw [beginIssue_page] at hnamed hunnamed
  unfold pageOf at hnamed hunnamed
  unfold ShowsPage Answers
  rw [hc]
  refine ⟨fun h => answered_ends htakes ?_, fun h => answered_ends htakes ?_⟩
  · cases hd : (layWords fs).drop (14 * pageField w) with
    | nil => exact absurd (List.drop_eq_nil_iff.1 hd) (Nat.not_le.2 h)
    | cons x xs => exact hnamed _ (by rw [hd])
  · exact hunnamed (by rw [List.drop_eq_nil_iff.2 h])

theorem queryReply_some {s : State} {n : Slot} {fs : List Field} {ws : List Word}
    (h : pageOf fs (s.page n) = some ws) :
    queryReply s n fs = { state := s, code := .done, data := some ws } := by
  rw [queryReply, h]

theorem queryReply_none {s : State} {n : Slot} {fs : List Field} (h : pageOf fs (s.page n) = none) :
    queryReply s n fs = refuse s .refusedParam := by
  rw [queryReply, h]

theorem showsPage_of_queryReply {c : Instr} {n : Slot} {w : Word} {run : State → Reply}
    {fs : List Field} {s : State} (htakes : s.takes n)
    (hc : exec c s = finish (issueCommand n w run s))
    (hq : run (beginIssue n w s) = queryReply (beginIssue n w s) n fs) :
    ShowsPage c n w fs none s :=
  showsPage_of htakes hc (fun _ h => hq.trans (queryReply_some h))
    fun h => hq.trans (queryReply_none h)

theorem SwPort.ofNum?_num (p : SwPort) : SwPort.ofNum? p.num = some p := by cases p <;> rfl

theorem SwPort.ofNum?_of_outside {k : Nat} (h : k = 0 ∨ 8 < k) : SwPort.ofNum? k = none := by
  rcases h with rfl | h
  · rfl
  · obtain ⟨j, rfl⟩ := Nat.exists_eq_add_of_lt h
    rw [show 8 + j + 1 = j + 9 by omega]
    rfl

theorem runRobotQuery_named {n : Slot} {r : Robot} {s : State} {ws : List Word}
    (hr : namedRobot n s = some r) (h : pageOf (robotFields s r) (s.page n) = some ws) :
    runRobotQuery n s = { state := s, code := .done, data := some ws } := by
  simp only [runRobotQuery, hr, h]

theorem runRobotQuery_unnamed {n : Slot} {r : Robot} {s : State}
    (hr : namedRobot n s = some r) (h : pageOf (robotFields s r) (s.page n) = none) :
    runRobotQuery n s = { state := s, code := .refusedParam, data := robotData r s } := by
  simp only [runRobotQuery, hr, h]
  exact refuseRobot_named hr

theorem runTrackQuery_refused {n : Slot} {s : State}
    (h : s.paramBits n 0 0 2 = 0 ∨ (s.paramBits n 0 0 2 = 3 ∧ 63 < s.paramBits n 0 8 8)) :
    runTrackQuery n s = refuse s .refusedParam := by
  rcases h with h | ⟨h, hpos⟩
  · simp only [runTrackQuery, h]
  · simp only [runTrackQuery, h, if_pos hpos]

/-- Settles O43: each query's page by its fields. -/
theorem queriesAnswerAndChangeNothing : Obligations.QueriesAnswerAndChangeNothing := by
  intro n rest s htakes answers shows
  refine ⟨fun p hp => ?_, fun hp => ?_, fun r hr => ?_, fun hr => ?_, fun hv => ?_, fun hv => ?_,
    fun hv hpos => ?_, fun hv => ?_⟩
  · refine showsPage_of_queryReply htakes rfl ?_
    rw [runSwitchQuery, beginIssue_paramBits, hp, SwPort.ofNum?_num]
    rfl
  · refine refused_ends (run := runSwitchQuery n) htakes ?_
    rw [runSwitchQuery, beginIssue_paramBits, SwPort.ofNum?_of_outside hp]
  · have hnamed : namedRobot n (beginIssue n (opcodeWord 0x06 rest) s) = some r := by
      rw [namedRobot_issued, hr, Robot.ofNum?_num]
    exact showsPage_of (fs := robotFields s r) htakes rfl (fun _ h => runRobotQuery_named hnamed h)
      fun h => runRobotQuery_unnamed hnamed h
  · have hnamed : namedRobot n (beginIssue n (opcodeWord 0x06 rest) s) = none := by
      rw [namedRobot_issued, Robot.ofNum?_of_outside hr]
    refine refused_ends (run := runRobotQuery n) htakes ?_
    simp only [runRobotQuery, hnamed]
    exact refuseRobot_unnamed hnamed
  · refine showsPage_of_queryReply htakes rfl ?_
    simp only [runTrackQuery, beginIssue_paramBits, hv]
    rfl
  · refine showsPage_of_queryReply htakes rfl ?_
    simp only [runTrackQuery, beginIssue_paramBits, hv]
    rfl
  · refine showsPage_of_queryReply htakes rfl ?_
    simp only [runTrackQuery, beginIssue_paramBits, hv, if_neg (Nat.not_lt.2 hpos)]
    rfl
  · refine refused_ends htakes (runTrackQuery_refused ?_)
    rwa [beginIssue_paramBits, beginIssue_paramBits]

end Sys2Proof.Machine

namespace Sys2Proof.Machine

/-! ### The memory controller's answers (R14, R15) -/

/-- The traffic after an answer to the transaction of `m` is delivered as `c`. -/
def Transit.delivered (x : Transit) (m : Master) (c : Completion) : Transit :=
  { x with ports := x.ports.set m .empty, memPort := .free, completions := x.completions.set m (some c) }

theorem lanesTaken_of_delivered {s v : State} {m : Master} {c : Completion}
    (hv : v.transit = s.transit.delivered m c) (hl : s.lanesTaken)
    (hlane : s.transit.lanes.get m = []) : v.lanesTaken := by
  intro q hq
  rw [hv] at hq ⊢
  by_cases hqm : q = m
  · rw [hqm]
    exact hlane
  · refine hl q ?_
    rw [← hq]
    exact (PerMaster.get_set_of_ne _ _ _ _ hqm).symm

/-- The end of MEMORY_COMPLETION for the transaction of `m`, by what the delivery leaves. -/
theorem exec_completion {m : Master} {x : Txn} {ok : Bool} {data : List Word} {s v : State}
    {c : Completion} (hm : s.transit.memPort = .master m)
    (hx : s.transit.ports.get m = .inMemory x) (hl : s.lanesTaken)
    (hlane : s.transit.lanes.get m = []) (hfit : answerFits x ok data = true)
    (hv : completeTxn m x ok data s = v) (ht : v.transit = s.transit.delivered m c) :
    exec (.memoryCompletion .current ok data) s = finish v := by
  have hcurrent : s.transit.current = some (m, x) := by
    simp only [Transit.current, hm, hx]
  have hexec : exec (.memoryCompletion .current ok data) s =
      if answerFits x ok data then finishLanes (completeTxn m x ok data s) else .refused .malformed := by
    change execMemoryCompletion .current ok data s = _
    simp only [execMemoryCompletion, hcurrent]
  rw [hexec, if_pos hfit, hv, finishLanes_of_taken (lanesTaken_of_delivered ht hl hlane)]

/-- An answer to SERVICE ends its transaction in flight, behind the reports `rs` (R152, R153). -/
theorem noteDelivery_delivered {m : Master} {rs : List Report} {s v : State}
    (hw : v.window = s.window) (hr : Reported rs s v) (hc : v.clock = s.clock := by rfl)
    (hm : v.map = s.map := by rfl) : Delivered m rs s (noteDelivery m v) := by
  unfold noteDelivery Delivered
  split_ifs
  · exact settleTest_settled (v := setWin { v.window with inFlight := false } v) (by rw [hw]; rfl)
      hr hc hm
  · exact ⟨hw, hr⟩

theorem noteDelivery_frame (m : Master) (s : State) :
    noteDelivery m s = { s with
      window := (noteDelivery m s).window, staging := (noteDelivery m s).staging
      writer := (noteDelivery m s).writer } := by
  unfold noteDelivery
  split_ifs
  · rw [settleTest_frame]
    rfl
  · rfl

theorem noteDelivery_of_ne {m : Master} (h : m ≠ .service) (s : State) : noteDelivery m s = s :=
  if_neg h

/-- The end of an answer that is delivered and changes no block but the window. -/
theorem delivered_ends {m : Master} {x : Txn} {ok : Bool} {data : List Word} {s v : State}
    {c : Completion} {rs : List Report} (hm : s.transit.memPort = .master m)
    (hx : s.transit.ports.get m = .inMemory x) (hl : s.lanesTaken)
    (hlane : s.transit.lanes.get m = []) (hfit : answerFits x ok data = true)
    (hv : completeTxn m x ok data s = noteDelivery m v)
    (hframe : v = { s with
      staging := v.staging, writer := v.writer, transit := s.transit.delivered m c })
    (hr : Reported rs s v) :
    ∃ t, exec (.memoryCompletion .current ok data) s = .next t ∧
      t = { s with window := t.window, staging := t.staging, writer := t.writer
                   transit := t.transit } ∧
      Delivered m rs s t ∧ Arbitrated (s.transit.delivered m c) t := by
  have htransit : (noteDelivery m v).transit = s.transit.delivered m c := by
    rw [noteDelivery_frame, hframe]
  refine ⟨arbitrate (noteDelivery m v), ?_, ?_, ?_, ?_⟩
  · rw [exec_completion hm hx hl hlane hfit hv htransit]
    rfl
  · rw [arbitrate_frame, noteDelivery_frame, hframe]
  · exact noteDelivery_delivered (by rw [hframe]) hr (by rw [hframe]) (by rw [hframe])
  · rw [Arbitrated, ← htransit]
    rfl

theorem deliverOkay_write {m : Master} {x : Txn} {data : List Word} {s : State}
    (h : x.dir = .write) :
    deliverOkay m x data s = deliver m { status := .okay, data := [] } s := by
  simp only [deliverOkay, h]

theorem deliverOkay_read {m : Master} {x : Txn} {data : List Word} {s : State} (h : x.dir = .read) :
    deliverOkay m x data s =
      noteRead m x (deliver m { status := .okay, data := deliveredData m x data s } s) := by
  simp only [deliverOkay, h]

theorem deliver_freePort (m : Master) (c : Completion) (s : State) :
    deliver m c (freePort s) = s.setTransit (s.transit.delivered m c) := rfl

theorem answerFits_error (x : Txn) (data : List Word) : answerFits x false data = true := by
  unfold answerFits
  split <;> rfl

theorem answerFits_okay {x : Txn} {data : List Word}
    (h : x.dir = .read → data.length = x.len.words) : answerFits x true data = true := by
  unfold answerFits
  split
  · next hd => simp [h hd]
  · rfl

/-- A read in which no word is substituted (R74, R114). -/
theorem deliveredData_plain {m : Master} {x : Txn} {data : List Word} {s : State}
    (h : ¬(x.kind = .ports ∧ m = .line) ∧
      ¬(x.kind = .orders ∧ m = .robotlink ∧ x.offset % 8 = 0 ∧ x.offset < 48)) :
    deliveredData m x data s = data := by
  obtain ⟨hports, horders⟩ := h
  cases hk : x.kind <;> simp only [deliveredData, hk]
  · split_ifs with hcase
    · unfold shownOrders
      cases data with
      | nil => rfl
      | cons w ws =>
        simp only
        rw [if_neg fun hmod => horders ⟨hk, hcase.1, hmod, hcase.2⟩]
    · rfl
  · rw [if_neg fun hm => hports ⟨hk, hm⟩]

theorem noteRead_plain {m : Master} {x : Txn} {s : State} (h : ¬(x.kind = .ports ∧ m = .line)) :
    noteRead m x s = s := if_neg fun hcase => h ⟨hcase.2, hcase.1⟩

end Sys2Proof.Machine

namespace Sys2Proof.Machine

theorem memoryAnswer_okay {m : Master} {x : Txn} {data : List Word} {s : State}
    (hm : s.transit.memPort = .master m) (hx : s.transit.ports.get m = .inMemory x)
    (hl : s.lanesTaken) (hlane : s.transit.lanes.get m = [])
    (hfit : x.dir = .read → data.length = x.len.words)
    (hplain : x.dir = .read → ¬(x.kind = .ports ∧ m = .line) ∧
      ¬(x.kind = .orders ∧ m = .robotlink ∧ x.offset % 8 = 0 ∧ x.offset < 48)) :
    ∃ t, exec (.memoryCompletion .current true data) s = .next t ∧
      t = { s with window := t.window, staging := t.staging, writer := t.writer
                   transit := t.transit } ∧
      Delivered m [] s t ∧
      Arbitrated (s.transit.delivered m
        { status := .okay, data := match x.dir with | .read => data | .write => [] }) t := by
  refine delivered_ends hm hx hl hlane (answerFits_okay hfit) (v := s.setTransit (s.transit.delivered m _))
    ?_ rfl ⟨rfl, rfl⟩
  rw [completeTxn, if_pos rfl]
  cases hd : x.dir with
  | read =>
    rw [deliverOkay_read hd, noteRead_plain (hplain hd).1, deliveredData_plain (hplain hd),
      deliver_freePort]
  | write => rw [deliverOkay_write hd, deliver_freePort]

theorem memoryAnswer_error {m : Master} {x : Txn} {data : List Word} {s : State}
    (hm : s.transit.memPort = .master m) (hx : s.transit.ports.get m = .inMemory x)
    (hl : s.lanesTaken) (hlane : s.transit.lanes.get m = []) :
    ∃ t, exec (.memoryCompletion .current false data) s = .next t ∧
      t = { s with window := t.window, staging := t.staging, writer := t.writer
                   transit := t.transit } ∧
      Delivered m [.memoryFault m x.dir x.addr x.len x.region] s t ∧
      Arbitrated (s.transit.delivered m { status := .fault, data := zeroData x.dir x.len }) t := by
  have hrep : Reported [.memoryFault m x.dir x.addr x.len x.region]
      (s.setTransit (s.transit.delivered m { status := .fault, data := zeroData x.dir x.len }))
      (deliverFault m x (freePort s)) := ⟨rfl, rfl⟩
  refine delivered_ends hm hx hl hlane (answerFits_error x data) (v := deliverFault m x (freePort s))
    rfl ?_ (hrep.congr rfl rfl rfl rfl)
  rw [deliverFault, raise_frame]
  rfl

/-! ### What ROBOTLINK reads (R114) -/

theorem shownOrder_fields (e : RobotEntry) (w : Word) :
    (e.shownOrder w).extractLsb' 0 16 = w.extractLsb' 0 16 ∧
    (e.shownOrder w).extractLsb' 18 14 = w.extractLsb' 18 14 ∧
    (e.shownOrder w).extractLsb' 16 2 = e.shownMode (w.extractLsb' 16 2) := by
  unfold RobotEntry.shownOrder orderModeCode
  generalize e.shownMode (w.extractLsb' 16 2) = mode
  refine ⟨?_, ?_, ?_⟩
  · rw [BitVec.extractLsb'_append_eq_of_add_le (by decide)]
    simp
  · rw [BitVec.extractLsb'_append_eq_of_le (by decide), BitVec.extractLsb'_append_eq_of_le (by decide)]
    simp
  · rw [BitVec.extractLsb'_append_eq_of_le (by decide),
      BitVec.extractLsb'_append_eq_of_add_le (by decide)]
    simp

theorem shownMode_eq (e : RobotEntry) (mode : BitVec 2) :
    e.shownMode mode =
      if e.fresh = true ∨ (¬(e.state = .ordered ∨ e.state = .filling) ∧ mode ≠ 2 ∧ mode ≠ 3) then 2
      else mode := by
  unfold RobotEntry.shownMode
  simp only [← Bool.not_eq_true, working_iff]
  by_cases hf : e.fresh = true
  · rw [if_pos hf, if_pos (.inl hf)]
  · simp only [hf, false_or, Bool.false_eq_true, if_false]

/-- FILL is shown only under an order that is not fresh. -/
theorem of_shownMode_fill {e : RobotEntry} {mode : BitVec 2} (h : e.shownMode mode = 1) :
    (e.state = .ordered ∨ e.state = .filling) ∧ e.fresh = false := by
  rw [shownMode_eq] at h
  split_ifs at h with hcase
  · cases h
  · obtain ⟨hfresh, hstate⟩ := not_or.1 hcase
    refine ⟨?_, Bool.eq_false_iff.2 hfresh⟩
    by_contra hn
    exact hstate ⟨hn, by rw [h]; decide, by rw [h]; decide⟩

theorem deliveredData_order {x : Txn} {r : Robot} {w : Word} {rest : List Word} {s : State}
    (hk : x.kind = .orders) (ho : x.offset = 8 * (r.num - 1)) :
    deliveredData .robotlink x (w :: rest) s = (s.robot r).shownOrder w :: rest := by
  have hr := robotNum_bounds r
  have hlow : 8 * (r.num - 1) < 48 := by omega
  have hword : 8 * (r.num - 1) % 8 = 0 := by omega
  simp only [deliveredData, hk, ho, shownOrders, robotOfOffset_slot, hlow, hword]
  rfl

theorem arbitrate_completions (s : State) :
    (arbitrate s).transit.completions = s.transit.completions := by
  unfold arbitrate
  rw [State.setTransit_transit, transit_arbitrate_frame]

/-- Settles O34: the mode field that ROBOTLINK reads, by the robot's state and its fresh flag. -/
theorem robotlinkReadsFillOnlyUnderAnOrder : Obligations.RobotlinkReadsFillOnlyUnderAnOrder := by
  intro x r w rest s hm hx hl hlane hread hk ho hlen e
  obtain ⟨htag, hupper, hmode⟩ := shownOrder_fields e w
  have hv : completeTxn .robotlink x true (w :: rest) s = s.setTransit (s.transit.delivered .robotlink
      { status := .okay, data := e.shownOrder w :: rest }) := by
    rw [completeTxn, if_pos rfl, noteDelivery_of_ne (by decide), deliverOkay_read hread,
      noteRead_plain (by simp), deliveredData_order hk ho, deliver_freePort]
    rfl
  have hexec := exec_completion (m := .robotlink) hm hx hl hlane (answerFits_okay fun _ => hlen) hv rfl
  refine ⟨_, e.shownOrder w, hexec, arbitrate_frame _, ?_, htag, hupper, ?_, fun h => ?_⟩
  · rw [arbitrate_completions]
    rfl
  · rw [hmode, shownMode_eq]
  · rw [hmode] at h
    exact of_shownMode_fill h

end Sys2Proof.Machine

namespace Sys2Proof.Machine

/-! ### What LINE reads (R74, R75) -/

theorem SwPort.ofNum?_eq_some_iff {k : Nat} {p : SwPort} : SwPort.ofNum? k = some p ↔ p.num = k := by
  refine ⟨fun h => ?_, fun h => h ▸ SwPort.ofNum?_num p⟩
  by_cases hk : k = 0 ∨ 8 < k
  · rw [SwPort.ofNum?_of_outside hk] at h
    cases h
  · have hcases : k = 1 ∨ k = 2 ∨ k = 3 ∨ k = 4 ∨ k = 5 ∨ k = 6 ∨ k = 7 ∨ k = 8 := by omega
    rcases hcases with rfl | rfl | rfl | rfl | rfl | rfl | rfl | rfl <;> cases h <;> rfl

theorem setPort_get (p q : SwPort) (e : PortEntry) (s : State) :
    (setPort p e s).switch.table.get q = if q = p then e else s.switch.table.get q := by
  change (s.switch.table.set p e).get q = _
  split_ifs with h
  · rw [h, PerPort.get_set_self]
  · rw [PerPort.get_set_of_ne _ _ _ _ h]

theorem clearLatchesFrom_succ (o n : Nat) (s : State) :
    clearLatchesFrom o (n + 1) s =
      ((SwPort.ofNum? (o + n)).elim (clearLatchesFrom o n s) fun p =>
        setPort p ((clearLatchesFrom o n s).port p).clearLatches (clearLatchesFrom o n s)) := by
  simp only [clearLatchesFrom, List.range_succ, List.foldl_append, List.foldl_cons, List.foldl_nil]
  cases SwPort.ofNum? (o + n) <;> rfl

/-- A LINE read clears the latches of the ports it covers, and changes nothing else (R75). -/
theorem clearLatchesFrom_frame (o n : Nat) (s : State) :
    clearLatchesFrom o n s = { s with
      switch := { s.switch with table := (clearLatchesFrom o n s).switch.table } } := by
  induction n with
  | zero => rfl
  | succ n ih =>
    rw [clearLatchesFrom_succ]
    cases SwPort.ofNum? (o + n) with
    | none => exact ih
    | some p =>
      simp only [Option.elim_some]
      generalize (clearLatchesFrom o n s).port p = e
      generalize clearLatchesFrom o n s = v at ih
      rw [ih]
      rfl

theorem clearLatchesFrom_get (o n : Nat) (p : SwPort) (s : State) :
    (clearLatchesFrom o n s).switch.table.get p =
      if o ≤ p.num ∧ p.num < o + n then (s.switch.table.get p).clearLatches
      else s.switch.table.get p := by
  induction n with
  | zero => rw [if_neg (by omega)]; rfl
  | succ n ih =>
    rw [clearLatchesFrom_succ]
    cases hq : SwPort.ofNum? (o + n) with
    | none =>
      have hne : p.num ≠ o + n := fun h => by
        rw [SwPort.ofNum?_eq_some_iff.2 h] at hq
        cases hq
      rw [Option.elim_none, ih]
      exact if_congr (by omega) rfl rfl
    | some q =>
      have hnum := SwPort.ofNum?_eq_some_iff.1 hq
      rw [Option.elim_some, setPort_get]
      by_cases hpq : p = q
      · subst hpq
        rw [if_pos rfl, if_pos (by omega), State.port, ih, if_neg (by omega)]
      · have hne : p.num ≠ o + n := fun h => hpq
          (Option.some.inj ((SwPort.ofNum?_eq_some_iff.2 h).symm.trans hq))
        rw [if_neg hpq, ih]
        exact if_congr (by omega) rfl rfl

theorem shownMailbox_length (s : State) (o : Nat) (data : List Word) :
    (shownMailbox s o data).length = data.length := by
  induction data generalizing o with
  | nil => rfl
  | cons w ws ih => simp [shownMailbox, ih]

theorem shownMailbox_get (s : State) (o i : Nat) (data : List Word) :
    (shownMailbox s o data)[i]? =
      data[i]?.map fun w => (SwPort.ofNum? (o + i)).elim w fun p => (s.port p).shown w := by
  induction data generalizing o i with
  | nil => rfl
  | cons w ws ih =>
    cases i with
    | zero =>
      simp only [shownMailbox, List.getElem?_cons_zero, Option.map_some, Nat.add_zero]
      cases SwPort.ofNum? o <;> rfl
    | succ i =>
      simp only [shownMailbox, List.getElem?_cons_succ]
      rw [ih, Nat.add_right_comm, Nat.add_assoc]

theorem shown_bits (e : PortEntry) (w : Word) :
    (e.shown w).getLsbD 0 = (e.linkUp && !e.downLatched) ∧ (e.shown w).getLsbD 3 = e.stormLatched ∧
      ∀ b, b ≠ 0 → b ≠ 3 → (e.shown w).getLsbD b = w.getLsbD b := by
  unfold PortEntry.shown
  simp only [BitVec.getLsbD_append, BitVec.getLsbD_extractLsb', BitVec.getLsbD_ofBool]
  refine ⟨by simp, by simp, fun b h0 h3 => ?_⟩
  rw [if_neg (by omega)]
  by_cases hlow : b - 1 < 2
  · rw [if_pos hlow, show 1 + (b - 1) = b by omega]
    simp [hlow]
  · rw [if_neg hlow, if_neg (by omega), show 4 + (b - 1 - 2 - 1) = b by omega]
    by_cases hb : b < 32
    · rw [decide_eq_true (by omega), Bool.true_and]
    · rw [BitVec.getLsbD_of_ge w b (by omega), Bool.and_false]

/-- The words shown are those of the Port Table. -/
theorem shownMailbox_congr {s t : State} (h : t.switch = s.switch) (o : Nat) (data : List Word) :
    shownMailbox t o data = shownMailbox s o data := by
  induction data generalizing o with
  | nil => rfl
  | cons w ws ih => simp only [shownMailbox, State.port, h, ih]

theorem deliveredData_mailbox {x : Txn} {data : List Word} {s : State} (hk : x.kind = .ports) :
    deliveredData .line x data (freePort s) = shownMailbox s x.offset data := by
  simp only [deliveredData, hk, if_true]
  exact shownMailbox_congr (show (freePort s).switch = s.switch from rfl) _ _

/-- The completion of an OKAY answer. -/
def Completion.okay (data : List Word) : Completion := { status := .okay, data := data }

/-- Settles O21: LINE's read shows the latches of the ports it covers and clears them. -/
theorem lineReadsLatchedPortWords : Obligations.LineReadsLatchedPortWords := by
  intro x data s hm hx hl hlane hread hk hlen
  have hv : completeTxn .line x true data s =
      clearLatchesFrom x.offset x.len.words (s.setTransit (s.transit.delivered .line (.okay (shownMailbox s x.offset data)))) := by
    rw [completeTxn, if_pos rfl, noteDelivery_of_ne (by decide), deliverOkay_read hread,
      deliveredData_mailbox hk, deliver_freePort, noteRead, if_pos ⟨rfl, hk⟩]
    rfl
  generalize hu : s.setTransit
    (s.transit.delivered .line (.okay (shownMailbox s x.offset data))) = u at hv
  have hframe := clearLatchesFrom_frame x.offset x.len.words u
  have hget := fun p => clearLatchesFrom_get x.offset x.len.words p u
  generalize clearLatchesFrom x.offset x.len.words u = v at *
  subst hu
  have htransit : v.transit = s.transit.delivered .line (.okay (shownMailbox s x.offset data)) := by rw [hframe]; rfl
  have hexec := exec_completion (m := .line) hm hx hl hlane (answerFits_okay fun _ => hlen) hv htransit
  refine ⟨arbitrate v, shownMailbox s x.offset data, hexec, ?_, ?_, ?_, hget, shownMailbox_length .., fun i w hw hnone => ?_,
    fun i w p hw hp => ?_⟩
  · rw [arbitrate_frame, hframe]
    rfl
  · rw [Arbitrated, arbitrate, State.setTransit_transit, htransit]
    rfl
  · change v.switch = _
    rw [hframe]
    rfl
  · have houtside : SwPort.ofNum? (x.offset + i) = none := by
      by_contra hsome
      obtain ⟨p, hp⟩ := Option.ne_none_iff_exists'.1 hsome
      exact hnone p (SwPort.ofNum?_eq_some_iff.1 hp)
    rw [shownMailbox_get, hw, houtside]
    rfl
  · refine ⟨(s.port p).shown w, ?_, shown_bits _ w⟩
    rw [shownMailbox_get, hw, SwPort.ofNum?_eq_some_iff.2 hp]
    rfl

end Sys2Proof.Machine

namespace Sys2Proof.Machine

/-! ### A verdict record that lies across two records of its region (R132, R133)

The statement takes word 0 of the record to be uncovered where the burst's offset is not a multiple of 8. An
8-word burst is aligned in the address space; in a VERDICTS region whose base is no multiple of 8, which no
delivered map has but the statement's states may, its offset is not, and the model reads the burst's first
word all the same. -/

/-- A map with a VERDICTS region from address 1 on, CAMERA's to write. -/
def skewedMap : RegionMap :=
  { RegionMap.anchor with entries :=
      [{ enabled := true, base := 1, size := 256, kindCode := 5, readRights := 1, writeRights := 4
         weight := 1 }] }

/-- RUNNING on that map, with one bottle whose slot 1 holds shot 1. -/
def skewedHall : State :=
  { State.reset with
    map := skewedMap
    tracker := { State.reset.tracker with
      running := true
      queue := [{ number := 0, p0 := 0, t0 := State.reset.clock.stamp, overrun := 0
                  cams := { c1 := .shot 1, c2 := .notFitted, c3 := .notFitted, c4 := .notFitted } }]
      cameras := { State.reset.tracker.cameras with
        c1 := { State.reset.tracker.cameras.c1 with fitted := true } } } }

/-- CAMERA's record of a pass of shot 1 by camera 1, at offset 7 of the region. -/
def skewedRecord : Request :=
  { dir := .write, addr := 8, len := .eight
    words := [⟨0x11, 15⟩, ⟨1, 15⟩, ⟨0, 15⟩, ⟨0, 15⟩, ⟨0, 15⟩, ⟨0, 15⟩, ⟨0, 15⟩, ⟨0, 15⟩] }

theorem skewedRecord_rightful : Rightful .camera skewedRecord .verdicts skewedHall := by
  refine ⟨by decide, rfl, rfl, ?_, by decide, by decide +kernel, by decide +kernel, by decide +kernel, ?_⟩
  · rintro m -
    cases m <;> rfl
  · rintro a ha
    cases ha

/-- The model takes the verdict and raises no report. -/
theorem skewedRecord_quiet {t : State}
    (h : exec (.requestArrival .camera skewedRecord) skewedHall = .next t) :
    t.writer = skewedHall.writer := by
  have hquiet : (match exec (.requestArrival .camera skewedRecord) skewedHall with
      | .next u => u.writer
      | _ => Writer.reset) = skewedHall.writer := by decide +kernel
  rw [h] at hquiet
  exact hquiet

/-- Refutes O42: of an 8-word record at an offset that is no multiple of 8 the statement takes the camera
number to be 0 and expects VERDICT_MALFORMED, where the model takes the verdict. -/
theorem not_verdictIsTakenBySlotState : ¬ Obligations.VerdictIsTakenBySlotState := by
  rintro ⟨-, h⟩
  obtain ⟨hmalformed, -⟩ := h skewedRecord skewedHall skewedRecord_rightful rfl
  obtain ⟨t, ws, hexec, -, -, -, -, hwriter⟩ := hmalformed .camera (by
    beta_reduce
    rw [if_neg (by decide), if_neg (by decide), if_pos (by decide +kernel)])
  rw [skewedRecord_quiet hexec] at hwriter
  revert hwriter
  decide +kernel

end Sys2Proof.Machine

namespace Sys2Proof.Machine

/-! ### TRACK_START and TRACK_STOP (R118, R119, R129) -/

theorem runTrackStart_barred {n : Slot} {s : State}
    (h : s.loader.condition = .safe ∨ s.loader.load ≠ none ∨ s.tracker.running = true ∨
      s.tracker.cameras.c1.fitted = false) : runTrackStart n s = refuse s .refusedState := by
  refine if_pos ?_
  rcases h with h | h | h | h
  · simp [trackStartBarred, State.isSafe, h]
  · simp [trackStartBarred, Option.isSome_iff_ne_none.2 h]
  · simp [trackStartBarred, h]
  · simp [trackStartBarred, PerCam.get, h]

theorem trackStartBarred_of_not {s : State}
    (h : ¬(s.loader.condition = .safe ∨ s.loader.load ≠ none ∨ s.tracker.running = true ∨
      s.tracker.cameras.c1.fitted = false)) : trackStartBarred s = false := by
  simp only [not_or, not_not, Bool.not_eq_true, Bool.not_eq_false] at h
  obtain ⟨hsafe, hload, hrun, hfit⟩ := h
  simp [trackStartBarred, State.isSafe, hsafe, hload, hrun, PerCam.get, hfit]

/-- The range checks of R118, as the statement spells them. -/
def trackFits (n : Slot) (s : State) : Prop :=
  16 ≤ s.paramWord n 0 ∧ s.paramWord n 0 ≤ 4096 ∧ s.paramWord n 1 ≠ 0 ∧ s.paramWord n 2 ≤ 1048576 ∧
    s.paramWord n 3 ≤ 1048576 ∧ s.paramWord n 4 ≤ 1048576 ∧ 1 ≤ s.paramWord n 6 ∧
    s.paramWord n 6 ≤ s.paramWord n 0 ∧ s.paramWord n 5 ≤ 4194304 ∧
    ∀ c, (s.tracker.cameras.get c).fitted = true →
      (match c with
        | .c1 => 0 | .c2 => s.paramWord n 2 | .c3 => s.paramWord n 3 | .c4 => s.paramWord n 4) +
        min (s.paramWord n 1) (s.paramWord n 0 / 2 - 1) < s.paramWord n 5

theorem mem_allCams (c : Cam) : c ∈ allCams := by cases c <;> decide

theorem reaches_iff {k : TrackParams} {cams : PerCam CameraEntry} : k.reaches cams = true ↔
    k.rejectOffset ≤ 4194304 ∧
      ∀ c, (cams.get c).fitted = true → k.camOffset c + k.window < k.rejectOffset := by
  simp only [TrackParams.reaches, Bool.and_eq_true, decide_eq_true_eq, List.all_eq_true,
    Bool.or_eq_true, Bool.not_eq_true', ← Bool.not_eq_true]
  exact and_congr_right fun _ =>
    ⟨fun h c hf => (h c (mem_allCams c)).resolve_left (not_not.2 hf), fun h c _ => or_iff_not_imp_left.2 fun hf => h c (not_not.1 hf)⟩

theorem trackFits_iff {n : Slot} {s : State} (a : NoVerdictAction) :
    ((givenTrack n s a).inRange && (givenTrack n s a).settle.reaches s.tracker.cameras) = true ↔
      trackFits n s := by
  rw [Bool.and_eq_true, reaches_iff]
  simp only [TrackParams.inRange, decide_eq_true_eq, trackFits, and_assoc]
  have hoffset (c : Cam) : (givenTrack n s a).settle.camOffset c = match c with
      | .c1 => 0 | .c2 => s.paramWord n 2 | .c3 => s.paramWord n 3 | .c4 => s.paramWord n 4 := by
    cases c <;> rfl
  simp only [hoffset]
  rfl

theorem ofCode?_action_none {c : Nat} (h : c ≠ 1 ∧ c ≠ 2) : NoVerdictAction.ofCode? c = none := by
  unfold NoVerdictAction.ofCode?
  split
  · exact absurd rfl h.1
  · exact absurd rfl h.2
  · rfl

theorem ofCode?_action (a : NoVerdictAction) :
    NoVerdictAction.ofCode? (match a with | .reject => 1 | .pass => 2) = some a := by cases a <;> rfl

theorem runTrackStart_param {n : Slot} {s : State} (hb : trackStartBarred s = false)
    (h : (s.paramBits n 7 0 2 ≠ 1 ∧ s.paramBits n 7 0 2 ≠ 2) ∨ ¬trackFits n s) :
    runTrackStart n s = refuse s .refusedParam := by
  unfold runTrackStart
  rw [hb]
  cases ha : NoVerdictAction.ofCode? (s.paramBits n 7 0 2) with
  | none => rfl
  | some a =>
    have hfit : ¬trackFits n s := h.resolve_left fun hcode => by
      rw [ofCode?_action_none hcode] at ha
      cases ha
    exact if_neg fun hr => hfit ((trackFits_iff a).1 hr)

theorem runTrackStart_starts {n : Slot} {s : State} {a : NoVerdictAction}
    (hb : trackStartBarred s = false) (hfit : trackFits n s)
    (ha : NoVerdictAction.ofCode? (s.paramBits n 7 0 2) = some a) :
    runTrackStart n s =
      { state := s.setTracker (s.tracker.start (givenTrack n s a).settle)
        code := if (givenTrack n s a).settle = givenTrack n s a then .done else .doneAdjusted
        data := pageOne (trackFields (some (givenTrack n s a).settle)) } := by
  unfold runTrackStart
  rw [hb]
  simp only [ha]
  exact if_pos ((trackFits_iff a).2 hfit)

theorem runTrackStop_refused {s : State} (h : s.loader.condition = .safe ∨ s.tracker.running = false) :
    runTrackStop s = refuse s .refusedState := by
  refine if_pos ?_
  simpa [State.isSafe] using h

theorem runTrackStop_stops {s : State} (hsafe : s.loader.condition ≠ .safe)
    (hrun : s.tracker.running = true) :
    runTrackStop s =
      { state := raise (droppedReport s.tracker) (s.setTracker s.tracker.stop), code := .done
        data := pageOne (byteOf s.tracker.queue.length :: counterFields s.tracker.stop.counters) } := by
  refine if_neg ?_
  simp [State.isSafe, hsafe, hrun]

theorem settle_eq_iff (k : TrackParams) :
    k.settle = k ↔ min k.window (k.pitch / 2 - 1) = k.window := by
  obtain ⟨pitch, window⟩ := k
  simp [TrackParams.settle, maxWindow]

theorem givenTrack_issued (n : Slot) (word : Word) (s : State) (a : NoVerdictAction) :
    givenTrack n (beginIssue n word s) a = givenTrack n s a := by
  simp only [givenTrack, beginIssue_paramWord]

theorem trackFits_issued (n : Slot) (word : Word) (s : State) :
    trackFits n (beginIssue n word s) ↔ trackFits n s := by
  simp only [trackFits, beginIssue_paramWord]
  exact Iff.rfl

/-- Settles O41: TRACK_START by its checks, and TRACK_STOP. -/
theorem trackStartAndStop : Obligations.TrackStartAndStop := by
  intro n rest s htakes tr p w off barred fits answers
  have hfits : fits ↔ trackFits n s := Iff.rfl
  refine ⟨fun h => refused_ends htakes (runTrackStart_barred h), fun hb h => ?_,
    fun a hb h ha => ?_, fun h => refused_ends htakes (runTrackStop_refused h), fun hsafe hrun => ?_⟩
  · refine refused_ends htakes (runTrackStart_param (trackStartBarred_of_not hb) ?_)
    rw [beginIssue_paramBits, trackFits_issued]
    exact h
  · intro k
    have hstart := runTrackStart_starts (s := beginIssue n (opcodeWord 0x10 rest) s)
      (trackStartBarred_of_not hb) ((trackFits_issued ..).2 h)
      (by rw [beginIssue_paramBits, ha]; exact ofCode?_action a)
    rw [givenTrack_issued] at hstart
    obtain ⟨t, hexec, ht, hans, harb⟩ := command_ends htakes hstart [] ⟨rfl, rfl⟩
    have hcode : ((givenTrack n s a).settle = givenTrack n s a) = (w = p 1) :=
      propext (settle_eq_iff _)
    simp only [hcode] at hans
    exact ⟨t, hexec, harb, ht, hans⟩
  · intro counters
    have hstop := runTrackStop_stops (s := beginIssue n (opcodeWord 0x11 rest) s) hsafe hrun
    have hframe := raise_frame (droppedReport (beginIssue n (opcodeWord 0x11 rest) s).tracker)
      ((beginIssue n (opcodeWord 0x11 rest) s).setTracker
        (beginIssue n (opcodeWord 0x11 rest) s).tracker.stop)
    have hrep : Reported [droppedReport tr] ((beginIssue n (opcodeWord 0x11 rest) s).setTracker tr.stop)
        (raise (droppedReport (beginIssue n (opcodeWord 0x11 rest) s).tracker)
          ((beginIssue n (opcodeWord 0x11 rest) s).setTracker
            (beginIssue n (opcodeWord 0x11 rest) s).tracker.stop)) := ⟨rfl, rfl⟩
    generalize raise (droppedReport (beginIssue n (opcodeWord 0x11 rest) s).tracker)
      ((beginIssue n (opcodeWord 0x11 rest) s).setTracker
        (beginIssue n (opcodeWord 0x11 rest) s).tracker.stop) = v at *
    obtain ⟨t, hexec, ht, hans, harb⟩ := command_ends htakes hstop [droppedReport tr]
      (hrep.congr rfl rfl rfl rfl) (by rw [hframe]; rfl) (by rw [hframe]; rfl) (by rw [hframe]; rfl)
    refine ⟨t, hexec, harb, ?_, hans⟩
    rw [ht, hframe]
    rfl

end Sys2Proof.Machine

namespace Sys2Proof.Machine

/-! ### The four cameras of a table and of a bottle -/

/-- The table that holds `f c` for each camera. -/
def PerCam.ofFn {α : Type} (f : Cam → α) : PerCam α := ⟨f .c1, f .c2, f .c3, f .c4⟩

@[simp] theorem PerCam.get_ofFn {α : Type} (f : Cam → α) (c : Cam) : (PerCam.ofFn f).get c = f c := by
  cases c <;> rfl

/-- Each slot of a bottle changed by `g`. -/
def Bottle.mapCams (g : Cam → CamSlot → CamSlot) (b : Bottle) : Bottle :=
  { b with cams := .ofFn fun c => g c (b.cams.get c) }

theorem setCam_get (b : Bottle) (c : Cam) : b.setCam c (b.cams.get c) = b := by
  rw [Bottle.setCam, PerCam.set_get]

/-! ### Camera notices (R126, R127) -/

/-- A camera's entry after a notice of port p. -/
def CameraEntry.flagged (e : CameraEntry) (p : SwPort) (online : Bool) : CameraEntry :=
  if e.port = some p then { e with online := online } else e

/-- A camera-offline notice of port p closes the slots of camera c. -/
def Tracker.closes (t : Tracker) (p : SwPort) (c : Cam) : Bool :=
  decide ((t.cameras.get c).port = some p) && (t.cameras.get c).fitted && t.running

/-- A slot, closed or not. -/
def CamSlot.closedIf (closed : Bool) (x : CamSlot) : CamSlot := if closed then x.goOffline else x

theorem camOffline_at (p : SwPort) (t : Tracker) (c : Cam) :
    (if (t.cameras.get c).port = some p then t.camOffline c else t) =
      { t with
        cameras := t.cameras.set c ((t.cameras.get c).flagged p false)
        queue := t.queue.map fun b => b.setCam c ((b.cams.get c).closedIf (t.closes p c)) } := by
  have hsame (hn : t.closes p c = false) :
      (t.queue.map fun b => b.setCam c ((b.cams.get c).closedIf (t.closes p c))) = t.queue := by
    simp [hn, CamSlot.closedIf, setCam_get]
  by_cases hp : (t.cameras.get c).port = some p
  · rw [if_pos hp, CameraEntry.flagged, if_pos hp, Tracker.camOffline]
    cases hc : ((t.cameras.get c).fitted && t.running) with
    | true =>
      have hcloses : t.closes p c = true := by
        rw [Tracker.closes, decide_eq_true hp, Bool.true_and, hc]
      simp [hcloses, CamSlot.closedIf]
    | false =>
      have hcloses : t.closes p c = false := by
        rw [Tracker.closes, Bool.and_assoc, hc, Bool.and_false]
      rw [hsame hcloses]
      simp
  · have hcloses : t.closes p c = false := by
      rw [Tracker.closes, decide_eq_false hp, Bool.false_and, Bool.false_and]
    rw [if_neg hp, CameraEntry.flagged, if_neg hp, hsame hcloses, PerCam.set_get]

theorem camOnline_at (p : SwPort) (t : Tracker) (c : Cam) :
    (if (t.cameras.get c).port = some p then t.camOnline c else t) =
      { t with cameras := t.cameras.set c ((t.cameras.get c).flagged p true) } := by
  by_cases hp : (t.cameras.get c).port = some p
  · rw [if_pos hp, CameraEntry.flagged, if_pos hp, Tracker.camOnline]
  · rw [if_neg hp, CameraEntry.flagged, if_neg hp, PerCam.set_get]

theorem onPort_camOffline (p : SwPort) (t : Tracker) : t.onPort p Tracker.camOffline =
    { t with
      cameras := .ofFn fun c => (t.cameras.get c).flagged p false
      queue := t.queue.map (Bottle.mapCams fun c x => x.closedIf (t.closes p c)) } := by
  simp only [Tracker.onPort, allCams, List.foldl_cons, List.foldl_nil, camOffline_at, List.map_map]
  rfl

theorem onPort_camOnline (p : SwPort) (t : Tracker) : t.onPort p Tracker.camOnline =
    { t with cameras := .ofFn fun c => (t.cameras.get c).flagged p true } := by
  simp only [Tracker.onPort, allCams, List.foldl_cons, List.foldl_nil, camOnline_at]
  rfl

theorem flagged_on {e : CameraEntry} {p : SwPort} {online : Bool} (h : e.port = some p) :
    e.flagged p online = { e with online := online } := if_pos h

theorem flagged_off {e : CameraEntry} {p : SwPort} {online : Bool} (h : e.port ≠ some p) :
    e.flagged p online = e := if_neg h

theorem closes_iff {t : Tracker} {p : SwPort} {c : Cam} : t.closes p c = true ↔
    (t.cameras.get c).port = some p ∧ (t.cameras.get c).fitted = true ∧ t.running = true := by
  simp [Tracker.closes, and_assoc]

theorem cameraOfflineEvent_loss {p : SwPort} {rest : List LinkNotice} {s : State}
    (h : s.mail.cameras = .loss p :: rest) :
    cameraOfflineEvent s = (s.setMail { s.mail with cameras := rest }).setTracker
      (s.tracker.onPort p Tracker.camOffline) := by
  simp only [cameraOfflineEvent, h]

theorem cameraOnlineEvent_back {p : SwPort} {rest : List LinkNotice} {s : State}
    (h : s.mail.cameras = .back p :: rest) :
    cameraOnlineEvent s = (s.setMail { s.mail with cameras := rest }).setTracker
      (s.tracker.onPort p Tracker.camOnline) := by
  simp only [cameraOnlineEvent, h]

/-- Settles O40: a loss closes the open slots of the port's cameras, a return changes no slot. -/
theorem cameraNoticesSetOnlineFlags : Obligations.CameraNoticesSetOnlineFlags := by
  intro p rest s tr on
  refine ⟨fun hm => ?_, fun hm => ?_⟩
  · refine ⟨arbitrate (cameraOfflineEvent s), rfl, ?_, ?_, fun c hc => ?_, fun c hc => ?_, ?_,
      fun i b hb => ?_⟩
    all_goals rw [cameraOfflineEvent_loss hm, onPort_camOffline]
    · rfl
    · rfl
    · exact (PerCam.get_ofFn _ c).trans (flagged_on hc)
    · exact (PerCam.get_ofFn _ c).trans (flagged_off hc)
    · exact List.length_map _
    · refine ⟨(b.mapCams fun c x => x.closedIf (tr.closes p c)).cams, ?_, fun c => ⟨?_, ?_⟩⟩
      · change (tr.queue.map _)[i]? = _
        rw [List.getElem?_map, hb]
        rfl
      · intro hon hfit hrun
        have hcloses : tr.closes p c = true := closes_iff.2 ⟨hon, hfit, hrun⟩
        rw [Bottle.mapCams, PerCam.get_ofFn, hcloses]
        cases b.cams.get c <;> rfl
      · intro hn
        have hcloses : tr.closes p c = false :=
          Bool.eq_false_iff.2 fun h => hn (closes_iff.1 h)
        rw [Bottle.mapCams, PerCam.get_ofFn, hcloses]
        rfl
  · refine ⟨arbitrate (cameraOnlineEvent s), rfl, ?_, ?_, fun c hc => ?_, fun c hc => ?_⟩
    all_goals rw [cameraOnlineEvent_back hm, onPort_camOnline]
    · rfl
    · rfl
    · exact (PerCam.get_ofFn _ c).trans (flagged_on hc)
    · exact (PerCam.get_ofFn _ c).trans (flagged_off hc)

end Sys2Proof.Machine

namespace Sys2Proof.Machine

/-! ### Triggers (R121 to R123) -/

/-- The Tracker whose shot counter of camera c has risen. -/
def Tracker.shotTaken (t : Tracker) (c : Cam) : Tracker :=
  { t with shots := t.shots.set c (t.shots.get c + 1) }

theorem triggerEvent_ignored {c : Cam} {s : State}
    (h : s.tracker.running = false ∨ (s.tracker.cameras.get c).fitted = false) :
    triggerEvent c s = s := if_pos h

theorem triggerEvent_reverse {c : Cam} {s : State} (hrun : s.tracker.running = true)
    (hfit : (s.tracker.cameras.get c).fitted = true) (hdir : s.tracker.lastDir = .reverse) :
    triggerEvent c s = setCounters { s.tracker.counters with
      reverseIgnored := s.tracker.counters.reverseIgnored + 1 } s := by
  unfold triggerEvent
  simp only [hrun, hfit, hdir]
  rfl

theorem triggerEvent_taken {c : Cam} {k : TrackParams} {s : State} (hrun : s.tracker.running = true)
    (hfit : (s.tracker.cameras.get c).fitted = true) (hdir : s.tracker.lastDir = .forward)
    (hk : s.tracker.params = some k) : triggerEvent c s = takeShot k c s := by
  unfold triggerEvent
  simp only [hrun, hfit, hdir, hk]
  rfl

theorem bounces_iff {t : Tracker} {k : TrackParams} : t.bounces k = true ↔
    ∃ b, t.queue.getLast? = some b ∧ (posDelta t.pos b.p0).natAbs < k.pitch / 2 := by
  unfold Tracker.bounces
  cases t.queue.getLast? with
  | none => simp
  | some b =>
    simp only [decide_eq_true_eq, Option.some.injEq, exists_eq_left']
    exact Iff.rfl

theorem absorb_append (init : List Bottle) (b : Bottle) :
    absorb (init ++ [b]) = init ++ [{ b with overrun := min (b.overrun + 1) 15 }] := by
  induction init with
  | nil => rfl
  | cons a as ih =>
    cases as with
    | nil => rfl
    | cons c cs => simpa [absorb] using ih

theorem leadShot_bounce {t : Tracker} {k : TrackParams} {st : Stamp} (h : t.bounces k = true) :
    t.leadShot k st = { t with counters := { t.counters with bounces := t.counters.bounces + 1 } } :=
  if_pos h

theorem leadShot_overrun {t : Tracker} {k : TrackParams} {st : Stamp} (h : ¬t.bounces k = true)
    (hfull : 64 ≤ t.queue.length) :
    t.leadShot k st = { t with
      queue := absorb t.queue
      counters := { t.counters with overruns := t.counters.overruns + 1 } } := by
  rw [Tracker.leadShot, if_neg h, if_pos (show queueMax ≤ _ from hfull)]

theorem leadShot_opens {t : Tracker} {k : TrackParams} {st : Stamp} (h : ¬t.bounces k = true)
    (hroom : t.queue.length < 64) : t.leadShot k st = t.addBottle st := by
  rw [Tracker.leadShot, if_neg h, if_neg (show ¬queueMax ≤ _ from Nat.not_le.2 hroom)]

/-- Settles O38: the lead shot bounces, overruns or opens an entry. -/
theorem leadShotOpensBouncesOrOverruns : Obligations.LeadShotOpensBouncesOrOverruns := by
  intro k s hrun hfit hdir hk tr n base other
  have hevent : triggerEvent .c1 s = s.setTracker (base.leadShot k s.clock.stamp) :=
    triggerEvent_taken (c := .c1) hrun hfit hdir hk
  refine ⟨arbitrate (triggerEvent .c1 s), rfl, ?_, ?_, fun b hb hnear => ?_,
    fun hfar => ⟨fun init b hq hfull => ?_, fun hroom => ?_⟩⟩
  all_goals rw [hevent]
  · rfl
  · rfl
  · exact leadShot_bounce (t := base) (bounces_iff.2 ⟨b, hb, hnear⟩)
  · have hno : ¬base.bounces k = true := fun h => by
      obtain ⟨b, hb, hnear⟩ := bounces_iff.1 h
      exact absurd hnear (Nat.not_lt.2 (hfar b hb))
    have hlead := leadShot_overrun (st := s.clock.stamp) hno hfull
    rw [show base.queue = init ++ [b] from hq, absorb_append] at hlead
    exact hlead
  · have hno : ¬base.bounces k = true := fun h => by
      obtain ⟨b, hb, hnear⟩ := bounces_iff.1 h
      exact absurd hnear (Nat.not_lt.2 (hfar b hb))
    exact leadShot_opens (st := s.clock.stamp) hno hroom

theorem takeShot_offline {c : Cam} {k : TrackParams} {s : State} (hc : c ≠ .c1)
    (hoff : (s.tracker.cameras.get c).online = false) :
    takeShot k c s = s.setTracker (s.tracker.shotTaken c) := by
  cases c
  · exact absurd rfl hc
  all_goals
    refine if_neg ?_
    rw [hoff]
    decide

theorem takeShot_online {c : Cam} {k : TrackParams} {s : State} (hc : c ≠ .c1)
    (hon : (s.tracker.cameras.get c).online = true) :
    takeShot k c s = matchShot k c (s.setTracker (s.tracker.shotTaken c)) := by
  cases c
  · exact absurd rfl hc
  all_goals exact if_pos hon

theorem qualifies_iff {k : TrackParams} {p : Pos} {c : Cam} {b : Bottle} :
    b.qualifies k p c = true ↔ b.cams.get c = .awaited ∧
      (posDelta p (posAdd b.p0 (k.camOffset c))).natAbs ≤ k.window := by
  simp only [Bottle.qualifies, Bottle.awaits, Bool.and_eq_true, decide_eq_true_eq]
  exact Iff.rfl

theorem updateFirst_append {p : Bottle → Bool} {f : Bottle → Bottle} {pre post : List Bottle}
    {b : Bottle} (hpre : ∀ a ∈ pre, ¬p a = true) (hb : p b = true) :
    updateFirst p f (pre ++ b :: post) = pre ++ f b :: post := by
  induction pre with
  | nil => exact if_pos hb
  | cons a as ih =>
    rw [List.cons_append, updateFirst, if_neg (hpre a List.mem_cons_self),
      ih fun x hx => hpre x (List.mem_cons_of_mem a hx)]
    rfl

theorem matchShot_matched {k : TrackParams} {c : Cam} {s : State} {pre post : List Bottle} {b : Bottle}
    (hq : s.tracker.queue = pre ++ b :: post)
    (hpre : ∀ a ∈ pre, ¬a.qualifies k s.tracker.pos c = true)
    (hb : b.qualifies k s.tracker.pos c = true) :
    matchShot k c s = setQueue (pre ++ b.setCam c (.shot (s.tracker.shots.get c)) :: post) s := by
  have hany : s.tracker.queue.any (Bottle.qualifies k s.tracker.pos c) = true :=
    List.any_eq_true.2 ⟨b, by simp [hq], hb⟩
  unfold matchShot
  dsimp only
  rw [if_pos hany, hq, updateFirst_append hpre hb]

theorem matchShot_stray {k : TrackParams} {c : Cam} {s : State}
    (h : ∀ b ∈ s.tracker.queue, ¬b.qualifies k s.tracker.pos c = true) :
    matchShot k c s =
      raise (.shotStray c (s.tracker.shots.get c) s.tracker.pos
          (s.tracker.queue.countP (Bottle.awaits c)))
        (setCounters { s.tracker.counters with strays := s.tracker.counters.strays + 1 } s) := by
  refine if_neg ?_
  rw [List.any_eq_true]
  rintro ⟨b, hb, hq⟩
  exact h b hb hq

theorem matchShot_mail (k : TrackParams) (c : Cam) (s : State) :
    (matchShot k c s).mail = s.mail := by
  unfold matchShot
  dsimp only
  split_ifs
  · rfl
  · rw [raise_mail]
    rfl

theorem takeShot_mail (k : TrackParams) (c : Cam) (s : State) : (takeShot k c s).mail = s.mail := by
  by_cases hc : c = .c1
  · subst hc
    rfl
  · cases hon : (s.tracker.cameras.get c).online
    · rw [takeShot_offline hc hon]
      rfl
    · rw [takeShot_online hc hon, matchShot_mail]
      rfl

theorem triggerEvent_mail (c : Cam) (s : State) : (triggerEvent c s).mail = s.mail := by
  unfold triggerEvent
  dsimp only
  split_ifs
  · rfl
  · split
    · rfl
    · split
      · exact takeShot_mail ..
      · rfl

/-- Settles O39: by the Tracker's state, the direction and the entries that qualify. -/
theorem cameraShotMatchesOldestOrStrays : Obligations.CameraShotMatchesOldestOrStrays := by
  intro c k s tr n base ok
  have hquiet {u : Tracker} (hu : triggerEvent c s = s.setTracker u) :
      (arbitrate (triggerEvent c s)).tracker = u ∧ Reported [] s (arbitrate (triggerEvent c s)) := by
    rw [hu]
    exact ⟨rfl, rfl, rfl⟩
  have htransit : (triggerEvent c s).transit = s.transit := by rw [triggerEvent_only]
  refine ⟨arbitrate (triggerEvent c s), rfl, ?_, ?_, fun h => ?_, fun hrun hfit hdir => ?_,
    fun hrun hfit hdir hk hc => ⟨fun hoff => ?_, fun hon => ⟨fun pre b post hq hpre hb => ?_,
      fun hnone => ?_⟩⟩⟩
  · rw [Arbitrated, ← htransit]
    rfl
  · have honly := triggerEvent_only c s
    rw [TrackerOnly, triggerEvent_mail] at honly
    rw [arbitrate_frame, honly]
  · exact hquiet (triggerEvent_ignored h)
  · exact hquiet (triggerEvent_reverse hrun hfit hdir)
  · exact hquiet ((triggerEvent_taken hrun hfit hdir hk).trans (takeShot_offline hc hoff))
  · have hshot : base.shots.get c = n := PerCam.get_set_self ..
    have hmatch := matchShot_matched (s := s.setTracker (tr.shotTaken c)) (c := c) (k := k) hq
      (fun a ha h => hpre a ha (qualifies_iff.1 h)) (qualifies_iff.2 hb)
    rw [show (s.setTracker (tr.shotTaken c)).tracker.shots.get c = n from hshot] at hmatch
    exact hquiet ((triggerEvent_taken hrun hfit hdir hk).trans
      ((takeShot_online hc hon).trans hmatch))
  · have hshot : base.shots.get c = n := PerCam.get_set_self ..
    have hstray := matchShot_stray (s := s.setTracker (tr.shotTaken c)) (c := c) (k := k)
      fun b hb h => hnone b hb (qualifies_iff.1 h)
    rw [show (s.setTracker (tr.shotTaken c)).tracker.shots.get c = n from hshot] at hstray
    have hevent := (triggerEvent_taken hrun hfit hdir hk).trans ((takeShot_online hc hon).trans hstray)
    rw [hevent]
    refine ⟨raise_tracker .., ?_⟩
    have hrep : Reported [.shotStray c n tr.pos (tr.queue.countP (Bottle.awaits c))] _
      (raise (.shotStray c n tr.pos (tr.queue.countP (Bottle.awaits c)))
        (setCounters { tr.counters with strays := tr.counters.strays + 1 }
          (s.setTracker (tr.shotTaken c)))) := ⟨rfl, rfl⟩
    exact hrep.congr rfl rfl rfl rfl

end Sys2Proof.Machine

namespace Sys2Proof.Machine

/-! ### The conveyor's advance without a decision (R115, R124, R143) -/

/-- A slot of camera c after P has come to `p`: MISSED where it is AWAITED and its window is past. -/
def TrackParams.missSlot (k : TrackParams) (p p0 : Pos) (c : Cam) (x : CamSlot) : CamSlot :=
  if x = .awaited ∧ 0 < posDelta p (posAdd p0 (k.camOffset c + k.window)) then .missed else x

theorem missCam_eq (k : TrackParams) (p : Pos) (b : Bottle) (c : Cam) :
    missCam k p b c = b.setCam c (k.missSlot p b.p0 c (b.cams.get c)) := by
  have hsame (h : b.cams.get c ≠ .awaited) :
      b.setCam c (k.missSlot p b.p0 c (b.cams.get c)) = b := by
    rw [TrackParams.missSlot, if_neg fun hc => h hc.1, setCam_get]
  unfold missCam
  cases hc : b.cams.get c with
  | awaited =>
    simp only [TrackParams.missSlot, true_and]
    split_ifs
    · rfl
    · rw [← hc, setCam_get]
  | _ =>
    have hunchanged := hsame (by rw [hc]; nofun)
    rw [hc] at hunchanged
    exact hunchanged.symm

theorem misses_eq (k : TrackParams) (p : Pos) (b : Bottle) :
    b.misses k p = b.mapCams (k.missSlot p b.p0) := by
  simp only [Bottle.misses, allCams, List.foldl_cons, List.foldl_nil, missCam_eq]
  rfl

theorem testGate_eq (t : Tracker) : t.testGate =
    { t with gateActive := t.gateActive && decide (posDelta t.pos t.offPos < 0) } := by
  unfold Tracker.testGate
  by_cases hd : posDelta t.pos t.offPos < 0
  · rw [if_neg fun h => absurd h.2 (Int.not_le.2 hd), decide_eq_true hd, Bool.and_true]
  · rw [decide_eq_false hd, Bool.and_false]
    by_cases hg : t.gateActive = true
    · rw [if_pos ⟨hg, Int.not_lt.1 hd⟩]
    · rw [if_neg fun h => hg h.1, ← Bool.eq_false_iff.2 hg]

theorem encoderEvent_stopped {s : State} (h : s.tracker.running = false) :
    encoderEvent .forward s = s.setTracker (s.tracker.move .forward) := by
  refine if_neg ?_
  change ¬s.tracker.running = true
  rw [h]
  decide

theorem encoderEvent_running {k : TrackParams} {s : State} (hrun : s.tracker.running = true)
    (hk : s.tracker.params = some k) :
    encoderEvent .forward s = conveyorAdvance k (s.setTracker (s.tracker.move .forward)) := by
  have hk' : (s.setTracker (s.tracker.move .forward)).tracker.params = some k := hk
  unfold encoderEvent
  simp only [hk']
  exact if_pos hrun

/-- A head that has not reached its reject point ends the decisions. -/
theorem decideHeads_of_not_reached {k : TrackParams} {q : List Bottle} {s : State}
    (h : ∀ b, q.head? = some b → ¬b.atReject k s.tracker.pos = true) : decideHeads k q s = s := by
  cases q with
  | nil => rfl
  | cons b rest => exact if_neg (h b rfl)

/-- Settles O36: a reverse pulse, a pulse while STOPPED, and one that decides no head. -/
theorem encoderPulseMovesTheBelt : Obligations.EncoderPulseMovesTheBelt := by
  intro s
  refine ⟨⟨_, rfl, rfl, rfl⟩, fun hrun => ?_, fun k hrun hk hhead => ?_⟩
  · refine ⟨arbitrate (encoderEvent .forward s), rfl, ?_, ?_⟩ <;> rw [encoderEvent_stopped hrun] <;> rfl
  · have hadvance : encoderEvent .forward s = s.setTracker { s.tracker with
        pos := s.tracker.pos + 1, lastDir := .forward
        queue := s.tracker.queue.map (Bottle.misses k (s.tracker.pos + 1))
        gateActive := s.tracker.gateActive &&
          decide (posDelta (s.tracker.pos + 1) s.tracker.offPos < 0) } := by
      rw [encoderEvent_running hrun hk, conveyorAdvance]
      dsimp only
      rw [decideHeads_of_not_reached, testGate_eq]
      · rfl
      · intro b hb
        change (s.tracker.queue.map _).head? = some b at hb
        rw [List.head?_map] at hb
        obtain ⟨a, ha, rfl⟩ := Option.map_eq_some_iff.1 hb
        rw [misses_eq]
        exact fun hreached => absurd (hhead a ha) (Int.not_lt.2 (of_decide_eq_true hreached))
    refine ⟨arbitrate (encoderEvent .forward s),
      s.tracker.queue.map (Bottle.misses k (s.tracker.pos + 1)), rfl, ?_, ?_, List.length_map _,
      fun i b hb => ⟨(b.misses k (s.tracker.pos + 1)).cams, ?_, fun c => ?_⟩⟩
    · rw [hadvance]; rfl
    · rw [hadvance]; rfl
    · rw [List.getElem?_map, hb, Option.map_some, misses_eq]
      rfl
    · rw [misses_eq, Bottle.mapCams, PerCam.get_ofFn]
      rfl

end Sys2Proof.Machine

namespace Sys2Proof.Machine

/-! ### The decision of a head (R137 to R142) -/

theorem openGate_eq (t : Tracker) (n : Pos) : t.openGate n =
    { t with
      gateActive := true
      offPos := if t.gateActive = true ∧ ¬0 < posDelta n t.offPos then t.offPos else n } := by
  unfold Tracker.openGate
  by_cases hg : t.gateActive = true
  · by_cases hn : 0 < posDelta n t.offPos
    · rw [if_pos hg, if_pos hn, if_neg fun h => h.2 hn, hg]
    · rw [if_pos hg, if_neg hn, if_pos ⟨hg, hn⟩, hg]
  · rw [if_neg hg, if_neg fun h => hg h.1]

/-- The Tracker after a credit is counted. -/
def Tracker.credited (t : Tracker) (credit : Option Credit) : Tracker :=
  { t with
    passCredits := match credit with
      | some (.pass r) => t.passCredits.set r (t.passCredits.get r + 1)
      | _ => t.passCredits
    rejectCredits := match credit with
      | some (.reject r) => t.rejectCredits.set r (t.rejectCredits.get r + 1)
      | _ => t.rejectCredits }

theorem sendCredit_eq (credit : Option Credit) (s : State) : sendCredit credit s =
    { s with
      tracker := s.tracker.credited credit
      mail := { s.mail with credits := s.mail.credits ++ credit.toList } } := by
  rcases credit with _ | c
  · simp only [Option.toList_none, List.append_nil]
    rfl
  · cases c <;> rfl

/-- Where the gate's span ends after the decision `v` of the head `b`. -/
def Tracker.offAfter (t : Tracker) (k : TrackParams) (b : Bottle) (v : Verdict) : Pos :=
  match v with
  | .pass => t.offPos
  | .reject =>
    let n := posAdd t.pos (k.gateLength + b.overrun * k.pitch)
    if t.gateActive = true ∧ ¬0 < posDelta n t.offPos then t.offPos else n

/-- The Tracker after a decision is counted and the gate driven. -/
def Tracker.countedAndGated (t : Tracker) (k : TrackParams) (b : Bottle) (v : Verdict) : Tracker :=
  { t with
    counters := t.counters.decided v
    gateActive := t.gateActive || decide (v = .reject)
    offPos := t.offAfter k b v }

/-- The reports of the decision `v` of the head `b`. -/
def Bottle.decisionReports (b : Bottle) (v : Verdict) (reason : DecisionReason) (off : Pos) :
    List Report :=
  match v with
  | .pass => []
  | .reject => [rejectedReport b reason off]

theorem countAndGate_eq (k : TrackParams) (b : Bottle) (v : Verdict) (reason : DecisionReason)
    (s : State) :
    countAndGate k b v reason s = { s with
        tracker := s.tracker.countedAndGated k b v
        staging := (countAndGate k b v reason s).staging
        writer := (countAndGate k b v reason s).writer } ∧
      Reported (b.decisionReports v reason (s.tracker.offAfter k b v)) s
        (countAndGate k b v reason s) := by
  cases v with
  | pass =>
    refine ⟨?_, ⟨rfl, rfl⟩⟩
    have hgate : (s.tracker.gateActive || decide (Verdict.pass = .reject)) = s.tracker.gateActive :=
      Bool.or_false _
    rw [Tracker.countedAndGated, hgate]
    rfl
  | reject =>
    have hgate := openGate_eq { s.tracker with counters := s.tracker.counters.decided .reject }
      (offPosition s.tracker.pos k b.overrun)
    have hactive : (s.tracker.gateActive || decide (Verdict.reject = .reject)) = true :=
      Bool.or_true _
    have hcounted : countAndGate k b .reject reason s =
        raise (rejectedReport b reason (s.tracker.offAfter k b .reject))
          (s.setTracker (s.tracker.countedAndGated k b .reject)) := by
      rw [countAndGate]
      dsimp only
      rw [hgate, Tracker.countedAndGated, hactive]
      rfl
    rw [hcounted]
    have hrep : Reported [rejectedReport b reason (s.tracker.offAfter k b .reject)] _
      (raise (rejectedReport b reason (s.tracker.offAfter k b .reject))
        (s.setTracker (s.tracker.countedAndGated k b .reject))) := ⟨rfl, rfl⟩
    refine ⟨?_, hrep.congr rfl rfl rfl rfl⟩
    rw [raise_frame]
    rfl

theorem decideHead_eq (k : TrackParams) (b : Bottle) (rest : List Bottle) (s : State)
    {v : Verdict} {reason : DecisionReason} (hd : b.decision k.action = (v, reason)) :
    decideHead k b rest s = { s with
        tracker := { (s.tracker.countedAndGated k b v).credited (b.credit reason) with queue := rest }
        mail := { s.mail with credits := s.mail.credits ++ (b.credit reason).toList }
        staging := (decideHead k b rest s).staging, writer := (decideHead k b rest s).writer } ∧
      Reported (b.decisionReports v reason (s.tracker.offAfter k b v)) s (decideHead k b rest s) := by
  obtain ⟨hframe, hrep⟩ := countAndGate_eq k b v reason s
  have hdecide : decideHead k b rest s =
      setQueue rest (sendCredit (b.credit reason) (countAndGate k b v reason s)) := by
    rw [decideHead, hd]
  rw [hdecide, sendCredit_eq]
  generalize countAndGate k b v reason s = w at *
  refine ⟨?_, hrep⟩
  rw [hframe]
  rfl

/-- The rows of R137 in their order, for any spelling of the two slot tests and of the action. -/
theorem decision_rows (b : Bottle) (a : NoVerdictAction) {rejects lacks : CamSlot → Bool} {w : Verdict}
    (hr : ∀ c, rejects c = c.isReject) (hl : ∀ c, lacks c = c.lacking) (hw : w = a.verdict) :
    if 0 < b.overrun then (b.decision a).1 = .reject ∧ (b.decision a).2 = .overrun
    else if b.cams.toList.any rejects then (b.decision a).1 = .reject ∧ (b.decision a).2 = .verdict
    else if b.cams.toList.any lacks then (b.decision a).1 = w ∧ (b.decision a).2 = .noVerdict
    else (b.decision a).1 = .pass ∧ (b.decision a).2 = .verified := by
  obtain rfl : rejects = CamSlot.isReject := funext hr
  obtain rfl : lacks = CamSlot.lacking := funext hl
  unfold Bottle.decision
  split_ifs <;> simp [hw]

theorem headDecided_of (k : TrackParams) (b : Bottle) (rest : List Bottle) (t : Tracker)
    {v : Verdict} {reason : DecisionReason} (hd : b.decision k.action = (v, reason)) :
    HeadDecided k b rest t
      { (t.countedAndGated k b v).credited (b.credit reason) with queue := rest }
      (b.decisionReports v reason (t.offAfter k b v)) (b.credit reason).toList := by
  refine ⟨v, reason, b.credit reason, t.offAfter k b v, ?_, ?_, ?_, ?_, ?_, rfl⟩
  · have hrows := decision_rows b k.action (rejects := fun c => match c with | .reject .. => true | _ => false)
      (lacks := fun c => match c with
        | .missed => true | .shot .. => true | .noVerdict .. => true | .awaited => true | _ => false)
      (w := match k.action with | .reject => .reject | .pass => .pass)
      (fun c => by cases c <;> rfl) (fun c => by cases c <;> rfl) (by cases k.action <;> rfl)
    rw [hd] at hrows
    exact hrows
  · cases reason <;> rfl
  · cases v <;> rfl
  · cases v <;> rfl
  · cases v <;> rfl

theorem atReject_iff {b : Bottle} {k : TrackParams} {p : Pos} :
    b.atReject k p = true ↔ b.reached k p := decide_eq_true_iff

/-- The decisions of one pulse, and what they leave beside the Tracker. -/
theorem decideHeads_decided (k : TrackParams) (q : List Bottle) (s : State) (hq : s.tracker.queue = q) :
    ∃ u rs cs, HeadsDecided k s.tracker u rs cs ∧ u.pos = s.tracker.pos ∧
      decideHeads k q s = { s with
        tracker := u, mail := { s.mail with credits := s.mail.credits ++ cs }
        staging := (decideHeads k q s).staging, writer := (decideHeads k q s).writer } ∧
      Reported rs s (decideHeads k q s) := by
  induction q generalizing s with
  | nil =>
    refine ⟨s.tracker, [], [], .rest _ fun b hb => ?_, rfl, ?_, ⟨rfl, rfl⟩⟩
    · rw [hq] at hb
      cases hb
    · rw [List.append_nil]
      rfl
  | cons b rest ih =>
    by_cases hb : b.atReject k s.tracker.pos = true
    · obtain ⟨hframe, hrep⟩ := decideHead_eq k b rest s (v := (b.decision k.action).1)
        (reason := (b.decision k.action).2) rfl
      have hhead := headDecided_of k b rest s.tracker (v := (b.decision k.action).1)
        (reason := (b.decision k.action).2) rfl
      have hdecide : decideHeads k (b :: rest) s = decideHeads k rest (decideHead k b rest s) :=
        if_pos hb
      rw [hdecide]
      obtain ⟨u, rs, cs, hheads, hpos, hframe', hrep'⟩ :=
        ih (decideHead k b rest s) (by rw [hframe])
      generalize decideHead k b rest s = w at *
      refine ⟨u, _, _, .head _ _ _ _ _ _ rs _ cs hq (atReject_iff.1 hb) hhead ?_, ?_, ?_,
        hrep.trans hrep' (by rw [hframe]) (by rw [hframe])⟩
      · rw [hframe] at hheads
        exact hheads
      · rw [hpos, hframe]
        rfl
      · rw [hframe', hframe]
        simp only [List.append_assoc]
    · refine ⟨s.tracker, [], [], .rest _ fun a ha => ?_, rfl, ?_, ?_⟩
      · rw [hq] at ha
        cases ha
        exact fun h => hb (atReject_iff.2 h)
      · rw [show decideHeads k (b :: rest) s = s from if_neg hb, List.append_nil]
      · rw [show decideHeads k (b :: rest) s = s from if_neg hb]
        exact ⟨rfl, rfl⟩

/-- Settles O37: the heads are decided one after another, then the gate is tested. -/
theorem headIsDecidedAtRejectPoint : Obligations.HeadIsDecidedAtRejectPoint := by
  intro k s hrun hk p queue
  have hevent : encoderEvent .forward s =
      (decideHeads k queue (s.setTracker ((s.tracker.move .forward).misses k))).setTracker
        (decideHeads k queue
          (s.setTracker ((s.tracker.move .forward).misses k))).tracker.testGate := by
    rw [encoderEvent_running hrun hk]
    rfl
  obtain ⟨u, rs, cs, hheads, hpos, hframe, hrep⟩ :=
    decideHeads_decided k queue (s.setTracker ((s.tracker.move .forward).misses k)) rfl
  generalize decideHeads k queue (s.setTracker ((s.tracker.move .forward).misses k)) = v at *
  have htracker : v.tracker = u := by rw [hframe]
  have hgate : u.testGate =
      { u with gateActive := u.gateActive && decide (posDelta p u.offPos < 0) } := by
    rw [← show u.pos = p from hpos]
    exact testGate_eq u
  rw [htracker, hgate] at hevent
  refine ⟨arbitrate (encoderEvent .forward s), u, rs, cs, rfl, ?_, hheads, ?_, ?_⟩
  · rw [hevent, hframe]; rfl
  · rw [hevent, hframe]; rfl
  · rw [hevent]
    exact hrep.congr rfl rfl rfl rfl

end Sys2Proof.Machine

namespace Sys2Proof.Machine

/-! ### Notices to the blocks that the roles name (R73) -/

/-- The mail after port p's role notice: a link return where `up`, else a link loss. -/
def Mail.linkNoticed (m : Mail) (role : Role) (p : SwPort) (up : Bool) : Mail :=
  match role with
  | .timeSource => { m with clock := m.clock ++ [if up then .linkReturn p else .linkLoss p] }
  | .robotLink => { m with robotLink := m.robotLink ++ [if up then .back p else .loss p] }
  | .camera => { m with cameras := m.cameras ++ [if up then .back p else .loss p] }
  | .service => if up then m else { m with serviceLoss := m.serviceLoss ++ [p] }
  | .unused => m
  | .uplink => m

theorem sendLoss_eq (p : SwPort) (s : State) :
    sendLoss p s = s.setMail (s.mail.linkNoticed (s.port p).role p false) := by
  unfold sendLoss
  cases (s.port p).role <;> rfl

theorem sendReturn_eq (p : SwPort) (s : State) :
    sendReturn p s = s.setMail (s.mail.linkNoticed (s.port p).role p true) := by
  unfold sendReturn
  cases (s.port p).role <;> rfl

/-- The ports of `l` whose link is UP with the role `x`. -/
def State.upWith (s : State) (l : List SwPort) (x : Role) : List SwPort :=
  l.filter fun p => (s.switch.table.get p).linkUp && decide ((s.switch.table.get p).role = x)

/-- The mail after a loss of each of the ports of `l` whose link is UP. -/
def State.lossesSent (s : State) (l : List SwPort) : Mail :=
  { s.mail with
    clock := s.mail.clock ++ (s.upWith l .timeSource).map .linkLoss
    robotLink := s.mail.robotLink ++ (s.upWith l .robotLink).map .loss
    cameras := s.mail.cameras ++ (s.upWith l .camera).map .loss
    serviceLoss := s.mail.serviceLoss ++ s.upWith l .service }

/-- The mail after a return of each of the ports of `l` whose link is UP. -/
def State.returnsSent (s : State) (l : List SwPort) : Mail :=
  { s.mail with
    clock := s.mail.clock ++ (s.upWith l .timeSource).map .linkReturn
    robotLink := s.mail.robotLink ++ (s.upWith l .robotLink).map .back
    cameras := s.mail.cameras ++ (s.upWith l .camera).map .back }

theorem upWith_cons (s : State) (p : SwPort) (l : List SwPort) (x : Role) :
    s.upWith (p :: l) x =
      if (s.port p).linkUp = true ∧ (s.port p).role = x then p :: s.upWith l x else s.upWith l x := by
  unfold State.upWith
  rw [List.filter_cons]
  simp only [Bool.and_eq_true, decide_eq_true_eq]
  rfl

theorem foldl_sendLoss (l : List SwPort) (s : State) :
    l.foldl (fun s p => if (s.port p).linkUp then sendLoss p s else s) s =
      s.setMail (s.lossesSent l) := by
  induction l generalizing s with
  | nil => simp [State.lossesSent, State.upWith]; rfl
  | cons p l ih =>
    rw [List.foldl_cons]
    by_cases hup : (s.port p).linkUp = true
    · rw [if_pos hup, ih, sendLoss_eq]
      cases hrole : (s.port p).role <;>
        simp [State.lossesSent, upWith_cons, hup, hrole, Mail.linkNoticed] <;> rfl
    · rw [if_neg hup, ih]
      simp [State.lossesSent, upWith_cons, hup]

theorem foldl_sendReturn (l : List SwPort) (s : State) :
    l.foldl (fun s p => if (s.port p).linkUp then sendReturn p s else s) s =
      s.setMail (s.returnsSent l) := by
  induction l generalizing s with
  | nil => simp [State.returnsSent, State.upWith]; rfl
  | cons p l ih =>
    rw [List.foldl_cons]
    by_cases hup : (s.port p).linkUp = true
    · rw [if_pos hup, ih, sendReturn_eq]
      cases hrole : (s.port p).role <;>
        simp [State.returnsSent, upWith_cons, hup, hrole, Mail.linkNoticed] <;> rfl
    · rw [if_neg hup, ih]
      simp [State.returnsSent, upWith_cons, hup]

theorem sendForUpPorts_loss (s : State) :
    sendForUpPorts sendLoss s = s.setMail (s.lossesSent allPorts) := foldl_sendLoss allPorts s

theorem sendForUpPorts_return (s : State) :
    sendForUpPorts sendReturn s = s.setMail (s.returnsSent allPorts) := foldl_sendReturn allPorts s

/-! ### The heartbeat timer (R77) -/

theorem switchTimeoutEvent_due {h : Micros} {s : State} (hst : s.switch.state = .alive)
    (ht : s.switch.timer = some h) (hdue : s.switch.timeout * 1000 ≤ (s.clock.m - h).toNat) :
    switchTimeoutEvent s = becomeSilent s := by
  refine if_pos ?_
  rw [switchTimeoutDue, hst, decide_eq_true rfl, Bool.true_and]
  exact timerDue_of ht hdue

theorem becomeSilent_eq (s : State) :
    becomeSilent s = { s with
        switch := { s.switch with state := .silent, timer := none }
        mail := { s.mail with
          clock := s.mail.clock ++ [.silent] ++ (s.upWith allPorts .timeSource).map .linkLoss
          robotLink := s.mail.robotLink ++ (s.upWith allPorts .robotLink).map .loss
          cameras := s.mail.cameras ++ (s.upWith allPorts .camera).map .loss
          serviceLoss := s.mail.serviceLoss ++ s.upWith allPorts .service }
        staging := (becomeSilent s).staging, writer := (becomeSilent s).writer } ∧
      Reported [.switchState .alive .silent false s.switch.lastSequence s.switch.restarts] s
        (becomeSilent s) := by
  have hframe := raise_frame (.switchState .alive .silent false s.switch.lastSequence s.switch.restarts)
    (s.setSwitch { s.switch with state := .silent, timer := none })
  have hrep : Reported [.switchState .alive .silent false s.switch.lastSequence s.switch.restarts] _
    (raise (.switchState .alive .silent false s.switch.lastSequence s.switch.restarts)
      (s.setSwitch { s.switch with state := .silent, timer := none })) := ⟨rfl, rfl⟩
  simp only [becomeSilent, sendForUpPorts_loss]
  generalize raise (.switchState .alive .silent false s.switch.lastSequence s.switch.restarts)
    (s.setSwitch { s.switch with state := .silent, timer := none }) = v at *
  refine ⟨?_, hrep.congr rfl rfl rfl rfl⟩
  rw [hframe]
  rfl

/-! ### The heartbeat (R76, R78) -/

/-- A report raised where `p` holds. -/
theorem raiseIf_frame (p : Prop) [Decidable p] (x : Report) (s : State) :
    (if p then raise x s else s) = { s with
        staging := (if p then raise x s else s).staging
        writer := (if p then raise x s else s).writer } ∧
      Reported (if p then [x] else []) s (if p then raise x s else s) := by
  split_ifs
  · exact ⟨raise_frame x s, rfl, rfl⟩
  · exact ⟨rfl, rfl, rfl⟩

theorem decodeHeartbeat_repeated {w : Word} {s : State}
    (h : s.switch.lastSequence = some (heartbeatSequence w)) : decodeHeartbeat w s = s := if_pos h

/-- The Switch Watch after a heartbeat with a new sequence. -/
def SwitchWatch.beaten (k : SwitchWatch) (sq : BitVec 16) (now : Micros) : SwitchWatch :=
  { k with
    table := if k.isRestart sq = true then k.table.map fun e => { e with baselinePending := true }
      else k.table
    state := .alive, lastSequence := some sq, timer := some now
    restarts := if k.isRestart sq = true then min (k.restarts + 1) 65535 else k.restarts
    lastHeartbeat := some ⟨now, false⟩ }

/-- The state after a heartbeat with a new sequence, but for its report. -/
def State.heartbeatTaken (s : State) (sq : BitVec 16) : State :=
  { s with
    switch := s.switch.beaten sq s.now
    mail := if s.switch.state = .silent then
        { s.mail with
          clock := s.mail.clock ++ [.silentEnded] ++ (s.upWith allPorts .timeSource).map .linkReturn
          robotLink := s.mail.robotLink ++ (s.upWith allPorts .robotLink).map .back
          cameras := s.mail.cameras ++ (s.upWith allPorts .camera).map .back }
      else s.mail }

/-- A restart leaves every port's link and role. -/
theorem upWith_beaten (sq : BitVec 16) (now : Micros) (l : List SwPort) (x : Role) (s : State) :
    (s.setSwitch (s.switch.beaten sq now)).upWith l x = s.upWith l x := by
  refine List.filter_congr fun p _ => ?_
  change (((s.switch.beaten sq now).table.get p).linkUp &&
    decide (((s.switch.beaten sq now).table.get p).role = x)) = _
  unfold SwitchWatch.beaten
  dsimp only
  split_ifs
  · rw [PerPort.get_map]
  · rfl

theorem upWith_setMail (s : State) (m : Mail) (l : List SwPort) (x : Role) :
    (s.setMail m).upWith l x = s.upWith l x := rfl

theorem decodeHeartbeat_eq {w : Word} {s : State}
    (h : s.switch.lastSequence ≠ some (heartbeatSequence w)) :
    decodeHeartbeat w s =
      if s.switch.state ≠ .alive ∨ s.switch.isRestart (heartbeatSequence w) = true then
        raise (.switchState s.switch.state .alive (s.switch.isRestart (heartbeatSequence w))
            (some (heartbeatSequence w)) (s.switch.beaten (heartbeatSequence w) s.now).restarts)
          (s.heartbeatTaken (heartbeatSequence w))
      else s.heartbeatTaken (heartbeatSequence w) := by
  have hafter : { (if s.switch.isRestart (heartbeatSequence w) then s.switch.restart else s.switch) with
      lastSequence := some (heartbeatSequence w), timer := some s.now
      lastHeartbeat := some (.of s.now), state := .alive } =
      s.switch.beaten (heartbeatSequence w) s.now := by
    unfold SwitchWatch.beaten
    split_ifs <;> rfl
  have htaken : (if s.switch.state = .silent then
        sendForUpPorts sendReturn ((s.setSwitch (s.switch.beaten (heartbeatSequence w) s.now)).setMail
          { (s.setSwitch (s.switch.beaten (heartbeatSequence w) s.now)).mail with
            clock := (s.setSwitch (s.switch.beaten (heartbeatSequence w) s.now)).mail.clock ++
              [.silentEnded] })
      else s.setSwitch (s.switch.beaten (heartbeatSequence w) s.now)) =
      s.heartbeatTaken (heartbeatSequence w) := by
    unfold State.heartbeatTaken
    split_ifs
    · rw [sendForUpPorts_return]
      simp only [State.returnsSent, upWith_setMail, upWith_beaten]
      rfl
    · rfl
  unfold decodeHeartbeat
  dsimp only
  rw [if_neg h, hafter]
  rw [htaken, ← hafter]

theorem decodeHeartbeat_new {w : Word} {s : State}
    (h : s.switch.lastSequence ≠ some (heartbeatSequence w)) :
    decodeHeartbeat w s = { s.heartbeatTaken (heartbeatSequence w) with
        staging := (decodeHeartbeat w s).staging, writer := (decodeHeartbeat w s).writer } ∧
      Reported
        (if s.switch.state ≠ .alive ∨ s.switch.isRestart (heartbeatSequence w) = true then
          [.switchState s.switch.state .alive (s.switch.isRestart (heartbeatSequence w))
            (some (heartbeatSequence w)) (s.switch.beaten (heartbeatSequence w) s.now).restarts]
        else []) s (decodeHeartbeat w s) := by
  rw [decodeHeartbeat_eq h]
  obtain ⟨hframe, hrep⟩ := raiseIf_frame
    (s.switch.state ≠ .alive ∨ s.switch.isRestart (heartbeatSequence w) = true)
    (.switchState s.switch.state .alive (s.switch.isRestart (heartbeatSequence w))
      (some (heartbeatSequence w)) (s.switch.beaten (heartbeatSequence w) s.now).restarts)
    (s.heartbeatTaken (heartbeatSequence w))
  exact ⟨hframe, hrep.congr rfl rfl rfl rfl⟩

/-! ### Words that SWITCH writes (R68) -/

theorem handleWrite_ports {m : Master} {q : Request} {s : State}
    {issue : Slot → Word → State → State} (hk : (s.map.place q.addr.toNat).kind = .ports) :
    handleWrite issue m q (s.map.place q.addr.toNat) s =
      .accept q.words
        (if m = .switch then decodeMailbox (s.map.place q.addr.toNat).offset q.words else id) := by
  simp only [handleWrite, hk]

/-- SERVICE's flag is no matter of another master's admission. -/
theorem inFlight_of_other {m : Master} (h : m ≠ .service) (s : State) :
    { s.window with inFlight := s.window.inFlight || decide (m = .service) } = s.window := by
  rw [decide_eq_false h, Bool.or_false]

/-- The end of a write of SWITCH that leaves the state `v` behind its admission. -/
theorem Rightful.decodes {r : Request} {s v : State} (h : Rightful .switch r .ports s)
    (hv : decodeMailbox (s.map.place r.addr.toNat).offset r.words
      (admitted .switch r .ports r.words s) = v)
    (ht : v.transit = (admitted .switch r .ports r.words s).transit) :
    ∃ t, Machine.exec (.requestArrival .switch r) s = .next t ∧ t = arbitrate v ∧
      Admitted .switch r .ports r.words s t := by
  have hh := handleWrite_ports (m := .switch) (issue := issueFull) h.kind
  rw [if_pos rfl] at hh
  have hexec := h.exec hh (by rw [hv]; exact ht)
  rw [hv] at hexec
  refine ⟨arbitrate v, hexec, rfl, ?_⟩
  rw [Admitted, Arbitrated, arbitrate, State.setTransit_transit, ht]
  rfl

theorem decodeMailboxWord_heartbeat {w : WriteWord} {s : State} (hw : w.enables = 0b1111) :
    decodeMailboxWord 0 w s = decodeHeartbeat w.data s := by
  rw [decodeMailboxWord, if_neg (by decide), if_neg (show ¬w.enables ≠ allEnables from not_not.2 hw), if_pos rfl]

theorem decodeMailboxWord_port {w : WriteWord} {p : SwPort} {s : State} (hw : w.enables = 0b1111) :
    decodeMailboxWord p.num w s = decodePortWord p w.data s := by
  have hp : ¬8 < p.num ∧ p.num ≠ 0 := by cases p <;> decide
  rw [decodeMailboxWord, if_neg hp.1, if_neg (show ¬w.enables ≠ allEnables from not_not.2 hw), if_neg hp.2, SwPort.ofNum?_num]

/-- Settles O22: the switch timeout, and a heartbeat by its sequence. -/
theorem switchTimeoutMakesSilent : Obligations.SwitchTimeoutMakesSilent := by
  refine ⟨fun h s hst ht hdue => ?_, fun r w s hr hlen hwords hw ho => ?_⟩
  · intro upWith
    obtain ⟨hframe, hrep⟩ := becomeSilent_eq s
    refine ⟨arbitrate (switchTimeoutEvent s), rfl, ?_, ?_, ?_⟩
    all_goals rw [switchTimeoutEvent_due hst ht hdue]
    · rw [hframe]; rfl
    · rw [arbitrate_frame, hframe]; rfl
    · exact hrep
  · intro sq k restart restarts upWith
    have hdecode : decodeMailbox (s.map.place r.addr.toNat).offset r.words
        (admitted .switch r .ports r.words s) =
        decodeHeartbeat w.data (admitted .switch r .ports r.words s) := by
      rw [ho, hwords]
      exact decodeMailboxWord_heartbeat hw
    have hwindow := inFlight_of_other (m := .switch) (by decide) s
    by_cases hrepeat : k.lastSequence = some sq
    · rw [decodeHeartbeat_repeated (s := admitted .switch r .ports r.words s) hrepeat] at hdecode
      obtain ⟨t, hexec, ht, hadm⟩ := hr.decodes hdecode rfl
      rw [hwords] at hadm
      refine ⟨t, hexec, hadm, fun _ => ?_, fun h => absurd hrepeat h⟩
      rw [ht, arbitrate_frame, admitted, hwindow]
    · obtain ⟨hframe, hrep⟩ := decodeHeartbeat_new (s := admitted .switch r .ports r.words s) hrepeat
      generalize decodeHeartbeat w.data (admitted .switch r .ports r.words s) = v at *
      obtain ⟨t, hexec, ht, hadm⟩ := hr.decodes hdecode (by rw [hframe]; rfl)
      rw [hwords] at hadm
      refine ⟨t, hexec, hadm, fun h => absurd h hrepeat, fun _ => ⟨?_, ?_⟩⟩
      · rw [ht, arbitrate_frame, hframe]
        simp only [State.heartbeatTaken, admitted, hwindow]
        rfl
      · rw [ht]
        exact hrep.congr rfl rfl rfl rfl

end Sys2Proof.Machine

namespace Sys2Proof.Machine

/-! ### A port word (R69 to R72) -/

/-- What a port word of port p does for a link field that may have changed: the report, then the role's
notice unless the switch is SILENT. -/
def noteLink (p : SwPort) (role : Role) (up before : Bool) (x : Report) (st : SwitchState)
    (s : State) : State :=
  if up ≠ before then
    let r := if role ≠ .unused then raise x s else s
    if st = .silent then r else if up then sendReturn p r else sendLoss p r
  else s

theorem noteLink_eq {p : SwPort} {role : Role} {up before : Bool} {x : Report} {st : SwitchState}
    {s : State} (hrole : (s.port p).role = role) :
    noteLink p role up before x st s = { s with
        mail := if up = before ∨ st = .silent then s.mail else s.mail.linkNoticed role p up
        staging := (noteLink p role up before x st s).staging
        writer := (noteLink p role up before x st s).writer } ∧
      Reported (if up ≠ before ∧ role ≠ .unused then [x] else []) s (noteLink p role up before x st s) := by
  unfold noteLink
  by_cases hup : up = before
  · rw [if_neg (not_not.2 hup), if_pos (.inl hup), if_neg fun h => h.1 hup]
    exact ⟨rfl, rfl, rfl⟩
  · rw [if_pos hup]
    obtain ⟨hframe, hrep⟩ := raiseIf_frame (role ≠ .unused) x s
    dsimp only
    generalize (if role ≠ .unused then raise x s else s) = v at *
    have hrole' : (v.port p).role = role := by
      rw [hframe]
      exact hrole
    have hlist : (if up ≠ before ∧ role ≠ .unused then [x] else []) =
        if role ≠ .unused then [x] else [] := by simp only [ne_eq, hup, not_false_eq_true, true_and]
    rw [hlist]
    by_cases hsilent : st = .silent
    · rw [if_pos hsilent, if_pos (.inr hsilent)]
      exact ⟨hframe, hrep⟩
    · rw [if_neg hsilent, if_neg (not_or.2 ⟨hup, hsilent⟩)]
      cases up
      · rw [if_neg (by decide), sendLoss_eq, hrole']
        exact ⟨by rw [hframe]; rfl, hrep⟩
      · rw [if_pos rfl, sendReturn_eq, hrole']
        exact ⟨by rw [hframe]; rfl, hrep⟩

/-- The entry that a port word leaves. -/
def PortEntry.decoded (e : PortEntry) (w : Word) : PortEntry :=
  { e with
    baselinePending := false
    total := min (e.total + e.delta (portWordCount w)) 4294967295
    lastCount := portWordCount w
    linkUp := portWordUp w
    downLatched := e.downLatched || !portWordUp w
    stormLatched := e.stormLatched || portWordStorm w }

theorem decoded_eq (e : PortEntry) (w : Word) :
    ((e.takeCount (portWordCount w)).takeLink (portWordUp w)).takeStorm (portWordStorm w) =
      e.decoded w := by
  have hlatch (up : Bool) : (if up then e.downLatched else true) = (e.downLatched || !up) := by
    cases up <;> simp
  unfold PortEntry.takeStorm PortEntry.takeLink PortEntry.takeCount PortEntry.decoded
  dsimp only
  rw [hlatch]
  rfl

theorem setPort_setPort (p : SwPort) (e e' : PortEntry) (s : State) :
    setPort p e (setPort p e' s) = setPort p e s := by
  unfold setPort
  cases p <;> rfl

theorem decodePortWord_eq (p : SwPort) (w : Word) (s : State) :
    let e := s.port p
    let total := min (e.total + e.delta (portWordCount w)) 4294967295
    decodePortWord p w s = { s with
        switch := { s.switch with table := s.switch.table.set p (e.decoded w) }
        mail := if portWordUp w = e.linkUp ∨ s.switch.state = .silent then s.mail
          else s.mail.linkNoticed e.role p (portWordUp w)
        staging := (decodePortWord p w s).staging, writer := (decodePortWord p w s).writer } ∧
      Reported
        ((if e.threshold < e.delta (portWordCount w) ∧ e.role ≠ .unused then
            [.errorBurst p e.role (e.delta (portWordCount w)) e.threshold (portWordCount w) total]
          else []) ++
          (if portWordUp w ≠ e.linkUp ∧ e.role ≠ .unused then
            [.portLink p e.role e.linkUp (portWordUp w) (portWordSpeed w) (portWordCount w) total]
          else [])) s (decodePortWord p w s) := by
  intro e total
  obtain ⟨hburst, hrep⟩ := raiseIf_frame
    (e.threshold < e.delta (portWordCount w) ∧ e.role ≠ .unused)
    (.errorBurst p e.role (e.delta (portWordCount w)) e.threshold (portWordCount w) total)
    (setPort p (e.takeCount (portWordCount w)) s)
  have hdecode : decodePortWord p w s =
      setPort p (e.decoded w) (noteLink p e.role (portWordUp w) e.linkUp
        (.portLink p e.role e.linkUp (portWordUp w) (portWordSpeed w) (portWordCount w) total)
        s.switch.state (setPort p ((e.takeCount (portWordCount w)).takeLink (portWordUp w))
          (if e.threshold < e.delta (portWordCount w) ∧ e.role ≠ .unused then
            raise (.errorBurst p e.role (e.delta (portWordCount w)) e.threshold (portWordCount w) total)
              (setPort p (e.takeCount (portWordCount w)) s)
          else setPort p (e.takeCount (portWordCount w)) s))) := by
    rw [← decoded_eq]
    rfl
  rw [hdecode]
  generalize (if e.threshold < e.delta (portWordCount w) ∧ e.role ≠ .unused then
      raise (.errorBurst p e.role (e.delta (portWordCount w)) e.threshold (portWordCount w) total)
        (setPort p (e.takeCount (portWordCount w)) s)
    else setPort p (e.takeCount (portWordCount w)) s) = v at *
  have hrole : ((setPort p ((e.takeCount (portWordCount w)).takeLink (portWordUp w)) v).port p).role =
      e.role := by
    rw [State.port, setPort_get, if_pos rfl]
    rfl
  obtain ⟨hlink, hrep'⟩ := noteLink_eq (up := portWordUp w) (before := e.linkUp)
    (x := .portLink p e.role e.linkUp (portWordUp w) (portWordSpeed w) (portWordCount w) total)
    (st := s.switch.state) hrole
  generalize noteLink p e.role (portWordUp w) e.linkUp
    (.portLink p e.role e.linkUp (portWordUp w) (portWordSpeed w) (portWordCount w) total)
    s.switch.state (setPort p ((e.takeCount (portWordCount w)).takeLink (portWordUp w)) v) = u at *
  refine ⟨?_, ?_⟩
  · rw [hlink, hburst]
    cases p <;> rfl
  · have hfirst : Reported (if e.threshold < e.delta (portWordCount w) ∧ e.role ≠ .unused then
        [.errorBurst p e.role (e.delta (portWordCount w)) e.threshold (portWordCount w) total]
        else []) s v := hrep.congr rfl rfl rfl rfl
    have hsecond := hrep'.congr (u := v) rfl rfl rfl rfl
    exact hfirst.trans hsecond (by rw [hburst]; rfl) (by rw [hburst]; rfl)

/-! ### A write of SWITCH word by word (R68) -/

theorem decodeMailboxWord_high {o : Nat} {w : WriteWord} {s : State} (h : 8 < o) :
    decodeMailboxWord o w s = s := if_pos h

theorem decodeMailboxWord_partial {o : Nat} {w : WriteWord} {s : State} (h : o ≤ 8)
    (hw : w.enables ≠ 0b1111) :
    decodeMailboxWord o w s =
      s.setSwitch { s.switch with partialWords := satAdd32 s.switch.partialWords 1 } := by
  rw [decodeMailboxWord, if_neg (Nat.not_lt.2 h), if_pos (show w.enables ≠ allEnables from hw)]

/-- Words without all enables count as many partial words as lie in the mailbox. -/
theorem decodeMailbox_partial {o : Nat} {ws : List WriteWord} {s : State}
    (h : ∀ (i : Nat) (w : WriteWord), ws[i]? = some w → o + i ≤ 8 → w.enables ≠ 0b1111) :
    decodeMailbox o ws s = s.setSwitch { s.switch with
      partialWords := if 0 < min ws.length (9 - o) then
          min (s.switch.partialWords + min ws.length (9 - o)) 4294967295
        else s.switch.partialWords } := by
  induction ws generalizing o s with
  | nil => rfl
  | cons w ws ih =>
    have hrest : ∀ (i : Nat) (x : WriteWord), ws[i]? = some x → o + 1 + i ≤ 8 → x.enables ≠ 0b1111 :=
      fun i x hx hi => h (i + 1) x (by simpa using hx) (by omega)
    rw [decodeMailbox, ih hrest]
    by_cases ho : o ≤ 8
    · rw [decodeMailboxWord_partial ho (h 0 w rfl ho)]
      have hcount : (if 0 < min ws.length (9 - (o + 1)) then
            min (satAdd32 s.switch.partialWords 1 + min ws.length (9 - (o + 1))) 4294967295
          else satAdd32 s.switch.partialWords 1) =
          if 0 < min (w :: ws).length (9 - o) then
            min (s.switch.partialWords + min (w :: ws).length (9 - o)) 4294967295
          else s.switch.partialWords := by
        simp only [List.length_cons, satAdd32, max32]
        split_ifs <;> omega
      simp only [State.setSwitch_switch, hcount]
      rfl
    · have hnone : ¬0 < min (w :: ws).length (9 - o) := by omega
      have hnone' : ¬0 < min ws.length (9 - (o + 1)) := by omega
      rw [decodeMailboxWord_high (Nat.not_le.1 ho), if_neg hnone, if_neg hnone']

theorem admitted_inFlight {m : Master} (q : Request) (k : RegionKind) (ws : List WriteWord) (s : State)
    (h : m ≠ .service) : admitted m q k ws s =
      { s with
        pacing := s.charged m q
        transit := { s.transit with ports := s.transit.ports.set m (.waiting (s.txn q k ws)) } } := by
  rw [admitted, inFlight_of_other h]

end Sys2Proof.Machine

namespace Sys2Proof.Machine

/-! ### What reads neither the traffic nor the accounts -/

/-- `s` with the traffic `x` and the accounts `y`. -/
def State.withTraffic (s : State) (x : Transit) (y : PerMaster Pace) : State :=
  { s with transit := x, pacing := y }

/-- The step `f` neither reads nor changes the traffic and the accounts. -/
structure TrafficFree (f : State → State) : Prop where
  commutes (x : Transit) (y : PerMaster Pace) (s : State) :
    f (s.withTraffic x y) = (f s).withTraffic x y

theorem TrafficFree.comp {f g : State → State} (hg : TrafficFree g) (hf : TrafficFree f) :
    TrafficFree fun s => g (f s) := ⟨fun x y s =>
  (congrArg g (hf.commutes x y s)).trans (hg.commutes x y (f s))⟩

theorem TrafficFree.ite {f g : State → State} {p : State → Prop} [∀ s, Decidable (p s)]
    (hp : ∀ x y s, p (s.withTraffic x y) ↔ p s) (hf : TrafficFree f) (hg : TrafficFree g) :
    TrafficFree fun s => if p s then f s else g s := by
  refine ⟨fun x y s => ?_⟩
  by_cases h : p s
  · simp only [hp, h, if_true, hf.commutes x y s]
  · simp only [hp, h, if_false, hg.commutes x y s]

theorem trafficFree_id : TrafficFree fun s => s := ⟨fun _ _ _ => rfl⟩

theorem TrafficFree.transit {f : State → State} (h : TrafficFree f) (s : State) :
    (f s).transit = s.transit := congrArg (·.transit) (h.commutes s.transit s.pacing s)

theorem TrafficFree.pacing {f : State → State} (h : TrafficFree f) (s : State) :
    (f s).pacing = s.pacing := congrArg (·.pacing) (h.commutes s.transit s.pacing s)

theorem trafficFree_takeNormal (r : Report) : TrafficFree (takeNormal r) :=
  .ite (p := fun s => stagingMax ≤ s.staging.length) (fun _ _ _ => .rfl) ⟨fun _ _ _ => rfl⟩
    (.ite (p := fun s => 2 ≤ freeSlots s.map.ringCapacity s.writer) (fun _ _ _ => .rfl)
      ⟨fun _ _ _ => rfl⟩
      (.ite (p := fun s => freeSlots s.map.ringCapacity s.writer = 1) (fun _ _ _ => .rfl)
        ⟨fun _ _ _ => rfl⟩ ⟨fun _ _ _ => rfl⟩))

theorem trafficFree_raise (r : Report) : TrafficFree (raise r) :=
  .ite (p := fun s => s.writer.losing = true) (fun _ _ _ => .rfl)
    (.ite (p := fun s => 2 ≤ freeSlots s.map.ringCapacity s.writer ∧ s.staging.length + 2 ≤ stagingMax)
      (fun _ _ _ => .rfl) (.comp (f := resumeWriter) (trafficFree_takeNormal r) ⟨fun _ _ _ => rfl⟩)
      ⟨fun _ _ _ => rfl⟩)
    (trafficFree_takeNormal r)

/-! ### The words of the mailbox -/

theorem trafficFree_sendLoss (p : SwPort) : TrafficFree (sendLoss p) := ⟨fun x y s => by
  simp only [sendLoss_eq]
  rfl⟩

theorem trafficFree_sendReturn (p : SwPort) : TrafficFree (sendReturn p) := ⟨fun x y s => by
  simp only [sendReturn_eq]
  rfl⟩

/-- A step that reads a value first, which neither the traffic nor the accounts decide. -/
theorem TrafficFree.reads {α : Type} {a : State → α} {g : α → State → State}
    (ha : ∀ x y s, a (s.withTraffic x y) = a s) (hg : ∀ v, TrafficFree (g v)) :
    TrafficFree fun s => g (a s) s :=
  ⟨fun x y s => (congrArg (g · _) (ha x y s)).trans ((hg _).commutes x y s)⟩

theorem TrafficFree.iff {f g : State → State} {p : Prop} [Decidable p]
    (hf : TrafficFree f) (hg : TrafficFree g) : TrafficFree fun s => if p then f s else g s :=
  .ite (p := fun _ => p) (fun _ _ _ => .rfl) hf hg

theorem TrafficFree.foldl {α : Type} {f : State → α → State} (h : ∀ a, TrafficFree (f · a))
    (l : List α) : TrafficFree fun s => l.foldl f s := by
  induction l with
  | nil => exact trafficFree_id
  | cons a l ih => exact .comp (f := (f · a)) ih (h a)

theorem trafficFree_sendForUpPorts {send : SwPort → State → State} (h : ∀ p, TrafficFree (send p)) :
    TrafficFree (sendForUpPorts send) :=
  .foldl (fun p => .ite (p := fun s => (s.port p).linkUp = true) (fun _ _ _ => .rfl) (h p)
    trafficFree_id) allPorts

theorem trafficFree_setPort (p : SwPort) (e : PortEntry) : TrafficFree (setPort p e) :=
  ⟨fun _ _ _ => rfl⟩

theorem trafficFree_noteLink (p : SwPort) (role : Role) (up before : Bool) (x : Report)
    (st : SwitchState) : TrafficFree (noteLink p role up before x st) :=
  .iff (.comp (f := fun s => if role ≠ .unused then raise x s else s)
      (.iff trafficFree_id (.iff (trafficFree_sendReturn p) (trafficFree_sendLoss p)))
      (.iff (trafficFree_raise x) trafficFree_id))
    trafficFree_id

/-- A port word whose entry stands as `e` and whose switch as `st`. -/
def decodePortWordOf (p : SwPort) (w : Word) (e : PortEntry) (st : SwitchState) (s : State) : State :=
  let total := (e.takeCount (portWordCount w)).total
  setPort p (e.decoded w) (noteLink p e.role (portWordUp w) e.linkUp
    (.portLink p e.role e.linkUp (portWordUp w) (portWordSpeed w) (portWordCount w) total) st
    (setPort p ((e.takeCount (portWordCount w)).takeLink (portWordUp w))
      (if e.threshold < e.delta (portWordCount w) ∧ e.role ≠ .unused then
        raise (.errorBurst p e.role (e.delta (portWordCount w)) e.threshold (portWordCount w) total)
          (setPort p (e.takeCount (portWordCount w)) s)
      else setPort p (e.takeCount (portWordCount w)) s)))

theorem decodePortWord_eq_of (p : SwPort) (w : Word) (s : State) :
    decodePortWord p w s = decodePortWordOf p w (s.port p) s.switch.state s := by
  unfold decodePortWordOf
  rw [← decoded_eq]
  rfl

theorem trafficFree_decodePortWord (p : SwPort) (w : Word) : TrafficFree (decodePortWord p w) := by
  have hof (v : PortEntry × SwitchState) : TrafficFree (decodePortWordOf p w v.1 v.2) := by
    unfold decodePortWordOf
    exact .comp (trafficFree_setPort p _)
      (.comp (trafficFree_noteLink ..)
        (.comp (trafficFree_setPort p _)
          (.iff (.comp (trafficFree_raise _) (trafficFree_setPort p _)) (trafficFree_setPort p _))))
  rw [funext (decodePortWord_eq_of p w)]
  exact .reads (a := fun s => (s.port p, s.switch.state)) (fun _ _ _ => rfl) hof

theorem trafficFree_decodeHeartbeat (w : Word) : TrafficFree (decodeHeartbeat w) := by
  refine ⟨fun x y s => ?_⟩
  by_cases h : s.switch.lastSequence = some (heartbeatSequence w)
  · rw [decodeHeartbeat_repeated h, decodeHeartbeat_repeated (s := s.withTraffic x y) h]
  · rw [decodeHeartbeat_eq h, decodeHeartbeat_eq (s := s.withTraffic x y) h]
    have hraise := (trafficFree_raise (.switchState s.switch.state .alive
      (s.switch.isRestart (heartbeatSequence w)) (some (heartbeatSequence w))
      (s.switch.beaten (heartbeatSequence w) s.now).restarts)).commutes x y
      (s.heartbeatTaken (heartbeatSequence w))
    by_cases hrep : s.switch.state ≠ .alive ∨ s.switch.isRestart (heartbeatSequence w) = true
    · rw [if_pos hrep, ← hraise]
      exact if_pos hrep
    · rw [if_neg hrep]
      exact if_neg hrep

theorem trafficFree_decodeMailboxWord (o : Nat) (w : WriteWord) :
    TrafficFree (decodeMailboxWord o w) := by
  unfold decodeMailboxWord
  refine .iff trafficFree_id (.iff ⟨fun _ _ _ => rfl⟩ (.iff (trafficFree_decodeHeartbeat _) ?_))
  cases SwPort.ofNum? o with
  | none => exact trafficFree_id
  | some p => exact trafficFree_decodePortWord p _

end Sys2Proof.Machine

namespace Sys2Proof.Machine

/-! ### A burst and its words one at a time (R68, R158) -/

/-- The steps of the words in turn, from offset `o` on. -/
def eachWord (f : Nat → WriteWord → State → State) : Nat → List WriteWord → State → State
  | _, [], s => s
  | o, w :: ws, s => eachWord f (o + 1) ws (f o w s)

/-- A one-word write of `w` at offset `o` by `m` in a region of kind `k` has the effect `f`, which leaves
the traffic, the accounts, the map, the window and the loader, the loader being `l`. -/
structure WordStep (m : Master) (k : RegionKind) (l : Loader) (o : Nat) (w : WriteWord)
    (f : State → State) : Prop where
  free : TrafficFree f
  map (s : State) : (f s).map = s.map
  window (s : State) : (f s).window = s.window
  loader (s : State) : (f s).loader = s.loader
  handled (r : Request) (s : State) : s.loader = l → r.len = .one → r.words = [w] →
    (s.map.place r.addr.toNat).kind = k → (s.map.place r.addr.toNat).offset = o →
    ∃ eff, handleWrite issueFull m r (s.map.place r.addr.toNat) s = .accept [w] eff ∧
      eff (admitted m r k [w] s) = f (admitted m r k [w] s)

theorem TrafficFree.eachWord {f : Nat → WriteWord → State → State} {o : Nat} {ws : List WriteWord}
    (h : ∀ (i : Nat) (w : WriteWord), ws[i]? = some w → TrafficFree (f (o + i) w)) :
    TrafficFree (eachWord f o ws) := by
  induction ws generalizing o with
  | nil => exact trafficFree_id
  | cons w ws ih =>
    have hrest : TrafficFree (Machine.eachWord f (o + 1) ws) := ih fun i x hx => by
      have hx' := h (i + 1) x hx
      rwa [Nat.add_comm i 1, ← Nat.add_assoc] at hx'
    exact .comp (f := f o w) hrest (h 0 w rfl)

/-- The effect of a one-word write, and the traffic and the accounts as before it. -/
theorem WordStep.exec {m : Master} {k : RegionKind} {r : Request} {w : WriteWord} {f : State → State}
    {s : State} (h : WordStep m k s.loader (s.map.place r.addr.toNat).offset w f) (hm : m ≠ .service)
    (hr : Rightful m r k s) (hlen : r.len = .one) (hwords : r.words = [w]) :
    ∃ u, Machine.exec (.requestArrival m r) s = .next u ∧
      { u with transit := s.transit, pacing := s.pacing } = f s := by
  obtain ⟨eff, hh, heff⟩ := h.handled r s rfl hlen hwords hr.kind rfl
  have hfree := h.free.commutes
    { s.transit with ports := s.transit.ports.set m (.waiting (s.txn r k [w])) } (s.charged m r) s
  have hadmitted : eff (admitted m r k [w] s) = (f s).withTraffic
      { s.transit with ports := s.transit.ports.set m (.waiting (s.txn r k [w])) } (s.charged m r) := by
    rw [heff, admitted_inFlight r k [w] s hm]
    exact hfree
  refine ⟨_, hr.exec hh (by rw [hadmitted]; rfl), ?_⟩
  rw [hadmitted]
  change (f s).withTraffic s.transit s.pacing = f s
  exact (h.free.commutes s.transit s.pacing s).symm

theorem deniedRight_offset (w : ServiceWindow) (m : Master) (d : Dir) (p : Place) (o : Nat) :
    deniedRight w m d { p with offset := o } = deniedRight w m d p := rfl

/-- Words of a burst, each written alone, have the effect of their steps in turn. -/
theorem wordByWord_eachWord {m : Master} {k : RegionKind} {f : Nat → WriteWord → State → State}
    {a : Nat} {ws : List WriteWord} {s : State} {p : Place} (hm : m ≠ .service)
    (hk : p.kind = k) (hfit : a + ws.length ≤ 2 ^ 24)
    (hplace : ∀ i, i < ws.length → s.map.place (a + i) = { p with offset := p.offset + i })
    (hstep : ∀ (i : Nat) (w : WriteWord), ws[i]? = some w →
      WordStep m k s.loader (p.offset + i) w (f (p.offset + i) w))
    (hport : s.transit.ports.get m = .empty) (hlanes : s.lanesTaken)
    (hright : deniedRight s.window m .write p = none)
    (hcredit : ∀ b, (s.pacing.get m).account = some b → 0 ≤ b.credit) :
    WordByWord m a ws s (eachWord f p.offset ws s) := by
  induction ws generalizing a s p with
  | nil => rfl
  | cons w ws ih =>
    rw [List.length_cons] at hfit
    have haddr : (BitVec.ofNat 24 a).toNat = a := by
      rw [BitVec.toNat_ofNat]
      exact Nat.mod_eq_of_lt (by omega)
    have hhere : s.map.place (BitVec.ofNat 24 a).toNat = p := by
      rw [haddr]
      exact hplace 0 (Nat.zero_lt_succ _)
    have hfirst : WordStep m k s.loader p.offset w (f p.offset w) := hstep 0 w rfl
    obtain ⟨u, hexec, hu⟩ := WordStep.exec (s := s) (m := m) (k := k) (w := w) (f := f p.offset w)
      (r := { dir := .write, addr := BitVec.ofNat 24 a, len := .one, words := [w] })
      (by rw [hhere]; exact hfirst) hm
      { shape := rfl, write := rfl, port := hport, lanes := hlanes, aligned := Nat.mod_one _
        inside := rfl, kind := by rw [hhere]; exact hk, right := by rw [hhere]; exact hright
        credit := hcredit } rfl rfl
    refine ⟨u, hexec, ?_⟩
    rw [hu]
    refine ih (p := { p with offset := p.offset + 1 }) hk (by omega) (fun i hi => ?_)
      (fun i x hx => ?_) ?_ ?_ ?_ ?_
    · have hnext := hplace (i + 1) (by rw [List.length_cons]; omega)
      rw [hfirst.map, show a + 1 + i = a + (i + 1) by omega, hnext]
      simp only [Nat.add_assoc, Nat.add_comm 1 i]
    · rw [hfirst.loader, Nat.add_assoc, Nat.add_comm 1 i]
      exact hstep (i + 1) x hx
    · rw [hfirst.free.transit]; exact hport
    · unfold State.lanesTaken
      rw [hfirst.free.transit]
      exact hlanes
    · rw [hfirst.window]; exact hright
    · rw [hfirst.free.pacing]; exact hcredit

/-- A rightful burst fits behind its address. -/
theorem Rightful.fits {m : Master} {r : Request} {k : RegionKind} {s : State} (h : Rightful m r k s) :
    r.addr.toNat + r.words.length ≤ 2 ^ 24 := by
  have hlength : r.words.length = r.len.words := by
    have hshape := h.shape
    rw [Request.wf, h.write] at hshape
    exact of_decide_eq_true hshape
  have haligned := h.aligned
  have haddr := r.addr.isLt
  rw [hlength]
  cases hl : r.len <;> simp only [hl, BurstLen.words] at haligned ⊢ <;> omega

/-! ### The mailbox word by word -/

theorem decodeMailbox_eq_eachWord (o : Nat) (ws : List WriteWord) (s : State) :
    decodeMailbox o ws s = eachWord decodeMailboxWord o ws s := by
  induction ws generalizing o s with
  | nil => rfl
  | cons w ws ih => exact ih ..

theorem decodeHeartbeat_leaves (w : Word) (s : State) :
    (decodeHeartbeat w s).map = s.map ∧ (decodeHeartbeat w s).window = s.window ∧
      (decodeHeartbeat w s).loader = s.loader := by
  by_cases h : s.switch.lastSequence = some (heartbeatSequence w)
  · rw [decodeHeartbeat_repeated h]
    exact ⟨rfl, rfl, rfl⟩
  · rw [(decodeHeartbeat_new h).1]
    exact ⟨rfl, rfl, rfl⟩

theorem decodeMailboxWord_leaves (o : Nat) (w : WriteWord) (s : State) :
    (decodeMailboxWord o w s).map = s.map ∧ (decodeMailboxWord o w s).window = s.window ∧
      (decodeMailboxWord o w s).loader = s.loader := by
  unfold decodeMailboxWord
  split_ifs
  · exact ⟨rfl, rfl, rfl⟩
  · exact ⟨rfl, rfl, rfl⟩
  · exact decodeHeartbeat_leaves w.data s
  · cases SwPort.ofNum? o with
    | none => exact ⟨rfl, rfl, rfl⟩
    | some p =>
      change (decodePortWord p w.data s).map = s.map ∧ (decodePortWord p w.data s).window = s.window ∧
        (decodePortWord p w.data s).loader = s.loader
      rw [(decodePortWord_eq p w.data s).1]
      exact ⟨rfl, rfl, rfl⟩

theorem wordStep_decodeMailboxWord (l : Loader) (o : Nat) (w : WriteWord) :
    WordStep .switch .ports l o w (decodeMailboxWord o w) where
  free := trafficFree_decodeMailboxWord o w
  map s := (decodeMailboxWord_leaves o w s).1
  window s := (decodeMailboxWord_leaves o w s).2.1
  loader s := (decodeMailboxWord_leaves o w s).2.2
  handled r s _ _ hwords hk ho := by
    have hh := handleWrite_ports (m := .switch) (issue := issueFull) hk
    rw [if_pos rfl, hwords, ho] at hh
    exact ⟨_, hh, rfl⟩

/-- An unpaced or paced master with no debt, as the obligations state it, and a one-word write. -/
theorem rightful_one {m : Master} {k : RegionKind} {r : Request} {w : WriteWord} {s : State}
    (hdir : r.dir = .write) (hlen : r.len = .one) (hwords : r.words = [w])
    (hport : s.transit.ports.get m = .empty) (hlanes : s.lanesTaken)
    (hk : (s.map.place r.addr.toNat).kind = k)
    (hright : deniedRight s.window m .write (s.map.place r.addr.toNat) = none)
    (hcredit : ∀ a, (s.pacing.get m).account = some a → 0 ≤ a.credit) : Rightful m r k s where
  shape := by rw [Request.wf, hdir, hwords, hlen]; rfl
  write := hdir
  port := hport
  lanes := hlanes
  aligned := by rw [hlen]; exact Nat.mod_one _
  inside := by rw [hlen]; rfl
  kind := hk
  right := hright
  credit := hcredit

/-- Settles O20: port words one by one, a write without full words, and a burst word by word. -/
theorem portWordIsDecoded : Obligations.PortWordIsDecoded := by
  refine ⟨fun r w p s hdir hlen hwords hw hport hlanes hk ho hright hcredit => ?_,
    fun m r s hr => ?_, fun r s hr hplace => ?_⟩
  · intro e count up d total
    have hr := rightful_one (m := .switch) hdir hlen hwords hport hlanes hk hright hcredit
    have hdecode : decodeMailbox (s.map.place r.addr.toNat).offset r.words
        (admitted .switch r .ports r.words s) =
        decodePortWord p w.data (admitted .switch r .ports r.words s) := by
      rw [ho, hwords]
      exact decodeMailboxWord_port hw
    obtain ⟨hframe, hrep⟩ := decodePortWord_eq p w.data (admitted .switch r .ports r.words s)
    generalize decodePortWord p w.data (admitted .switch r .ports r.words s) = v at *
    obtain ⟨t, hexec, ht, hadm⟩ := hr.decodes hdecode (by rw [hframe])
    rw [admitted_inFlight r .ports r.words s (by decide)] at hframe hrep
    refine ⟨t, hexec, ?_, ?_, ?_⟩
    · rw [ht, arbitrate_frame, hframe]
      rfl
    · rw [ht]
      exact hrep.congr rfl rfl rfl rfl
    · rw [Admitted, State.txn, hdir, hlen, hwords, ho] at hadm
      exact hadm
  · intro o n hpartial
    have hh := handleWrite_ports (m := m) (issue := issueFull) hr.kind
    by_cases hm : m = .switch
    · subst hm
      have hdecode := decodeMailbox_partial (o := o) (s := admitted .switch r .ports r.words s)
        (hpartial rfl)
      obtain ⟨t, hexec, ht, hadm⟩ := hr.decodes hdecode rfl
      refine ⟨t, hexec, hadm, ?_⟩
      rw [ht, arbitrate_frame]
      simp only [true_and]
      rfl
    · rw [if_neg hm] at hh
      obtain ⟨t, hexec, hadm, ht⟩ := hr.passes hh rfl
      refine ⟨t, hexec, hadm, ?_⟩
      rw [if_neg (show ¬(m = .switch ∧ 0 < n) from fun h => hm h.1)]
      exact ht
  · have hsteps := TrafficFree.eachWord (f := decodeMailboxWord)
      (o := (s.map.place r.addr.toNat).offset) (ws := r.words)
      fun _ w _ => trafficFree_decodeMailboxWord _ w
    have hadmitted : decodeMailbox (s.map.place r.addr.toNat).offset r.words
        (admitted .switch r .ports r.words s) =
        (eachWord decodeMailboxWord (s.map.place r.addr.toNat).offset r.words s).withTraffic
          { s.transit with ports := s.transit.ports.set .switch (.waiting (s.txn r .ports r.words)) }
          (s.charged .switch r) := by
      rw [decodeMailbox_eq_eachWord, admitted_inFlight r .ports r.words s (by decide)]
      exact hsteps.commutes _ _ s
    obtain ⟨t, hexec, ht, hadm⟩ := hr.decodes hadmitted rfl
    refine ⟨t, eachWord decodeMailboxWord (s.map.place r.addr.toNat).offset r.words s, hexec, ?_, ?_,
      hadm⟩
    · exact wordByWord_eachWord (p := s.map.place r.addr.toNat) (by decide) hr.kind hr.fits hplace
        (fun i w _ => wordStep_decodeMailboxWord ..) hr.port hr.lanes hr.right hr.credit
    · rw [ht, arbitrate_frame]
      rfl

end Sys2Proof.Machine

namespace Sys2Proof.Machine

open Sys2Proof.Laws

/-! ### What an opcode word issues (R159) -/

theorem commandOf_wf {n : Slot} {w : Word} {i : Instr} (h : commandOf n w = some i) : i.wf = true := by
  rcases Spelled.of_ite h with ⟨_, hi⟩ | ⟨_, hi⟩
  · cases hi
  clear h
  iterate 19
    rcases Spelled.of_ite hi with ⟨_, h⟩ | ⟨_, h⟩
    · cases h
      rfl
    clear hi
    rename _ = some i => hi
  cases hi
  simp only [Instr.wf, unknownWf, commandCodes, Bool.and_eq_true, bne_iff_ne, Bool.not_eq_true',
    List.contains_eq_mem, decide_eq_false_iff_not, List.mem_cons, List.not_mem_nil, or_false, not_or]
  and_intros <;> assumption

theorem issueReloadFull_loading {n : Slot} {rest : BitVec 24} {s : State}
    (h : s.loader.condition = .loading) : issueReloadFull n rest s = s :=
  if_pos (decide_eq_true h)

theorem issueReloadFull_awaiting {n : Slot} {rest : BitVec 24} {s : State}
    (h : s.loader.condition ≠ .loading) (ha : (s.slots.get n).awaiting = true) :
    issueReloadFull n rest s =
      raise (.commandOverrun n (opcodeWord 0x60 rest) (s.slots.get n).issued) s := by
  rw [issueReloadFull, issueReload, if_neg (by simp [State.isLoading, h]), if_pos ha]

/-- A command is a course in its slot, or RELOAD. -/
theorem command_course {i : Instr} {n : Slot} {w : Word} (hwf : i.wf = true)
    (h : Spelled.issuedBy i = some (n, w)) :
    (∃ run, (∀ s, exec i s = finish (issueCommand n w run s)) ∧
      ∀ s, issueInstr issueReloadFull i s = issueCommand n w run s ∧
        (issueCommand n w run s).transit = s.transit) ∨
    ∃ rest, i = .reload n rest ∧ w = opcodeWord 0x60 rest := by
  have hkeeps := fun s => issueInstr_keeps (reload := issueReloadFull) i s
  cases i with
  | robotArm m rest => cases h; exact .inl ⟨_, fun _ => rfl, fun s => ⟨rfl, (hkeeps s nofun).transit⟩⟩
  | robotClear m rest => cases h; exact .inl ⟨_, fun _ => rfl, fun s => ⟨rfl, (hkeeps s nofun).transit⟩⟩
  | robotHold m rest => cases h; exact .inl ⟨_, fun _ => rfl, fun s => ⟨rfl, (hkeeps s nofun).transit⟩⟩
  | robotRelease m rest => cases h; exact .inl ⟨_, fun _ => rfl, fun s => ⟨rfl, (hkeeps s nofun).transit⟩⟩
  | robotEnvelope m rest => cases h; exact .inl ⟨_, fun _ => rfl, fun s => ⟨rfl, (hkeeps s nofun).transit⟩⟩
  | robotQuery m rest => cases h; exact .inl ⟨_, fun _ => rfl, fun s => ⟨rfl, (hkeeps s nofun).transit⟩⟩
  | quarantineSet m rest => cases h; exact .inl ⟨_, fun _ => rfl, fun s => ⟨rfl, (hkeeps s nofun).transit⟩⟩
  | trackStart m rest => cases h; exact .inl ⟨_, fun _ => rfl, fun s => ⟨rfl, (hkeeps s nofun).transit⟩⟩
  | trackStop m rest => cases h; exact .inl ⟨_, fun _ => rfl, fun s => ⟨rfl, (hkeeps s nofun).transit⟩⟩
  | trackQuery m rest => cases h; exact .inl ⟨_, fun _ => rfl, fun s => ⟨rfl, (hkeeps s nofun).transit⟩⟩
  | timeSet m rest => cases h; exact .inl ⟨_, fun _ => rfl, fun s => ⟨rfl, (hkeeps s nofun).transit⟩⟩
  | timeQuery m rest => cases h; exact .inl ⟨_, fun _ => rfl, fun s => ⟨rfl, (hkeeps s nofun).transit⟩⟩
  | keepaliveSet m rest => cases h; exact .inl ⟨_, fun _ => rfl, fun s => ⟨rfl, (hkeeps s nofun).transit⟩⟩
  | paceSet m rest => cases h; exact .inl ⟨_, fun _ => rfl, fun s => ⟨rfl, (hkeeps s nofun).transit⟩⟩
  | serviceGrant m rest => cases h; exact .inl ⟨_, fun _ => rfl, fun s => ⟨rfl, (hkeeps s nofun).transit⟩⟩
  | serviceExtend m rest => cases h; exact .inl ⟨_, fun _ => rfl, fun s => ⟨rfl, (hkeeps s nofun).transit⟩⟩
  | serviceRevoke m rest => cases h; exact .inl ⟨_, fun _ => rfl, fun s => ⟨rfl, (hkeeps s nofun).transit⟩⟩
  | switchQuery m rest => cases h; exact .inl ⟨_, fun _ => rfl, fun s => ⟨rfl, (hkeeps s nofun).transit⟩⟩
  | unknownOpcode m x => cases h; exact .inl ⟨_, fun _ => if_pos hwf, fun s => ⟨rfl, (hkeeps s nofun).transit⟩⟩
  | reload m rest => cases h; exact .inr ⟨rest, rfl, rfl⟩
  | _ => cases h

/-- The event of a command and what its opcode word does. -/
theorem exec_of_commandOf {n : Slot} {w : Word} {i : Instr} {s : State} (h : commandOf n w = some i)
    (hl : s.lanesTaken) : exec i s = finishLanes (issueFull n w s) := by
  have hissue : issueFull n w s = issueInstr issueReloadFull i s := by
    rw [issueFull, issueOpcode, h]
  rw [hissue]
  rcases command_course (commandOf_wf h) (Spelled.issuedBy_of_commandOf n w i h) with
    ⟨run, hexec, hrun⟩ | ⟨rest, rfl, -⟩
  · rw [(hrun s).1, finishLanes_of_taken ((lanesTaken_congr (hrun s).2).2 hl), hexec]
  · rfl

end Sys2Proof.Machine

namespace Sys2Proof.Machine

/-! ### Words of the command page (R158) -/

theorem ite_full {α : Type} (w : WriteWord) (a b : α) :
    (if decide (w.enables = allEnables) = true then a else b) =
      if w.enables = 0b1111 then a else b := by
  by_cases hw : w.enables = 0b1111
  · rw [if_pos hw, if_pos (decide_eq_true (show w.enables = allEnables from hw))]
  · rw [if_neg hw, if_neg fun h : decide (w.enables = allEnables) = true => hw (of_decide_eq_true h)]

theorem pageWord_keepalive (issue : Slot → Word → State → State) (alone : Bool) (w : WriteWord)
    (s : State) :
    pageWord issue alone 64 w s = if w.enables = 0b1111 then keepaliveValue w.data s else s := by
  rw [pageWord, if_pos rfl, ite_full]

theorem pageWord_takeIndex (issue : Slot → Word → State → State) (alone : Bool) (w : WriteWord)
    (s : State) :
    pageWord issue alone 65 w s = if w.enables = 0b1111 then takeIndexValue w.data s else s := by
  rw [pageWord, if_neg (by decide), if_pos rfl, ite_full]

theorem pageWord_beyond {issue : Slot → Word → State → State} {alone : Bool} {o : Nat} {w : WriteWord}
    {s : State} (h : 66 ≤ o) : pageWord issue alone o w s = s := by
  have hslot : Slot.ofNum? (o / 16) = none := by
    obtain ⟨k, hk⟩ := Nat.exists_eq_add_of_le (show 4 ≤ o / 16 by omega)
    rw [hk, Nat.add_comm]
    rfl
  rw [pageWord, if_neg (by omega), if_neg (by omega), hslot]

theorem Slot.ofNum?_offset (n : Slot) {i : Nat} (h : i < 16) :
    Slot.ofNum? ((16 * n.num + i) / 16) = some n := by
  have hdiv : (16 * n.num + i) / 16 = n.num := by omega
  rw [hdiv]
  cases n <;> rfl

theorem Slot.num_le (n : Slot) : n.num ≤ 3 := by cases n <;> decide

theorem pageWord_param {issue : Slot → Word → State → State} {alone : Bool} {n : Slot} {i : Nat}
    {w : WriteWord} {s : State} (h : i < 14) :
    pageWord issue alone (16 * n.num + i) w s = writeParam n i w s := by
  have hn := Slot.num_le n
  have hmod : (16 * n.num + i) % 16 = i := by omega
  rw [pageWord, if_neg (by omega), if_neg (by omega), Slot.ofNum?_offset n (by omega)]
  dsimp only
  rw [hmod, if_pos h]

theorem pageWord_gap {issue : Slot → Word → State → State} {alone : Bool} {n : Slot}
    {w : WriteWord} {s : State} : pageWord issue alone (16 * n.num + 14) w s = s := by
  have hn := Slot.num_le n
  have hmod : (16 * n.num + 14) % 16 = 14 := by omega
  rw [pageWord, if_neg (by omega), if_neg (by omega), Slot.ofNum?_offset n (by omega)]
  dsimp only
  rw [hmod, if_neg (by decide), if_neg (by decide)]

theorem pageWord_opcode (issue : Slot → Word → State → State) (alone : Bool) (n : Slot)
    (w : WriteWord) (s : State) :
    pageWord issue alone (16 * n.num + 15) w s =
      if alone = true ∧ w.enables = 0b1111 then issue n w.data s else s := by
  have hn := Slot.num_le n
  have hmod : (16 * n.num + 15) % 16 = 15 := by omega
  rw [pageWord, if_neg (by omega), if_neg (by omega), Slot.ofNum?_offset n (by omega)]
  dsimp only
  rw [hmod, if_neg (by decide), if_pos rfl]
  cases alone with
  | true => simp only [Bool.true_and, ite_full, true_and]
  | false => simp only [Bool.false_and, Bool.false_eq_true, if_false, false_and]

/-- The places of the page: the keepalive, the take index, the slots, and what lies beyond. -/
theorem page_places (o : Nat) :
    o = 64 ∨ o = 65 ∨ 66 ≤ o ∨ ∃ (n : Slot) (i : Nat), i < 16 ∧ o = 16 * n.num + i := by
  by_cases hlow : o < 64
  · have hk : o / 16 < 4 := by omega
    have hi : o % 16 < 16 := by omega
    have ho : o = 16 * (o / 16) + o % 16 := by omega
    generalize o / 16 = k at hk ho
    refine .inr (.inr (.inr ?_))
    interval_cases k
    · exact ⟨.s0, _, hi, ho⟩
    · exact ⟨.s1, _, hi, ho⟩
    · exact ⟨.s2, _, hi, ho⟩
    · exact ⟨.s3, _, hi, ho⟩
  · omega

/-- A word at no place of the page that is decoded, or without the enables that its place asks for. -/
theorem pageWord_nothing {issue : Slot → Word → State → State} {alone : Bool} {o : Nat}
    {w : WriteWord} {s : State}
    (h : 66 ≤ o ∨ (o < 64 ∧ o % 16 = 14) ∨
      (w.enables ≠ 0b1111 ∧ (o = 64 ∨ o = 65 ∨ (o < 64 ∧ o % 16 = 15)))) :
    pageWord issue alone o w s = s := by
  rcases page_places o with rfl | rfl | hbeyond | ⟨n, i, hi, rfl⟩
  · rw [pageWord_keepalive, if_neg ((h.resolve_left (by decide)).resolve_left (by decide)).1]
  · rw [pageWord_takeIndex, if_neg ((h.resolve_left (by decide)).resolve_left (by decide)).1]
  · exact pageWord_beyond hbeyond
  · have hn := Slot.num_le n
    obtain rfl | ⟨rfl, hw⟩ : i = 14 ∨ i = 15 ∧ w.enables ≠ 0b1111 := by
      rcases h with h | h | ⟨hw, h⟩
      · omega
      · exact .inl (by omega)
      · exact .inr ⟨by omega, hw⟩
    · exact pageWord_gap
    · rw [pageWord_opcode, if_neg fun hfull => hw hfull.2]

/-! ### Bytes of a parameter word (R158) -/

theorem getLsbD_bytes (p3 p2 p1 p0 : BitVec 8) (i : Nat) (hi : i < 8) :
    (p3 ++ p2 ++ p1 ++ p0).getLsbD i = p0.getLsbD i ∧
      (p3 ++ p2 ++ p1 ++ p0).getLsbD (8 + i) = p1.getLsbD i ∧
      (p3 ++ p2 ++ p1 ++ p0).getLsbD (16 + i) = p2.getLsbD i ∧
      (p3 ++ p2 ++ p1 ++ p0).getLsbD (24 + i) = p3.getLsbD i := by
  have h1 : 8 + i - 8 = i := by omega
  have h2 : 16 + i - 8 = 8 + i := by omega
  have h3 : 24 + i - 8 = 16 + i := by omega
  have hn (k : Nat) (hk : 8 ≤ k) : ¬k + i < 8 := by omega
  refine ⟨?_, ?_, ?_, ?_⟩
  · rw [BitVec.getLsbD_append, if_pos hi]
  · rw [BitVec.getLsbD_append, if_neg (hn 8 (by decide)), h1, BitVec.getLsbD_append, if_pos hi]
  · rw [BitVec.getLsbD_append, if_neg (hn 16 (by decide)), h2, BitVec.getLsbD_append,
      if_neg (hn 8 (by decide)), h1, BitVec.getLsbD_append, if_pos hi]
  · rw [BitVec.getLsbD_append, if_neg (hn 24 (by decide)), h3, BitVec.getLsbD_append,
      if_neg (hn 16 (by decide)), h2, BitVec.getLsbD_append, if_neg (hn 8 (by decide)), h1]

theorem extract_bytes (p : Nat → BitVec 8) {b : Nat} (hb : b < 4) :
    (p 3 ++ p 2 ++ p 1 ++ p 0).extractLsb' (8 * b) 8 = p b := by
  apply BitVec.eq_of_getLsbD_eq
  intro i hi
  obtain ⟨h0, h1, h2, h3⟩ := getLsbD_bytes (p 3) (p 2) (p 1) (p 0) i hi
  rw [BitVec.getLsbD_extractLsb', decide_eq_true hi, Bool.true_and]
  interval_cases b
  · rw [Nat.mul_zero, Nat.zero_add]; exact h0
  · exact h1
  · exact h2
  · exact h3

/-- The bytes of a parameter word after a write to it. -/
theorem mergeBytes_byte (old : Word) (w : WriteWord) {b : Nat} (hb : b < 4) :
    (mergeBytes old w).extractLsb' (8 * b) 8 =
      if w.enables.getLsbD b = true then w.data.extractLsb' (8 * b) 8
      else old.extractLsb' (8 * b) 8 :=
  extract_bytes (fun i => if w.enables.getLsbD i = true then w.data.extractLsb' (8 * i) 8
    else old.extractLsb' (8 * i) 8) hb

/-! ### The page word by word -/

/-- A word of a longer burst: an opcode word issues nothing there. -/
def quietWord (o : Nat) (w : WriteWord) : WriteWord :=
  if o < 64 ∧ o % 16 = 15 then { w with enables := 0 } else w

/-- The words of a longer burst from offset `o` on. -/
def quietWords (o : Nat) (ws : List WriteWord) : List WriteWord :=
  ws.zipIdx.map fun x => if o + x.2 < 64 ∧ (o + x.2) % 16 = 15 then { x.1 with enables := 0 } else x.1

theorem quietWords_get (o : Nat) (ws : List WriteWord) (i : Nat) :
    (quietWords o ws)[i]? = ws[i]?.map (quietWord (o + i)) := by
  simp only [quietWords, List.getElem?_map, List.getElem?_zipIdx, Option.map_map, Nat.zero_add]
  rfl

theorem quietWords_cons (o : Nat) (w : WriteWord) (ws : List WriteWord) :
    quietWords o (w :: ws) = quietWord o w :: quietWords (o + 1) ws := by
  apply List.ext_getElem?
  intro i
  cases i with
  | zero => rw [quietWords_get]; rfl
  | succ i =>
    rw [quietWords_get, List.getElem?_cons_succ, List.getElem?_cons_succ, quietWords_get,
      show o + 1 + i = o + (i + 1) by omega]

/-- What a word of a longer burst does is what its quiet word does alone. -/
theorem pageWord_quiet (issue : Slot → Word → State → State) (o : Nat) (w : WriteWord) (s : State) :
    pageWord issue true o (quietWord o w) s = pageWord issue false o w s := by
  rcases page_places o with rfl | rfl | hbeyond | ⟨n, i, hi, rfl⟩
  · rw [quietWord, if_neg (by decide), pageWord_keepalive, pageWord_keepalive]
  · rw [quietWord, if_neg (by decide), pageWord_takeIndex, pageWord_takeIndex]
  · rw [pageWord_beyond hbeyond, pageWord_beyond hbeyond]
  · have hn := Slot.num_le n
    obtain hparam | rfl | rfl : i < 14 ∨ i = 14 ∨ i = 15 := by omega
    · rw [quietWord, if_neg (by omega), pageWord_param hparam, pageWord_param hparam]
    · rw [pageWord_gap, pageWord_gap]
    · rw [quietWord, if_pos (by omega), pageWord_opcode, pageWord_opcode,
        if_neg fun hfull => absurd hfull.2 (show ¬(0 : BitVec 4) = 0b1111 by decide),
        if_neg fun hfull => Bool.false_ne_true hfull.1]

theorem pageWords_eq_eachWord (issue : Slot → Word → State → State) (o : Nat) (ws : List WriteWord)
    (s : State) :
    pageWords issue false o ws s = eachWord (pageWord issue true) o (quietWords o ws) s := by
  induction ws generalizing o s with
  | nil => rfl
  | cons w ws ih =>
    rw [quietWords_cons, eachWord, pageWords, ih, pageWord_quiet]

theorem trafficFree_keepaliveValue (v : Word) : TrafficFree (keepaliveValue v) := by
  refine .ite (p := fun s => v = s.keepalive.last) (fun _ _ _ => .rfl) trafficFree_id ⟨fun x y s => ?_⟩
  cases h : s.keepalive.state with
  | unarmed => rw [keepaliveChange_unarmed h, keepaliveChange_unarmed (s := s.withTraffic x y) h]; rfl
  | running => rw [keepaliveChange_running h, keepaliveChange_running (s := s.withTraffic x y) h]; rfl
  | lapsed => rw [keepaliveChange_lapsed h, keepaliveChange_lapsed (s := s.withTraffic x y) h]; rfl

theorem trafficFree_takeIndexValue (v : Word) : TrafficFree (takeIndexValue v) :=
  .ite (p := fun s => v.toNat < s.map.ringCapacity) (fun _ _ _ => .rfl) ⟨fun _ _ _ => rfl⟩
    trafficFree_id

/-- The word at offset `o` of the page issues no command. -/
def issuesNothing (o : Nat) (w : WriteWord) : Prop := o < 64 → o % 16 = 15 → w.enables ≠ 0b1111

theorem quietWord_issuesNothing (o : Nat) (w : WriteWord) : issuesNothing o (quietWord o w) := by
  intro hlow h15
  rw [quietWord, if_pos ⟨hlow, h15⟩]
  exact show ¬(0 : BitVec 4) = 0b1111 by decide

/-- What a word that issues no command does on the page. -/
theorem pageWord_cases {P : (State → State) → Prop} (issue : Slot → Word → State → State) {o : Nat}
    {w : WriteWord} (h : issuesNothing o w) (hid : P id)
    (hkeepalive : P (keepaliveValue w.data)) (htake : P (takeIndexValue w.data))
    (hparam : ∀ n i, P (writeParam n i w)) : P (pageWord issue true o w) := by
  rcases page_places o with rfl | rfl | hbeyond | ⟨n, i, hi, rfl⟩
  · rw [funext (pageWord_keepalive issue true w)]
    split_ifs
    · exact hkeepalive
    · exact hid
  · rw [funext (pageWord_takeIndex issue true w)]
    split_ifs
    · exact htake
    · exact hid
  · rwa [show pageWord issue true o w = id from funext fun s => pageWord_beyond hbeyond]
  · have hn := Slot.num_le n
    obtain hlow | rfl | rfl : i < 14 ∨ i = 14 ∨ i = 15 := by omega
    · rw [show pageWord issue true (16 * n.num + i) w = writeParam n i w from
        funext fun s => pageWord_param hlow]
      exact hparam n i
    · rwa [show pageWord issue true (16 * n.num + 14) w = id from funext fun s => pageWord_gap]
    · have hpartial : w.enables ≠ 0b1111 := h (by omega) (by omega)
      rw [funext (pageWord_opcode issue true n w)]
      simp only [hpartial, and_false, if_false]
      exact hid

end Sys2Proof.Machine

namespace Sys2Proof.Machine

open Sys2Proof.Laws

/-! ### Results and their slots (R159, R160) -/

/-- What an answered command leaves in its slot and at the tail of the staging queue. -/
theorem answered_result {n : Slot} {word : Word} {rs : List Report} {code : ResultCode}
    {data : Option (List Word)} {s t : State} (h : Answered n word rs code data s t) :
    let u := raiseAll rs s
    let k := s.slots.get n
    let entry : StagingEntry :=
      { body := .result n code (k.issues + 1) word data, addr := s.map.baseOf .control + 16 * n.num
        current := true, firstDone := false, failed := false, cut := false }
    t.writer = u.writer ∧
    t.slots = s.slots.set n
      { k with awaiting := true, issues := k.issues + 1, issued := word
               waiting := if u.staging.length < 8 then k.waiting else some entry } ∧
    t.staging = (if u.staging.length < 8 then u.staging ++ [entry] else u.staging) := by
  intro u k entry
  have hset (x y : CommandSlot) : (s.slots.set n x).set n y = s.slots.set n y := by cases n <;> rfl
  obtain ⟨hstaging, hwriter⟩ := raiseAll_congr rs s (beginIssue n word s) rfl rfl rfl rfl
  have hslots := raiseAll_slots rs (beginIssue n word s)
  have hmap := raiseAll_map rs (beginIssue n word s)
  obtain ⟨hts, htw, htl⟩ := h
  generalize raiseAll rs (beginIssue n word s) = v at *
  have hentry : resultEntry n code data v = entry := by
    simp only [resultEntry, hslots, hmap, beginIssue, State.setSlots_slots, PerSlot.get_set_self]
    rfl
  rw [htw, hts, htl, giveResult_writer]
  simp only [giveResult, hentry, offerResult, setAwaiting, State.setSlots_staging, hstaging]
  by_cases hroom : u.staging.length < 8
  · have hroom' : (raiseAll rs s).staging.length < stagingMax := hroom
    simp only [if_pos hroom, if_pos hroom']
    refine ⟨hwriter, ?_, rfl⟩
    simp [hslots, beginIssue, hset, k]
  · have hroom' : ¬(raiseAll rs s).staging.length < stagingMax := hroom
    simp only [if_neg hroom, if_neg hroom']
    refine ⟨hwriter, ?_, ?_⟩
    · simp [hslots, beginIssue, hset, k]
    · simp [hstaging, u]

/-! ### Writes of the command page (R158) -/

theorem handleWrite_control {issue : Slot → Word → State → State} {m : Master} {q : Request} {s : State}
    (hk : (s.map.place q.addr.toNat).kind = .control) :
    handleWrite issue m q (s.map.place q.addr.toNat) s =
      .accept q.words (pageWrite issue m (s.map.place q.addr.toNat).offset q.len q.words) := by
  simp only [handleWrite, hk]

/-- REQUEST_ARRIVAL of a rightful write whose owner accepts it. -/
theorem Rightful.arrives {m : Master} {q : Request} {k : RegionKind} {s : State}
    (h : Rightful m q k s) {ws : List WriteWord} {eff : State → State}
    (hh : handleWrite issueFull m q (s.map.place q.addr.toNat) s = .accept ws eff) :
    Machine.exec (.requestArrival m q) s = finishLanes (eff (admitted m q k ws s)) := by
  rw [← h.accepted hh]
  exact if_pos h.shape

/-- The lanes behind an admitted write. -/
theorem Rightful.lanesTaken {m : Master} {q : Request} {k : RegionKind} {s : State}
    (h : Rightful m q k s) (ws : List WriteWord) : (admitted m q k ws s).lanesTaken := by
  intro m' hm'
  by_cases hc : m' = m
  · subst hc
    exact h.lanes _ h.port
  · refine h.lanes _ ?_
    change (s.transit.ports.set m _).get m' = .empty at hm'
    rwa [PerMaster.get_set_of_ne _ _ _ _ hc] at hm'

theorem pageWrite_decoded {issue : Slot → Word → State → State} {o : Nat} {len : BurstLen}
    {ws : List WriteWord} {s : State} (h : s.loader.condition ≠ .loading) :
    pageWrite issue .line o len ws s = pageWords issue (decide (len = .one)) o ws s :=
  if_pos ⟨rfl, decide_eq_false h⟩

theorem pageWrite_undecoded {issue : Slot → Word → State → State} {m : Master} {o : Nat}
    {len : BurstLen} {ws : List WriteWord} {s : State}
    (h : m ≠ .line ∨ s.loader.condition = .loading) : pageWrite issue m o len ws s = s := by
  refine if_neg fun hdecoded => ?_
  obtain ⟨hline, hloading⟩ := hdecoded
  exact h.elim (fun hm => hm hline) (of_decide_eq_false hloading)

/-- A one-word write of LINE on the page. -/
theorem pageWrite_one {o : Nat} {w : WriteWord} {s : State} (h : s.loader.condition ≠ .loading) :
    pageWrite issueFull .line o .one [w] s = pageWord issueFull true o w s := pageWrite_decoded h

theorem pageWord_issuesNothing_frame {o : Nat} {w : WriteWord} (h : issuesNothing o w) :
    TrafficFree (pageWord issueFull true o w) ∧
      ∀ s, (pageWord issueFull true o w s).map = s.map ∧
        (pageWord issueFull true o w s).window = s.window ∧
        (pageWord issueFull true o w s).loader = s.loader := by
  refine pageWord_cases issueFull h (P := fun f => TrafficFree f ∧
    ∀ s, (f s).map = s.map ∧ (f s).window = s.window ∧ (f s).loader = s.loader) ?_ ?_ ?_ ?_
  · exact ⟨trafficFree_id, fun s => ⟨rfl, rfl, rfl⟩⟩
  · refine ⟨trafficFree_keepaliveValue _, fun s => ?_⟩
    unfold keepaliveValue keepaliveChange
    split
    · exact ⟨rfl, rfl, rfl⟩
    · dsimp only
      split <;> exact ⟨rfl, rfl, rfl⟩
  · refine ⟨trafficFree_takeIndexValue _, fun s => ?_⟩
    unfold takeIndexValue
    split <;> exact ⟨rfl, rfl, rfl⟩
  · exact fun n i => ⟨⟨fun _ _ _ => rfl⟩, fun s => ⟨rfl, rfl, rfl⟩⟩

theorem wordStep_pageWord {l : Loader} (hl : l.condition ≠ .loading) {o : Nat} {w : WriteWord}
    (h : issuesNothing o w) : WordStep .line .control l o w (pageWord issueFull true o w) where
  free := (pageWord_issuesNothing_frame h).1
  map s := ((pageWord_issuesNothing_frame h).2 s).1
  window s := ((pageWord_issuesNothing_frame h).2 s).2.1
  loader s := ((pageWord_issuesNothing_frame h).2 s).2.2
  handled r s hloader hlen hwords hk ho := by
    have hh := handleWrite_control (m := .line) (issue := issueFull) hk
    rw [hwords, ho, hlen] at hh
    refine ⟨_, hh, pageWrite_one ?_⟩
    exact hloader ▸ hl

/-- A one-word write of LINE on the page, and what its word does on the admitted state. -/
theorem Rightful.page {q : Request} {w : WriteWord} {s : State} (h : Rightful .line q .control s)
    (hlen : q.len = .one) (hwords : q.words = [w]) (hl : s.loader.condition ≠ .loading) :
    Machine.exec (.requestArrival .line q) s =
      finishLanes (pageWord issueFull true (s.map.place q.addr.toNat).offset w
        (admitted .line q .control [w] s)) := by
  have hh := handleWrite_control (m := .line) (issue := issueFull) h.kind
  rw [hwords, hlen] at hh
  rw [h.arrives hh]
  exact congrArg finishLanes (pageWrite_one hl)

/-- The admitted state of a write by LINE. -/
theorem admitted_line (q : Request) (ws : List WriteWord) (s : State) :
    admitted .line q .control ws s = { s with
      pacing := s.charged .line q
      transit := { s.transit with
        ports := s.transit.ports.set .line (.waiting (s.txn q .control ws)) } } :=
  admitted_inFlight q .control ws s (by decide)

/-- A word of LINE that leaves the state `v` behind its admission. -/
theorem Rightful.pageEnds {q : Request} {w : WriteWord} {s v : State} (h : Rightful .line q .control s)
    (hlen : q.len = .one) (hwords : q.words = [w]) (hl : s.loader.condition ≠ .loading)
    (hv : pageWord issueFull true (s.map.place q.addr.toNat).offset w
      (admitted .line q .control [w] s) = v)
    (ht : v.transit = (admitted .line q .control [w] s).transit) :
    ∃ t, Machine.exec (.requestArrival .line q) s = .next t ∧ Admitted .line q .control [w] s t ∧
      t = { v with transit := t.transit } := by
  rw [h.page hlen hwords hl, hv,
    finishLanes_of_taken ((lanesTaken_congr ht).2 (h.lanesTaken [w]))]
  refine ⟨arbitrate v, rfl, ?_, arbitrate_frame v⟩
  rw [Admitted, Arbitrated, arbitrate, State.setTransit_transit, ht]
  rfl

/-- A word of LINE that does nothing on the page. -/
theorem Rightful.pagePasses {q : Request} {w : WriteWord} {s : State} (h : Rightful .line q .control s)
    (hlen : q.len = .one) (hwords : q.words = [w]) (hl : s.loader.condition ≠ .loading)
    (hv : pageWord issueFull true (s.map.place q.addr.toNat).offset w
      (admitted .line q .control [w] s) = admitted .line q .control [w] s) :
    ∃ t, Machine.exec (.requestArrival .line q) s = .next t ∧ Admitted .line q .control [w] s t ∧
      t = { s with pacing := s.charged .line q, transit := t.transit } := by
  obtain ⟨t, hexec, hadm, ht⟩ := h.pageEnds hlen hwords hl hv rfl
  refine ⟨t, hexec, hadm, ht.trans ?_⟩
  rw [admitted_line]

/-- An overrun, or an opcode while LOADING. -/
theorem opcode_ends {n : Slot} {w : Word} {i : Instr} {s v : State} (h : commandOf n w = some i)
    (hl : s.lanesTaken) (hv : ∀ run, issueCommand n w run s = v)
    (hreload : ∀ rest, w = opcodeWord 0x60 rest → issueReloadFull n rest s = v)
    (ht : v.transit = s.transit) : exec i s = .next (arbitrate v) := by
  have hissue : issueFull n w s = v := by
    rw [issueFull, issueOpcode, h]
    rcases command_course (commandOf_wf h) (Spelled.issuedBy_of_commandOf n w i h) with
      ⟨run, -, hrun⟩ | ⟨rest, rfl, hw⟩
    · exact (hrun s).1.trans (hv run)
    · exact hreload rest hw
  rw [exec_of_commandOf h hl, hissue, finishLanes_of_taken ((lanesTaken_congr ht).2 hl)]
  rfl

/-- Settles O50: unknown opcodes, overruns, results in their slots, and LINE's page word by word. -/
theorem unknownOpcodesAndOverrunsAreAnswered : Obligations.UnknownOpcodesAndOverrunsAreAnswered := by
  refine ⟨fun n word s => ⟨fun hwf htakes => ?_, fun c hc hl hload hawait => ?_,
      fun c hc hl hload => ?_⟩,
    fun n word rs code data s t h => answered_result h, fun q w s hr hlen hwords hload => ?_,
    fun q s hr hlen hload => ?_, fun m q s hr h => ?_⟩
  · rw [show exec (.unknownOpcode n word) s = finish (issueUnknown n word s) from if_pos hwf]
    exact refused_ends htakes rfl
  · refine ⟨_, opcode_ends hc hl (fun run => issueCommand_overrun n word run s hload hawait) ?_
      (raise_transit ..), ?_, ?_, ?_⟩
    · rintro rest rfl
      exact issueReloadFull_awaiting hload hawait
    · rw [Arbitrated, arbitrate, State.setTransit_transit, raise_transit]
      rfl
    · rw [arbitrate_frame, raise_frame]
    · exact ⟨rfl, rfl⟩
  · exact ⟨_, opcode_ends hc hl (fun run => issueCommand_loading n word run s hload)
      (fun rest _ => issueReloadFull_loading hload) rfl, rfl, rfl⟩
  · intro o a passes
    have ha : admitted .line q .control [w] s = a := admitted_line q [w] s
    refine ⟨fun n hw ho => ⟨fun h0 => ?_, fun c hc => ?_⟩, fun hw ho => ?_, fun hw ho => ?_,
      fun n i hi ho => ?_, fun h => ?_⟩
    · refine hr.pagePasses hlen hwords hload ?_
      rw [show (s.map.place q.addr.toNat).offset = _ from ho, pageWord_opcode, if_pos ⟨rfl, hw⟩,
        issueFull, issueOpcode, commandOf, if_pos h0]
    · rw [hr.page hlen hwords hload, show (s.map.place q.addr.toNat).offset = _ from ho,
        pageWord_opcode, if_pos ⟨rfl, hw⟩, ha, exec_of_commandOf hc]
      exact ha ▸ hr.lanesTaken [w]
    · rw [hr.page hlen hwords hload, show (s.map.place q.addr.toNat).offset = _ from ho,
        pageWord_keepalive, if_pos hw, ha, exec_keepaliveWrite (s := a) hload,
        finishLanes_of_taken]
      refine (lanesTaken_congr ((trafficFree_keepaliveValue _).transit a)).2 ?_
      exact ha ▸ hr.lanesTaken [w]
    · rw [hr.page hlen hwords hload, show (s.map.place q.addr.toNat).offset = _ from ho,
        pageWord_takeIndex, if_pos hw, ha, finishLanes_of_taken]
      · change _ = finish (if a.isLoading then a else takeIndexValue w.data a)
        rw [if_neg (by simpa [State.isLoading] using hload)]
      · refine (lanesTaken_congr ((trafficFree_takeIndexValue _).transit a)).2 ?_
        exact ha ▸ hr.lanesTaken [w]
    · obtain ⟨t, hexec, hadm, ht⟩ := hr.pageEnds hlen hwords hload
        (v := writeParam n i w (admitted .line q .control [w] s))
        (by rw [show (s.map.place q.addr.toNat).offset = _ from ho, pageWord_param hi]) rfl
      refine ⟨t, mergeBytes ((s.slots.get n).params.getD i 0) w, hexec, hadm, ?_,
        fun b hb => mergeBytes_byte _ w hb⟩
      rw [ht, admitted_line]
      rfl
    · exact hr.pagePasses hlen hwords hload (pageWord_nothing h)
  · intro o hplace
    have hh := handleWrite_control (m := .line) (issue := issueFull) hr.kind
    have hquiet (i : Nat) (x : WriteWord) (hx : (quietWords o q.words)[i]? = some x) :
        issuesNothing (o + i) x := by
      rw [quietWords_get] at hx
      obtain ⟨w, -, rfl⟩ := Option.map_eq_some_iff.1 hx
      exact quietWord_issuesNothing (o + i) w
    have hfree : TrafficFree (eachWord (pageWord issueFull true) o (quietWords o q.words)) :=
      .eachWord fun i x hx => (pageWord_issuesNothing_frame (hquiet i x hx)).1
    have heffect : pageWrite issueFull .line o q.len q.words (admitted .line q .control q.words s) =
        (eachWord (pageWord issueFull true) o (quietWords o q.words) s).withTraffic
          { s.transit with ports := s.transit.ports.set .line (.waiting (s.txn q .control q.words)) }
          (s.charged .line q) := by
      rw [pageWrite_decoded (s := admitted .line q .control q.words s) hload, decide_eq_false hlen, pageWords_eq_eachWord, admitted_line]
      exact hfree.commutes _ _ s
    have hlength : (quietWords o q.words).length = q.words.length := by simp [quietWords]
    refine ⟨_, eachWord (pageWord issueFull true) o (quietWords o q.words) s, hr.exec hh (by rw [heffect]; rfl),
      ?_, ?_, ?_⟩
    · exact wordByWord_eachWord (p := s.map.place q.addr.toNat) (by decide) hr.kind
        (hlength ▸ hr.fits) (fun i hi => hplace i (hlength ▸ hi))
        (fun i x hx => wordStep_pageWord hload (hquiet i x hx)) hr.port hr.lanes hr.right hr.credit
    · rw [heffect, arbitrate_frame]
      rfl
    · rw [heffect]
      rfl
  · exact hr.passes (handleWrite_control hr.kind) (pageWrite_undecoded h)

end Sys2Proof.Machine

namespace Sys2Proof.Machine

/-! ### The arbiter, twice and with other lanes (R10) -/

/-- A grant makes the memory port busy, and nothing else changes the traffic. -/
theorem Transit.arbitrate_cases (t : Transit) (n : Nat) :
    t.arbitrate n = t ∨ (t.arbitrate n).memPort ≠ .free := by
  unfold Transit.arbitrate
  cases hm : t.memPort with
  | master m => exact .inl rfl
  | internal => exact .inl rfl
  | free =>
    dsimp only
    by_cases h6 : 6 ≤ n
    · rw [if_pos h6]; exact .inr nofun
    rw [if_neg h6]
    cases hw : t.nextWaiting with
    | none =>
      by_cases h1 : 1 ≤ n
      · exact .inr (by simp [h1, Transit.grantInternal])
      · exact .inl (by simp [h1])
    | some m =>
      dsimp only [Transit.grantMaster]
      cases t.ports.get m with
      | waiting x => exact .inr nofun
      | empty => exact .inl rfl
      | held q => exact .inl rfl
      | inMemory x => exact .inl rfl

theorem Transit.arbitrate_arbitrate (t : Transit) (n : Nat) :
    (t.arbitrate n).arbitrate n = t.arbitrate n := by
  rcases t.arbitrate_cases n with h | h
  · rw [h, h]
  · exact arbitrate_busy _ n h

/-- The traffic with the lanes `l`. -/
def Transit.withLanes (t : Transit) (l : PerMaster (List Request)) : Transit := { t with lanes := l }

theorem Transit.grantMaster_withLanes (t : Transit) (l : PerMaster (List Request)) (m : Master) :
    (t.withLanes l).grantMaster m = (t.grantMaster m).withLanes l := by
  have hports : (t.withLanes l).ports = t.ports := rfl
  unfold Transit.grantMaster
  rw [hports]
  cases t.ports.get m <;> rfl

theorem Transit.arbitrate_withLanes (t : Transit) (n : Nat) (l : PerMaster (List Request)) :
    (t.withLanes l).arbitrate n = (t.arbitrate n).withLanes l := by
  have hport : (t.withLanes l).memPort = t.memPort := rfl
  have hnext : (t.withLanes l).nextWaiting = t.nextWaiting := rfl
  unfold Transit.arbitrate
  rw [hport, hnext]
  cases t.memPort with
  | master m => rfl
  | internal => rfl
  | free =>
    dsimp only
    by_cases h6 : 6 ≤ n
    · rw [if_pos h6, if_pos h6]
      rfl
    · rw [if_neg h6, if_neg h6]
      cases t.nextWaiting with
      | none =>
        dsimp only
        by_cases h1 : 1 ≤ n
        · rw [if_pos h1, if_pos h1]
          rfl
        · rw [if_neg h1, if_neg h1]
      | some m => exact t.grantMaster_withLanes l m

theorem arbitrate_arbitrate (s : State) : arbitrate (arbitrate s) = arbitrate s := by
  change s.setTransit ((s.transit.arbitrate s.staging.length).arbitrate s.staging.length) = _
  rw [Transit.arbitrate_arbitrate]
  rfl

theorem arbitrate_setLane (m : Master) (l : List Request) (s : State) :
    arbitrate (setLane m l s) = setLane m l (arbitrate s) := by
  change s.setTransit ((s.transit.withLanes (s.transit.lanes.set m l)).arbitrate
    s.staging.length) = _
  rw [Transit.arbitrate_withLanes]
  unfold setLane
  rw [Machine.arbitrate_lanes]
  rfl

/-! ### The requests of one lane (R1) -/

/-- The lanes of the masters other than `m` are empty, and that of `m` while its port is EMPTY. -/
structure OneLane (m : Master) (s : State) : Prop where
  others (k : Master) : k ≠ m → s.transit.lanes.get k = []
  own : s.transit.ports.get m = .empty → s.transit.lanes.get m = []

theorem OneLane.lanesTaken {m : Master} {s : State} (h : OneLane m s) : s.lanesTaken := fun k hk => by
  by_cases hkm : k = m
  · subst hkm
    exact h.own hk
  · exact h.others k hkm

theorem OneLane.arbitrate {m : Master} {s : State} (h : OneLane m s) : OneLane m (arbitrate s) where
  others k hk := by
    rw [arbitrate_lanes]
    exact h.others k hk
  own he := by
    rw [arbitrate_lanes]
    exact h.own (arbitrate_empty he)

theorem OneLane.presentRequest {m : Master} {s : State} (h : OneLane m s) (r : Request) :
    OneLane m (presentRequest m r s) := by
  by_cases he : s.transit.ports.get m = .empty
  · have hlanes : (Machine.presentRequest m r s).transit.lanes = s.transit.lanes := by
      rw [show Machine.presentRequest m r s = arrive m r s by simp [Machine.presentRequest, he, h.own he]]
      exact (arrive_keeps m r s (not_inMemoryAt_of_empty he)).lanes
    exact ⟨fun k hk => by rw [hlanes]; exact h.others k hk, fun _ => by rw [hlanes]; exact h.own he⟩
  · rw [presentRequest_waits m r s he]
    refine ⟨fun k hk => ?_, fun hempty => absurd hempty he⟩
    change (s.transit.lanes.set m _).get k = []
    rw [PerMaster.get_set_of_ne _ _ _ _ hk]
    exact h.others k hk

theorem OneLane.exec {m : Master} {r : Request} {s : State} (h : OneLane m s) (hwf : r.wf = true) :
    exec (.requestArrival m r) s = .next (Machine.arbitrate (Machine.presentRequest m r s)) := by
  change (if r.wf = true then finishLanes (Machine.presentRequest m r s) else _) = _
  rw [if_pos hwf, finishLanes_of_taken (h.presentRequest r).lanesTaken]
  rfl

/-- The requests of a lane that are taken or left in turn, as arrivals. -/
theorem OneLane.presented {m : Master} {l : List Request} {s : State} (h : OneLane m s)
    (hl : ∀ r ∈ l, r.wf = true) :
    Presented m l (Machine.arbitrate s) (Machine.arbitrate (l.foldl (takeOrLeave m) s)) := by
  induction l generalizing s with
  | nil => rfl
  | cons r l ih =>
    exact ⟨_, h.arbitrate.exec (hl r List.mem_cons_self),
      ih (h.arbitrate.presentRequest r) fun q hq => hl q (List.mem_cons_of_mem r hq)⟩

/-- At a port that is not EMPTY the requests are left on the lane. -/
theorem foldl_takeOrLeave_waits {m : Master} {l : List Request} {s : State}
    (h : s.transit.ports.get m ≠ .empty) :
    arbitrate (l.foldl (takeOrLeave m) s) = arbitrate (setLane m (s.transit.lanes.get m ++ l) s) := by
  have hset (a b : List Request) (u : State) : setLane m a (setLane m b u) = setLane m a u := by
    simp [setLane, State.setTransit, PerMaster.set_set]
  induction l generalizing s with
  | nil =>
    rw [List.append_nil, List.foldl_nil, setLane, PerMaster.set_get]
    rfl
  | cons r l ih =>
    have hstill : (arbitrate s).transit.ports.get m ≠ .empty := fun he => h (arbitrate_empty he)
    have htake : takeOrLeave m s r = setLane m (s.transit.lanes.get m ++ [r]) (arbitrate s) := by
      rw [takeOrLeave, presentRequest_waits m r _ hstill, arbitrate_lanes]
    have hlane : (takeOrLeave m s r).transit.lanes.get m = s.transit.lanes.get m ++ [r] := by
      rw [htake]
      exact PerMaster.get_set_self ..
    rw [List.foldl_cons, ih (by rw [htake]; exact hstill), hlane, htake, hset, List.append_assoc,
      List.singleton_append, arbitrate_setLane, arbitrate_setLane, arbitrate_arbitrate]

theorem OneLane.foldl {m : Master} {l : List Request} {s : State} (h : OneLane m s) :
    OneLane m (l.foldl (takeOrLeave m) s) := by
  induction l generalizing s with
  | nil => exact h
  | cons r l ih => exact ih (h.arbitrate.presentRequest r)

theorem serveLane_nothing {m : Master} {s : State} (h : s.transit.lanes.get m = []) :
    serveLane m s = s := by
  have hsame : setLane m [] s = s := by
    rw [← h, setLane, PerMaster.set_get]
    rfl
  unfold serveLane
  rw [h, List.foldl_nil, hsame]
  cases s.transit.ports.get m <;> rfl

/-- The lanes are served where the requests `l` alone wait, on that of `m`. -/
theorem serveLanes_setLane {m : Master} {l : List Request} {v : State}
    (hv : ∀ k, v.transit.lanes.get k = []) :
    arbitrate (serveLanes (setLane m l v)) = arbitrate (l.foldl (takeOrLeave m) v) := by
  have hset (k : Master) (hk : k ≠ m) : (setLane m l v).transit.lanes.get k = [] :=
    (PerMaster.get_set_of_ne _ _ _ _ hk).trans (hv k)
  have hget : (setLane m l v).transit.lanes.get m = l := PerMaster.get_set_self ..
  have hback : setLane m [] (setLane m l v) = v := by
    simp only [setLane, State.setTransit, PerMaster.set_set]
    rw [← hv m, PerMaster.set_get]
  have hserve : serveLane m (setLane m l v) =
      if v.transit.ports.get m = .empty then l.foldl (takeOrLeave m) v else setLane m l v := by
    have hport : (setLane m l v).transit.ports.get m = v.transit.ports.get m := rfl
    unfold serveLane
    rw [hport, hget, hback]
    cases v.transit.ports.get m <;> simp
  have hothers (k : Master) (hk : k ≠ m) : (serveLane m (setLane m l v)).transit.lanes.get k = [] := by
    rw [hserve]
    split_ifs
    · exact OneLane.foldl ⟨fun k _ => hv k, fun _ => hv m⟩ |>.others k hk
    · exact hset k hk
  have hbefore (k : Master) (hk : k ≠ m) : serveLane k (setLane m l v) = setLane m l v :=
    serveLane_nothing (hset k hk)
  have hafter (k : Master) (hk : k ≠ m) :
      serveLane k (serveLane m (setLane m l v)) = serveLane m (setLane m l v) :=
    serveLane_nothing (hothers k hk)
  have hall : serveLanes (setLane m l v) = serveLane m (setLane m l v) := by
    cases m <;> simp [serveLanes, masters, hbefore, hafter]
  rw [hall, hserve]
  split_ifs with he
  · rfl
  · rw [foldl_takeOrLeave_waits he, hv m]
    rfl

/-- An event that leaves `v` with the requests `l` on the lane of `m` alone ends as it ends without
them, followed by their arrivals in turn (R1, log 1). -/
theorem finishLanes_setLane {m : Master} {l : List Request} {v : State}
    (hv : ∀ k, v.transit.lanes.get k = []) (hl : ∀ r ∈ l, r.wf = true) :
    ∃ t, finishLanes (setLane m l v) = .next t ∧ Presented m l (arbitrate v) t :=
  ⟨_, congrArg Host.Outcome.next (serveLanes_setLane hv),
    OneLane.presented ⟨fun k _ => hv k, fun _ => hv m⟩ hl⟩

end Sys2Proof.Machine

namespace Sys2Proof.Machine

/-! ### HELD requests that are re-examined (R6, R17, R47) -/

/-- No request is HELD. -/
def State.noneHeld (s : State) : Prop := ∀ m q, s.transit.ports.get m ≠ .held q

theorem noneHeld_congr {s t : State} (h : t.transit = s.transit) : t.noneHeld ↔ s.noneHeld := by
  rw [State.noneHeld, State.noneHeld, h]

theorem reexamine_nothing {issue : Slot → Word → State → State} {m : Master} {s : State}
    (h : ∀ q, s.transit.ports.get m ≠ .held q) : reexamine issue m s = s := by
  unfold reexamine
  cases hp : s.transit.ports.get m with
  | held q => exact absurd hp (h q)
  | empty => rfl
  | waiting x => rfl
  | inMemory x => rfl

theorem reexamineAll_noneHeld {issue : Slot → Word → State → State} {s : State} (h : s.noneHeld) :
    reexamineAll issue s = s := by
  have hm (m : Master) : reexamine issue m s = s := reexamine_nothing (h m)
  simp only [reexamineAll, masters, List.foldl_cons, List.foldl_nil, hm]

/-- With no request HELD, the operation of every opcode word leaves the traffic. -/
def IssueQuiet (issue : Slot → Word → State → State) : Prop :=
  ∀ n w (s : State), s.noneHeld → (issue n w s).transit = s.transit

theorem issueReload_quiet {reexam : State → State} (h : ∀ s : State, s.noneHeld → reexam s = s)
    (n : Slot) (rest : BitVec 24) {s : State} (hs : s.noneHeld) :
    (issueReload reexam n rest s).transit = s.transit := by
  have hreset (u : State) : (reloadResets u).transit = u.transit := by rw [reloadResets_eq]
  unfold issueReload
  dsimp only
  split_ifs
  · rfl
  · exact raise_transit ..
  · exact giveResult_transit ..
  · have htransit : (reloadResets (giveResult n .done none
        (beginIssue n (opcodeWord 0x60 rest) s))).transit = s.transit := by
      rw [hreset, giveResult_transit]
      rfl
    rw [h _ ((noneHeld_congr htransit).2 hs)]
    exact htransit

theorem issueOpcode_quiet {reload : Slot → BitVec 24 → State → State}
    (h : ∀ n rest (s : State), s.noneHeld → (reload n rest s).transit = s.transit) :
    IssueQuiet (issueOpcode reload) := by
  intro n w s hs
  unfold issueOpcode
  cases hc : commandOf n w with
  | none => rfl
  | some i =>
    by_cases hr : ∃ k rest, i = .reload k rest
    · obtain ⟨k, rest, rfl⟩ := hr
      exact h k rest s hs
    · exact (issueInstr_keeps i s fun k rest he => hr ⟨k, rest, he⟩).transit

theorem issueWithin_quiet : IssueQuiet issueWithin :=
  issueOpcode_quiet fun n rest _ => issueReload_quiet (fun _ _ => rfl) n rest

theorem issueFull_quiet : IssueQuiet issueFull :=
  issueOpcode_quiet fun n rest _ => issueReload_quiet (fun _ => reexamineAll_noneHeld) n rest

theorem pageWord_transit {issue : Slot → Word → State → State} (hi : IssueQuiet issue) (alone : Bool)
    (o : Nat) (w : WriteWord) {s : State} (hs : s.noneHeld) :
    (pageWord issue alone o w s).transit = s.transit := by
  rcases page_places o with rfl | rfl | hbeyond | ⟨n, i, hlt, rfl⟩
  · rw [pageWord_keepalive]
    split_ifs
    · exact (keepaliveValue_keeps _ s).transit
    · rfl
  · rw [pageWord_takeIndex]
    split_ifs
    · exact (takeIndexValue_keeps _ s).transit
    · rfl
  · rw [pageWord_beyond hbeyond]
  · obtain hparam | rfl | rfl : i < 14 ∨ i = 14 ∨ i = 15 := by omega
    · rw [pageWord_param hparam]
      rfl
    · rw [pageWord_gap]
    · rw [pageWord_opcode]
      split_ifs
      · exact hi n _ s hs
      · rfl

theorem pageWords_transit {issue : Slot → Word → State → State} (hi : IssueQuiet issue) (alone : Bool)
    (o : Nat) (ws : List WriteWord) {s : State} (hs : s.noneHeld) :
    (pageWords issue alone o ws s).transit = s.transit := by
  induction ws generalizing o s with
  | nil => rfl
  | cons w ws ih =>
    have hword := pageWord_transit hi alone o w hs
    exact (ih (o + 1) ((noneHeld_congr hword).2 hs)).trans hword

theorem pageWrite_transit {issue : Slot → Word → State → State} (hi : IssueQuiet issue) (m : Master)
    (o : Nat) (len : BurstLen) (ws : List WriteWord) {s : State} (hs : s.noneHeld) :
    (pageWrite issue m o len ws s).transit = s.transit := by
  unfold pageWrite
  split_ifs
  · exact pageWords_transit hi _ o ws hs
  · rfl

/-- What the owner of an accepted request does leaves the traffic, with no request HELD. -/
theorem handle_transit {issue : Slot → Word → State → State} (hi : IssueQuiet issue) {m : Master}
    {r : Request} {p : Place} {s : State} {ws : List WriteWord} {effect : State → State}
    (h : handle issue m r p s = .accept ws effect) {u : State} (hu : u.robots = s.robots)
    (hheld : u.noneHeld) : (effect u).transit = u.transit := by
  by_cases hk : p.kind = .control
  · simp only [handle, handleWrite, hk] at h
    cases hd : r.dir <;> simp only [hd, Handling.accept.injEq] at h <;> obtain ⟨-, rfl⟩ := h
    · rfl
    · exact pageWrite_transit hi _ _ _ _ hheld
  · exact (handle_blockKeeps h (fun hc => absurd hc hk) u hu).transit

/-- With no request HELD at another port, an examination changes the port of its master alone. -/
theorem examine_othersKept_of_noneHeld {issue : Slot → Word → State → State} (hi : IssueQuiet issue)
    {m : Master} (r : Request) {s : State}
    (hs : ∀ k, k ≠ m → ∀ q, s.transit.ports.get k ≠ .held q) :
    OthersKept m s (examine issue m r s) := by
  unfold examine
  dsimp only
  split
  · exact deny_othersKept m r _ _ _ s
  · split
    · exact deny_othersKept m r _ _ _ s
    · next ws effect hacc =>
      refine .ite (setPort_othersKept rfl rfl) ((enterWaiting_othersKept m _ _ s).trans
        (.of_transit (handle_transit hi hacc ?_ ?_)))
      · rw [enterWaiting_frame]
      · intro k q hk
        rw [enterWaiting_frame] at hk
        by_cases hkm : k = m
        · subst hkm
          rw [PerMaster.get_set_self] at hk
          cases hk
        · rw [PerMaster.get_set_of_ne _ _ _ _ hkm] at hk
          exact hs k hkm q hk

/-- The re-examinations where one request alone is HELD: it is examined as at the EMPTY port. -/
theorem reexamineAll_held {issue : Slot → Word → State → State} (hi : IssueQuiet issue) {m : Master}
    {r : Request} {v : State} (hv : v.noneHeld) :
    reexamineAll issue (setMasterPort m (.held r) v) = examine issue m r v := by
  have hbefore (k : Master) (hk : k ≠ m) :
      reexamine issue k (setMasterPort m (.held r) v) = setMasterPort m (.held r) v :=
    reexamine_nothing fun q hq => hv k q ((PerMaster.get_set_of_ne _ _ _ _ hk).symm.trans hq)
  have hhere : reexamine issue m (setMasterPort m (.held r) v) = examine issue m r v := by
    have hport : (setMasterPort m (.held r) v).transit.ports.get m = .held r :=
      PerMaster.get_set_self ..
    rw [reexamine, hport]
    exact examine_port issue m (.held r) r v
  have hafter (k : Master) (hk : k ≠ m) :
      reexamine issue k (examine issue m r v) = examine issue m r v :=
    reexamine_nothing fun q hq => hv k q
      ((examine_othersKept_of_noneHeld hi r (fun k _ => hv k) k hk).1.symm.trans hq)
  cases m <;> simp [reexamineAll, masters, hbefore, hhere, hafter]

/-- A command that leaves `v` and then re-examines what is HELD. -/
theorem reexaminesHeld_of {issue : Slot → Word → State → State} (hi : IssueQuiet issue) {c : Instr}
    {x : Transit} {s v : State} (hv : v.noneHeld) (hl : v.lanesTaken) (hx : v.transit = x)
    (hports : x.ports = s.transit.ports) (hc : exec c s = .next (arbitrate v))
    (hheld : ∀ m r, exec c (setMasterPort m (.held r) s) =
      finishLanes (reexamineAll issue (setMasterPort m (.held r) v)))
    (hissue : ∀ m r, examine issue m r v = examine issueFull m r v) : ReexaminesHeld c x s := by
  intro m r u hempty hwf haligned hu hinside
  rw [hc] at hu
  cases hu
  have hback : { arbitrate v with transit := x } = v := by
    rw [← hx]
    rfl
  have hport : v.transit.ports.get m = .empty := by rw [hx, hports]; exact hempty
  rw [hback, exec_arrival_examines hwf hport hl haligned hinside, ← hissue,
    ← reexamineAll_held hi hv]
  exact hheld m r

end Sys2Proof.Machine

namespace Sys2Proof.Machine

/-! ### Power-on (R16) -/

theorem powerOn_arbitrate (key : Bool) (s : State) :
    arbitrate (powerOnEvent key s) = powerOnEvent key s := rfl

/-- Requests that waited on one lane at power-on. -/
theorem powerOnEvent_setLane (key : Bool) (m : Master) (l : List Request) (s : State) :
    powerOnEvent key (setLane m l s) = setLane m l (powerOnEvent key s) := rfl

/-! ### The cabinet reset (R168) -/

/-- The staging queue that a cabinet reset keeps. -/
theorem keptStaging_eq (s : State) : keptStaging s =
    if s.transit.memPort = .internal then
      (s.staging.take 1).map fun e => { e with current := false, cut := true }
    else [] := by
  unfold keptStaging
  cases s.transit.memPort with
  | free => rfl
  | master m => rfl
  | internal => cases s.staging <;> rfl

/-- A record raised in an empty ring, with room in the staging queue, joins at ring slot 0. -/
theorem raise_first {x : Report} {s : State} (hl : s.writer.losing = false) (hp : s.writer.put = 0)
    (ht : s.writer.take = 0) (hq : s.staging.length < 8) (hring : 3 ≤ s.map.ringCapacity) :
    (raise x s).staging = s.staging ++
        [{ body := .record x s.clock.stamp, addr := s.map.baseOf .reports, current := true
           firstDone := false, failed := false, cut := false }] ∧
      (raise x s).writer = { s.writer with put := 1 } := by
  have hfree : freeSlots s.map.ringCapacity s.writer = s.map.ringCapacity - 1 := by
    rw [freeSlots, unconsumed, hp, ht, Nat.zero_mod, Nat.zero_add, Nat.sub_zero, Nat.mod_self,
      Nat.sub_zero]
  have hplace : raise x s = placeRecord x s := by
    rw [raise, hl, if_neg Bool.false_ne_true, takeNormal,
      if_neg (Nat.not_le.2 (show s.staging.length < stagingMax from hq)), hfree,
      if_pos (by omega)]
  rw [hplace]
  refine ⟨?_, ?_⟩
  · simp [placeRecord, recordEntry, hp]
  · simp only [placeRecord, State.setWriter_writer, hp, Nat.zero_add]
    rw [Nat.mod_eq_of_lt (by omega)]

/-- The state before START at a cabinet reset. -/
theorem resetTraffic_eq (s : State) : resetTraffic (resetBlocks s) = { resetBlocks s with
    writer := { s.writer with
      lost := satAdd32 s.writer.lost (removedCount s), put := 0, written := 0, take := 0
      losing := false }
    staging := keptStaging s
    transit := { s.transit with pointer := .service }
    slots := s.slots.map fun c =>
      { c with awaiting := false, params := List.replicate 14 0, waiting := none } } := by
  rw [resetBlocks_eq]
  rfl

theorem TrafficFree.setTransit {f : State → State} (h : TrafficFree f) (x : Transit) (s : State) :
    f (s.setTransit x) = (f s).setTransit x := by
  have hcommutes : f (s.setTransit x) = (f s).withTraffic x s.pacing := h.commutes x s.pacing s
  rw [hcommutes, ← h.pacing s]
  rfl

theorem TrafficFree.setMasterPort {f : State → State} (h : TrafficFree f) (m : Master) (p : PortState)
    (s : State) : f (setMasterPort m p s) = Machine.setMasterPort m p (f s) := by
  rw [Machine.setMasterPort, h.setTransit, Machine.setMasterPort, h.transit]

theorem trafficFree_raiseStart : TrafficFree raiseStart :=
  .reads (a := startReport) (g := fun x s => raise x (s.setWriter { s.writer with lost := 0 }))
    (fun _ _ _ => rfl) fun x =>
      .comp (f := fun s => s.setWriter { s.writer with lost := 0 }) (trafficFree_raise x)
        ⟨fun _ _ _ => rfl⟩

theorem trafficFree_startAfterReset : TrafficFree startAfterReset :=
  .ite (p := fun s => s.isLoading = true) (fun _ _ _ => .rfl) trafficFree_id
    (.comp (f := fun s => s.setLoader { s.loader with load := none, cause := .cabinetReset })
      trafficFree_raiseStart ⟨fun _ _ _ => rfl⟩)

/-- The state that a cabinet reset leaves before HELD requests are re-examined. -/
def State.cabinetReset (s : State) : State := startAfterReset (resetTraffic (resetBlocks s))

theorem cabinetReset_setMasterPort (m : Master) (p : PortState) (s : State) :
    (setMasterPort m p s).cabinetReset = setMasterPort m p s.cabinetReset :=
  trafficFree_startAfterReset.setMasterPort m p (resetTraffic (resetBlocks s))

theorem startAfterReset_loading {s : State} (h : s.loader.condition = .loading) :
    startAfterReset s = s := if_pos (decide_eq_true h)

/-- START of a cabinet reset outside LOADING, in an empty ring. -/
theorem startAfterReset_started {s : State} (h : s.loader.condition ≠ .loading)
    (hl : s.writer.losing = false) (hp : s.writer.put = 0) (ht : s.writer.take = 0)
    (hq : s.staging.length < 8) (hring : 3 ≤ s.map.ringCapacity) :
    startAfterReset s = { s with
      loader := { s.loader with load := none, cause := .cabinetReset }
      staging := s.staging ++
        [{ body := .record (.start .cabinetReset s.loader.selfCheck s.loader.codes s.loader.adjusted
              (decide (s.loader.condition = .safe)) s.writer.lost) s.clock.stamp
           addr := s.map.baseOf .reports, current := true, firstDone := false, failed := false
           cut := false }]
      writer := { s.writer with put := 1, lost := 0 } } := by
  have hstart : startAfterReset s = raise (.start .cabinetReset s.loader.selfCheck s.loader.codes
      s.loader.adjusted (decide (s.loader.condition = .safe)) s.writer.lost)
      { s with
        loader := { s.loader with load := none, cause := .cabinetReset }
        writer := { s.writer with lost := 0 } } := by
    rw [startAfterReset, if_neg (by simp [State.isLoading, h])]
    rfl
  have hfirst := raise_first (x := .start .cabinetReset s.loader.selfCheck s.loader.codes
      s.loader.adjusted (decide (s.loader.condition = .safe)) s.writer.lost)
    (s := { s with
        loader := { s.loader with load := none, cause := .cabinetReset }
        writer := { s.writer with lost := 0 } }) hl hp ht hq hring
  obtain ⟨hstaging, hwriter⟩ := hfirst
  rw [hstart, raise_frame, hstaging, hwriter]

/-- START's entry at a cabinet reset that finds `n` records lost. -/
def State.resetStart (s : State) (n : Nat) : StagingEntry :=
  { body := .record (.start .cabinetReset s.loader.selfCheck s.loader.codes s.loader.adjusted
      (decide (s.loader.condition = .safe)) n) s.clock.stamp
    addr := s.map.baseOf .reports, current := true, firstDone := false, failed := false, cut := false }

/-- The blocks and the traffic that a cabinet reset leaves. -/
theorem cabinetReset_frame (s : State) : s.cabinetReset = { resetBlocks s with
    slots := s.slots.map fun c =>
      { c with awaiting := false, params := List.replicate 14 0, waiting := none }
    transit := { s.transit with pointer := .service }
    loader := s.cabinetReset.loader, staging := s.cabinetReset.staging
    writer := s.cabinetReset.writer } := by
  have hw := resetTraffic_eq s
  unfold State.cabinetReset
  generalize resetTraffic (resetBlocks s) = w at *
  unfold startAfterReset
  split_ifs
  · rw [hw]
  · rw [raiseStart, raise_frame, hw]
    rfl

/-- What START of a cabinet reset is raised from. -/
theorem resetTraffic_fields (s : State) :
    let w := resetTraffic (resetBlocks s)
    w.loader = s.loader ∧ w.clock = s.clock ∧ w.map = s.map ∧ w.staging = keptStaging s ∧
      w.writer = { put := 0, written := 0, take := 0
                   lost := satAdd32 s.writer.lost (removedCount s), losing := false } := by
  rw [resetTraffic_eq, resetBlocks_eq]
  exact ⟨rfl, rfl, rfl, rfl, rfl⟩

theorem cabinetReset_loading {s : State} (h : s.loader.condition = .loading) :
    s.cabinetReset.loader = s.loader ∧ s.cabinetReset.staging = keptStaging s ∧
      s.cabinetReset.writer = { put := 0, written := 0, take := 0
                                lost := satAdd32 s.writer.lost (removedCount s), losing := false } := by
  obtain ⟨hloader, -, -, hstaging, hwriter⟩ := resetTraffic_fields s
  unfold State.cabinetReset
  generalize resetTraffic (resetBlocks s) = w at *
  rw [startAfterReset_loading (hloader ▸ h)]
  exact ⟨hloader, hstaging, hwriter⟩

theorem cabinetReset_started {s : State} (h : s.loader.condition ≠ .loading)
    (hring : 3 ≤ s.map.ringCapacity) :
    s.cabinetReset.loader = { s.loader with load := none, cause := .cabinetReset } ∧
      s.cabinetReset.staging = keptStaging s ++
        [s.resetStart (satAdd32 s.writer.lost (removedCount s))] ∧
      s.cabinetReset.writer = { put := 1, written := 0, take := 0, lost := 0, losing := false } := by
  have hshort : (keptStaging s).length < 8 := Nat.lt_of_le_of_lt (keptStaging_length s) (by decide)
  obtain ⟨hloader, hclock, hmap, hstaging, hwriter⟩ := resetTraffic_fields s
  unfold State.cabinetReset State.resetStart
  generalize resetTraffic (resetBlocks s) = w at *
  rw [startAfterReset_started (hloader ▸ h) (by rw [hwriter]) (by rw [hwriter]) (by rw [hwriter])
    (by rwa [hstaging]) (by rwa [hmap])]
  rw [hloader, hclock, hmap, hstaging, hwriter]
  exact ⟨rfl, rfl, rfl⟩

theorem exec_cabinetReset (s : State) :
    exec .cabinetReset s = finishLanes (reexamineAll issueFull s.cabinetReset) := rfl

/-- Settles O53: power-on, and a cabinet reset inside and outside LOADING. -/
theorem cabinetResetAndPowerOn : Obligations.CabinetResetAndPowerOn := by
  refine ⟨fun key s hl => ?_, fun s hheld hl hring => ?_⟩
  · intro u
    have hu : powerOnEvent key s = u := rfl
    have htaken : (powerOnEvent key s).lanesTaken := fun m _ => hl m
    refine ⟨?_, fun m l hwf => ?_⟩
    · change finishLanes (powerOnEvent key s) = _
      rw [finishLanes_of_taken htaken, ← hu]
      rfl
    · obtain ⟨t, hexec, hpresented⟩ := finishLanes_setLane (v := powerOnEvent key s) (m := m) hl hwf
      exact ⟨t, hexec, hpresented⟩
  · intro loading kept lost start
    have hkept : keptStaging s = kept := keptStaging_eq s
    have hlost : satAdd32 s.writer.lost (removedCount s) = lost := by
      rw [removedCount, hkept]
      rfl
    have hstart : s.resetStart lost = start := rfl
    have hframe := cabinetReset_frame s
    have hloading := cabinetReset_loading (s := s)
    have hstarted := fun h => cabinetReset_started (s := s) h hring
    rw [hkept, hlost] at hloading hstarted
    rw [resetBlocks_eq] at hframe
    have hexec := exec_cabinetReset s
    have htransit : s.cabinetReset.transit = { s.transit with pointer := .service } := by
      rw [hframe]
    have hnone : s.cabinetReset.noneHeld := by
      rw [State.noneHeld, htransit]
      exact hheld
    have htaken : s.cabinetReset.lanesTaken := by
      rw [State.lanesTaken, htransit]
      exact hl
    rw [reexamineAll_noneHeld hnone, finishLanes_of_taken htaken] at hexec
    have hport (m : Master) (r : Request) := exec_cabinetReset (setMasterPort m (.held r) s)
    simp only [cabinetReset_setMasterPort] at hport
    generalize s.cabinetReset = v at *
    refine ⟨arbitrate v, hexec, ?_, ?_, hloading, hstarted,
      reexaminesHeld_of issueFull_quiet hnone htaken htransit rfl hexec hport fun _ _ => rfl⟩
    · rw [Arbitrated, arbitrate, State.setTransit_transit, htransit]
      rfl
    · rw [arbitrate_frame, hframe]
      rfl

end Sys2Proof.Machine

namespace Sys2Proof.Machine

/-! ### Opcodes while a load is in progress (R169) -/

theorem issueInstr_loader {reload : Slot → BitVec 24 → State → State} {i : Instr} {s : State}
    (hr : ∀ n rest, i ≠ .reload n rest) : (issueInstr reload i s).loader = s.loader := by
  by_cases hq : ∃ n rest, i = .quarantineSet n rest
  · obtain ⟨n, rest, rfl⟩ := hq
    change (issueCommand n _ (runQuarantineSet n) s).loader = s.loader
    unfold issueCommand
    split_ifs
    · rfl
    · rw [raise_loader]
    · rw [giveResult_loader, runQuarantineSet_frame]
      rfl
  · exact (issueInstr_limitKept reload i (fun n rest he => hq ⟨n, rest, he⟩) hr s).loader

theorem reloadBarred_of_load {s : State} (h : s.loader.load.isSome = true) : reloadBarred s = true := by
  rw [reloadBarred, h]
  rfl

/-- A RELOAD while a load is in progress does the same whatever would be re-examined. -/
theorem issueReload_busy (reexam : State → State) (n : Slot) (rest : BitVec 24) {s : State}
    (h : s.loader.load.isSome = true) :
    issueReload reexam n rest s = issueReload id n rest s ∧
      (issueReload reexam n rest s).loader = s.loader := by
  have hbarred : reloadBarred (beginIssue n (opcodeWord 0x60 rest) s) = true :=
    reloadBarred_of_load h
  unfold issueReload
  dsimp only
  rw [if_pos hbarred, if_pos hbarred]
  refine ⟨rfl, ?_⟩
  split_ifs
  · rfl
  · rw [raise_loader]
  · rw [giveResult_loader]
    rfl

theorem issueWithin_eq_issueFull (n : Slot) (w : Word) {s : State}
    (h : s.loader.load.isSome = true) :
    issueWithin n w s = issueFull n w s ∧ (issueFull n w s).loader = s.loader := by
  unfold issueWithin issueFull issueOpcode
  cases commandOf n w with
  | none => exact ⟨rfl, rfl⟩
  | some i =>
    by_cases hr : ∃ k rest, i = .reload k rest
    · obtain ⟨k, rest, rfl⟩ := hr
      have hfull := issueReload_busy (reexamineAll issueWithin) k rest h
      exact ⟨hfull.1.symm, hfull.2⟩
    · have hr' : ∀ k rest, i ≠ .reload k rest := fun k rest he => hr ⟨k, rest, he⟩
      refine ⟨?_, issueInstr_loader hr'⟩
      cases i with
      | reload k rest => exact absurd rfl (hr' k rest)
      | _ => rfl

theorem pageWord_busy (alone : Bool) (o : Nat) (w : WriteWord) {s : State}
    (h : s.loader.load.isSome = true) :
    pageWord issueWithin alone o w s = pageWord issueFull alone o w s ∧
      (pageWord issueFull alone o w s).loader = s.loader := by
  rcases page_places o with rfl | rfl | hbeyond | ⟨n, i, hi, rfl⟩
  · simp only [pageWord_keepalive, true_and]
    split_ifs
    · exact (keepaliveValue_limitKept _ s).loader
    · rfl
  · simp only [pageWord_takeIndex, true_and]
    split_ifs
    · exact (takeIndexValue_limitKept _ s).loader
    · rfl
  · simp only [pageWord_beyond hbeyond, true_and]
  · obtain hparam | rfl | rfl : i < 14 ∨ i = 14 ∨ i = 15 := by omega
    · simp only [pageWord_param hparam, true_and]
      rfl
    · simp only [pageWord_gap, true_and]
    · simp only [pageWord_opcode]
      split_ifs
      · exact issueWithin_eq_issueFull n _ h
      · exact ⟨rfl, rfl⟩

theorem pageWords_busy (alone : Bool) (o : Nat) (ws : List WriteWord) {s : State}
    (h : s.loader.load.isSome = true) :
    pageWords issueWithin alone o ws s = pageWords issueFull alone o ws s := by
  induction ws generalizing o s with
  | nil => rfl
  | cons w ws ih =>
    obtain ⟨hsame, hloader⟩ := pageWord_busy alone o w h
    rw [pageWords, pageWords, hsame]
    exact ih (o + 1) (by rw [hloader]; exact h)

theorem pageWrite_busy (m : Master) (o : Nat) (len : BurstLen) (ws : List WriteWord) {s : State}
    (h : s.loader.load.isSome = true) :
    pageWrite issueWithin m o len ws s = pageWrite issueFull m o len ws s := by
  unfold pageWrite
  rw [pageWords_busy _ o ws h]

/-- While a load is in progress a re-examination of RELOAD is an arrival's examination. -/
theorem examine_busy (m : Master) (r : Request) {s : State} (h : s.loader.load.isSome = true) :
    examine issueWithin m r s = examine issueFull m r s := by
  cases hright : deniedRight s.window m r.dir (s.map.place r.addr.toNat) with
  | some cause => rw [examine_refused hright, examine_refused hright]
  | none =>
    unfold examine
    dsimp only
    rw [hright]
    dsimp only
    by_cases hcontrol : r.dir = .write ∧ (s.map.place r.addr.toNat).kind = .control
    · obtain ⟨hdir, hk⟩ := hcontrol
      simp only [handle, hdir, handleWrite_control hk, paceAndAdmit]
      split_ifs
      · rfl
      · refine pageWrite_busy m _ r.len r.words ?_
        rw [enterWaiting_frame]
        exact h
    · have hsame : handle issueWithin m r (s.map.place r.addr.toNat) s =
          handle issueFull m r (s.map.place r.addr.toNat) s := by
        unfold handle handleWrite
        cases hdir : r.dir with
        | read => rfl
        | write =>
          cases hk : (s.map.place r.addr.toNat).kind with
          | control => exact absurd ⟨hdir, hk⟩ hcontrol
          | _ => rfl
      rw [hsame]

/-! ### RELOAD (R169) -/

theorem reloadBarred_iff (s : State) : reloadBarred s = true ↔
    s.loader.load ≠ none ∨ s.tracker.running = true ∨ s.window.state ∈ [.opened, .draining] ∨
      ∃ r, (s.robots.table.get r).state ∈ [.ordered, .filling] := by
  have hworking (st : RobotState) : st.working = true ↔ st ∈ [.ordered, .filling] := by
    cases st <;> simp [RobotState.working]
  have hsession (st : WindowState) : st.inSession = true ↔ st ∈ [.opened, .draining] := by
    cases st <;> simp [WindowState.inSession]
  have hrobots : (s.robots.table.toList.any fun e => e.state.working) = true ↔
      ∃ r, (s.robots.table.get r).state ∈ [.ordered, .filling] := by
    rw [PerRobot.any_iff]
    simp only [hworking]
  simp only [reloadBarred, Bool.or_eq_true, hrobots, hsession, Option.isSome_iff_ne_none, or_assoc]

/-- A refused RELOAD runs its course like any command. -/
theorem issueReload_barred (reexam : State → State) (n : Slot) (rest : BitVec 24) {s : State}
    (h : reloadBarred s = true) :
    issueReload reexam n rest s =
      issueCommand n (opcodeWord 0x60 rest) (fun u => refuse u .refusedState) s := by
  have hbarred : reloadBarred (beginIssue n (opcodeWord 0x60 rest) s) = true := h
  unfold issueReload issueCommand
  dsimp only
  rw [if_pos hbarred]
  rfl

/-- What an accepted RELOAD leaves before HELD requests are re-examined. -/
def State.reloaded (s : State) (n : Slot) (rest : BitVec 24) : State :=
  reloadResets (giveResult n .done none (beginIssue n (opcodeWord 0x60 rest) s))

theorem issueReload_accepted (reexam : State → State) {n : Slot} {rest : BitVec 24} {s : State}
    (htakes : s.takes n) (h : reloadBarred s = false) :
    issueReload reexam n rest s = reexam (s.reloaded n rest) := by
  obtain ⟨hload, hfree⟩ := htakes
  have hbarred : reloadBarred (beginIssue n (opcodeWord 0x60 rest) s) = false := h
  unfold issueReload
  dsimp only
  rw [if_neg (by simpa [State.isLoading] using hload), if_neg (by simp [hfree]),
    if_neg (Bool.eq_false_iff.1 hbarred)]
  rfl

theorem reloaded_eq (s : State) (n : Slot) (rest : BitVec 24) : s.reloaded n rest =
    { s with
      pacing := s.pacing.map (Pace.resetToDelivered s.now)
      robots := s.robots.resetKeepingSettings
      switch := s.switch.resetKeepingConfig
      tracker := s.tracker.resetKeepingConfig
      keepalive := .reset
      mail := { s.mail.dropRobotGuard with cameras := [] }
      window := { s.window with refusal := false }
      loader := { s.loader with load := some .reload, cause := .reload }
      slots := (s.reloaded n rest).slots, staging := (s.reloaded n rest).staging } := by
  unfold State.reloaded
  rw [reloadResets_eq, giveResult_frame]
  rfl

theorem trafficFree_offerResult (n : Slot) (e : StagingEntry) : TrafficFree (offerResult n e) :=
  .ite (p := fun s => s.staging.length < stagingMax) (fun _ _ _ => .rfl) ⟨fun _ _ _ => rfl⟩
    ⟨fun _ _ _ => rfl⟩

theorem trafficFree_giveResult (n : Slot) (c : ResultCode) (d : Option (List Word)) :
    TrafficFree (giveResult n c d) :=
  .reads (a := resultEntry n c d) (g := fun e s => offerResult n e (setAwaiting n true s))
    (fun _ _ _ => rfl) fun e =>
      .comp (f := setAwaiting n true) (trafficFree_offerResult n e) ⟨fun _ _ _ => rfl⟩

theorem reloaded_setMasterPort (m : Master) (p : PortState) (n : Slot) (rest : BitVec 24) (s : State) :
    (setMasterPort m p s).reloaded n rest = setMasterPort m p (s.reloaded n rest) := by
  have hgive : giveResult n .done none (beginIssue n (opcodeWord 0x60 rest) (setMasterPort m p s)) =
      setMasterPort m p (giveResult n .done none (beginIssue n (opcodeWord 0x60 rest) s)) :=
    (trafficFree_giveResult n .done none).setMasterPort m p (beginIssue n (opcodeWord 0x60 rest) s)
  unfold State.reloaded
  rw [hgive, reloadResets_eq, reloadResets_eq]
  rfl

end Sys2Proof.Machine

namespace Sys2Proof.Machine

/-! ### What later reports of an event leave of the records before them (R163, R164) -/

/-- From `s` to `t` records joined the tail of the staging queue, and the ring's other indices stand. -/
structure RecordsJoined (s t : State) : Prop where
  joined : ∃ es, t.staging = s.staging ++ es
  written : t.writer.written = s.writer.written
  take : t.writer.take = s.writer.take

theorem RecordsJoined.of_eq {s t : State} (hs : t.staging = s.staging) (hw : t.writer = s.writer) :
    RecordsJoined s t := ⟨⟨[], by rw [hs, List.append_nil]⟩, by rw [hw], by rw [hw]⟩

theorem RecordsJoined.trans {s t u : State} (h : RecordsJoined s t) (g : RecordsJoined t u) :
    RecordsJoined s u := by
  obtain ⟨es, hes⟩ := h.joined
  obtain ⟨fs, hfs⟩ := g.joined
  exact ⟨⟨es ++ fs, by rw [hfs, hes, List.append_assoc]⟩, g.written.trans h.written,
    g.take.trans h.take⟩

theorem placeRecord_joined (x : Report) (s : State) : RecordsJoined s (placeRecord x s) :=
  ⟨⟨[recordEntry x s], rfl⟩, rfl, rfl⟩

theorem takeNormal_joined (x : Report) (s : State) : RecordsJoined s (takeNormal x s) := by
  unfold takeNormal
  split_ifs
  · exact ⟨⟨[], (List.append_nil _).symm⟩, rfl, rfl⟩
  · exact placeRecord_joined x s
  · exact (placeRecord_joined .overrun s).trans ⟨⟨[], (List.append_nil _).symm⟩, rfl, rfl⟩
  · exact ⟨⟨[], (List.append_nil _).symm⟩, rfl, rfl⟩

theorem raise_joined (x : Report) (s : State) : RecordsJoined s (raise x s) := by
  unfold raise
  split_ifs
  · exact RecordsJoined.trans (t := resumeWriter s) ⟨⟨_, rfl⟩, rfl, rfl⟩ (takeNormal_joined x _)
  · exact ⟨⟨[], (List.append_nil _).symm⟩, rfl, rfl⟩
  · exact takeNormal_joined x s

theorem raiseAll_joined (rs : List Report) (s : State) : RecordsJoined s (raiseAll rs s) := by
  induction rs generalizing s with
  | nil => exact .of_eq rfl rfl
  | cons x rs ih => exact (raise_joined x s).trans (ih (raise x s))

theorem changeRobot_joined (r : Robot) (f : RobotChange → RobotChange) (s : State) :
    RecordsJoined s (changeRobot r f s) := by
  have hall := raiseAll_joined ((f (s.robot r).begin).notes.map
    (RobotNote.report r (f (s.robot r).begin).entry)) (setRobot r (f (s.robot r).begin).entry s)
  exact ⟨hall.joined, hall.written, hall.take⟩

/-! ### The stages of a load's end (R167) -/

/-- The settings and the condition that a load's end delivers. -/
def State.delivered (s : State) (kind : LoadKind) (res : LoadResult) (pass : Bool) : State :=
  applyDelivery res.delivery (s.setLoader (s.loader.ended kind pass res))

/-- The new ring, START and the parameter copies. -/
def State.restarted (s : State) : State := clearParams (raiseStart (resetRing s))

/-- What a load's end leaves before HELD requests are re-examined. -/
def State.loaded (s : State) (kind : LoadKind) (pass : Bool) (store : Option Store) : State :=
  judgeTimers (s.delivered kind (judgeLoad pass store) pass).restarted

theorem loadEndEvent_eq {kind : LoadKind} {s : State} (h : s.loader.load = some kind) (pass : Bool)
    (store : Option Store) :
    loadEndEvent pass store s = reexamineAll issueFull (s.loaded kind pass store) := by
  rw [loadEndEvent, h]
  rfl

theorem delivered_eq (s : State) (kind : LoadKind) (res : LoadResult) (pass : Bool) :
    s.delivered kind res pass = { s with
      map := { entries := res.delivery.entries, openSpace := res.delivery.openSpace }
      pacing := (deliverPaces res.delivery.paces s).pacing
      switch := s.switch.configure res.delivery.switch
      robots := { s.robots with settings := res.delivery.robots, limit := res.delivery.robots.limit }
      tracker := { s.tracker with
        cameras := res.delivery.cams.map
          (CamConfig.entry (s.setSwitch (s.switch.configure res.delivery.switch))) }
      clock := { s.clock with holdoverLimit := res.delivery.holdover }
      window := { s.window with maxDuration := res.delivery.maxDuration }
      loader := s.loader.ended kind pass res } := by
  rw [State.delivered, applyDelivery_eq]
  rfl

/-- START's report of a state. -/
theorem restarted_frame (s : State) : s.restarted = { s with
    slots := s.slots.map fun c => { c with params := List.replicate 14 0 }
    staging := s.restarted.staging, writer := s.restarted.writer } := by
  unfold State.restarted raiseStart clearParams
  rw [raise_frame]
  rfl

theorem trafficFree_restarted : TrafficFree State.restarted :=
  .comp (g := clearParams) (f := fun s => raiseStart (resetRing s)) ⟨fun _ _ _ => rfl⟩
    (.comp (f := resetRing) trafficFree_raiseStart ⟨fun _ _ _ => rfl⟩)

theorem trafficFree_raiseAll (rs : List Report) : TrafficFree (raiseAll rs) :=
  .foldl (fun x => trafficFree_raise x) rs

theorem trafficFree_applyChange (r : Robot) (c : RobotChange) : TrafficFree (applyChange r c) :=
  .comp (g := sendAnswers c.answers)
    (f := fun s => raiseAll (c.notes.map (RobotNote.report r c.entry)) (setRobot r c.entry s))
    ⟨fun _ _ _ => rfl⟩ (.comp (f := setRobot r c.entry) (trafficFree_raiseAll _) ⟨fun _ _ _ => rfl⟩)

theorem trafficFree_changeRobot (r : Robot) (f : RobotChange → RobotChange) :
    TrafficFree (changeRobot r f) :=
  .reads (a := fun s => f (s.robot r).begin) (g := applyChange r) (fun _ _ _ => rfl)
    (trafficFree_applyChange r)

theorem trafficFree_enter (r : Robot) (new : RobotState) (hold : Option HoldCause)
    (fault : Option FaultCause) (cause : RobotCause) : TrafficFree (enter r new hold fault cause) :=
  .reads (a := fun s => s.now)
    (g := fun now => changeRobot r (RobotChange.enter r now new hold fault cause))
    (fun _ _ _ => rfl) fun _ => trafficFree_changeRobot r _

theorem trafficFree_judgeRobot (r : Robot) : TrafficFree (judgeRobot r) :=
  .comp (g := fillTimeoutEvent r) (f := fun s => pickupTimeoutEvent r (heartbeatTimeoutEvent r s))
    (.ite (p := fun s => fillDue s r = true) (fun _ _ _ => .rfl) (trafficFree_enter ..) trafficFree_id)
    (.comp (g := pickupTimeoutEvent r) (f := heartbeatTimeoutEvent r)
      (.ite (p := fun s => pickupDue s r = true) (fun _ _ _ => .rfl) (trafficFree_enter ..)
        trafficFree_id)
      (.ite (p := fun s => heartbeatDue s r = true) (fun _ _ _ => .rfl) (trafficFree_enter ..)
        trafficFree_id))

theorem trafficFree_holdoverLimitEvent : TrafficFree holdoverLimitEvent :=
  .ite (p := fun s => s.clock.limitDue = true) (fun _ _ _ => .rfl)
    (.reads (a := fun s => Report.timeState .holdover .drifting .holdoverLimit s.clock.f s.clock.c none)
      (g := fun x s => raise x (s.setClock { s.clock with state := .drifting })) (fun _ _ _ => rfl)
      fun x => .comp (f := fun s => s.setClock { s.clock with state := .drifting })
        (trafficFree_raise x) ⟨fun _ _ _ => rfl⟩)
    trafficFree_id

theorem trafficFree_becomeSilent : TrafficFree becomeSilent :=
  .comp (g := fun s => sendForUpPorts sendLoss (s.setMail { s.mail with clock := s.mail.clock ++ [.silent] }))
    (f := fun s => raise (.switchState .alive .silent false s.switch.lastSequence s.switch.restarts)
      (s.setSwitch { s.switch with state := .silent, timer := none }))
    (.comp (f := fun s => s.setMail { s.mail with clock := s.mail.clock ++ [.silent] })
      (trafficFree_sendForUpPorts trafficFree_sendLoss) ⟨fun _ _ _ => rfl⟩)
    (.reads (a := fun s =>
        Report.switchState .alive .silent false s.switch.lastSequence s.switch.restarts)
      (g := fun x s => raise x (s.setSwitch { s.switch with state := .silent, timer := none }))
      (fun _ _ _ => rfl)
      fun x => .comp (f := fun s => s.setSwitch { s.switch with state := .silent, timer := none })
        (trafficFree_raise x) ⟨fun _ _ _ => rfl⟩)

theorem trafficFree_judgeTimers : TrafficFree judgeTimers :=
  .comp (g := forRobots judgeRobot) (f := fun s => switchTimeoutEvent (holdoverLimitEvent s))
    (.foldl trafficFree_judgeRobot allRobots)
    (.comp (g := switchTimeoutEvent)
      (.ite (p := fun s => switchTimeoutDue s = true) (fun _ _ _ => .rfl) trafficFree_becomeSilent
        trafficFree_id) trafficFree_holdoverLimitEvent)

theorem loaded_setMasterPort (m : Master) (p : PortState) (kind : LoadKind) (pass : Bool)
    (store : Option Store) (s : State) :
    (setMasterPort m p s).loaded kind pass store = setMasterPort m p (s.loaded kind pass store) := by
  have hdelivered : (setMasterPort m p s).delivered kind (judgeLoad pass store) pass =
      setMasterPort m p (s.delivered kind (judgeLoad pass store) pass) := by
    rw [delivered_eq, delivered_eq]
    rfl
  unfold State.loaded
  rw [hdelivered, trafficFree_restarted.setMasterPort, trafficFree_judgeTimers.setMasterPort]

theorem loaded_transit (kind : LoadKind) (pass : Bool) (store : Option Store) (s : State) :
    (s.loaded kind pass store).transit = s.transit := by
  rw [State.loaded, trafficFree_judgeTimers.transit, trafficFree_restarted.transit, delivered_eq]

end Sys2Proof.Machine

namespace Sys2Proof.Machine

/-! ### The timers of a robot judged against new timeouts (R81) -/

/-- The heartbeat timer of the entry has expired under the settings `g`. -/
def RobotEntry.unheard (e : RobotEntry) (g : RobotSettings) (now : Micros) : Bool :=
  e.state.heartbeatRuns && timerDue now e.heartbeatTimer (g.heartbeatTimeout * 1000)

/-- The pickup timer has expired in ORDERED. -/
def RobotEntry.notPicked (e : RobotEntry) (g : RobotSettings) (now : Micros) : Bool :=
  decide (e.state = .ordered) && timerDue now e.pickupTimer (g.pickupTimeout * 1000)

/-- The fill timer has expired in FILLING. -/
def RobotEntry.overfilled (e : RobotEntry) (g : RobotSettings) (now : Micros) : Bool :=
  decide (e.state = .filling) && timerDue now e.fillTimer (g.fillTimeout * 1000000)

/-- The entry after its timers are judged. -/
def RobotEntry.judged (e : RobotEntry) (g : RobotSettings) (now : Micros) : RobotEntry :=
  if e.unheard g now then e.entered now .silent none none
  else if e.notPicked g now then e.entered now .faulted none (some .noPickup)
  else if e.overfilled g now then e.entered now .faulted none (some .fillOvertime)
  else e

/-- From `s` to `t` the entry of robot r became `e`, and reports were raised. -/
structure RobotJudged (r : Robot) (e : RobotEntry) (s t : State) : Prop where
  frame : t = { s with
    robots := { s.robots with table := s.robots.table.set r e }
    staging := t.staging, writer := t.writer }
  joined : RecordsJoined s t

theorem enter_judged {r : Robot} {new : RobotState} {hold : Option HoldCause}
    {fault : Option FaultCause} {cause : RobotCause} {s : State} (hnew : new ≠ .ready) :
    RobotJudged r ((s.robot r).entered s.now new hold fault) s (enter r new hold fault cause s) := by
  have heq := changeRobot_eq r (RobotChange.enter r s.now new hold fault cause) s
  rw [enter_of_not_ready hnew] at heq
  refine ⟨heq.trans ?_, changeRobot_joined ..⟩
  simp only [RobotEntry.begin, List.append_nil]
  rfl

/-- A robot that has entered a state in which no timer runs is judged no further. -/
theorem RobotJudged.rests {r : Robot} {e : RobotEntry} {s t : State} (h : RobotJudged r e s t)
    (hst : e.state = .silent ∨ e.state = .faulted) : pickupDue t r = false ∧ fillDue t r = false := by
  have hrobot : t.robot r = e := by
    rw [h.frame]
    exact PerRobot.get_set_self ..
  unfold pickupDue fillDue
  rw [hrobot]
  rcases hst with hst | hst <;> rw [hst] <;> exact ⟨rfl, rfl⟩

theorem judgeRobot_judged (r : Robot) (s : State) :
    RobotJudged r ((s.robot r).judged s.robots.settings s.now) s (judgeRobot r s) := by
  have hpickup {u : State} (h : pickupDue u r = false) : pickupTimeoutEvent r u = u :=
    if_neg (Bool.eq_false_iff.1 h)
  have hfill {u : State} (h : fillDue u r = false) : fillTimeoutEvent r u = u :=
    if_neg (Bool.eq_false_iff.1 h)
  have hsilent : ((s.robot r).entered s.now .silent none none).state = .silent := rfl
  have hfaulted (f : Option FaultCause) : ((s.robot r).entered s.now .faulted none f).state = .faulted :=
    rfl
  unfold judgeRobot RobotEntry.judged
  by_cases hheard : heartbeatDue s r = true
  · have hmoved := enter_judged (r := r) (hold := none) (fault := none) (cause := .heartbeatLost)
      (s := s) (new := .silent) nofun
    obtain ⟨hnp, hnf⟩ := hmoved.rests (.inl hsilent)
    rw [heartbeatTimeoutEvent, if_pos hheard, hpickup hnp, hfill hnf,
      if_pos (show (s.robot r).unheard s.robots.settings s.now = true from hheard)]
    exact hmoved
  · rw [heartbeatTimeoutEvent, if_neg hheard,
      if_neg (show ¬(s.robot r).unheard s.robots.settings s.now = true from hheard)]
    by_cases hpick : pickupDue s r = true
    · have hmoved := enter_judged (r := r) (hold := none) (fault := some .noPickup) (cause := .noPickup)
        (s := s) (new := .faulted) nofun
      rw [pickupTimeoutEvent, if_pos hpick, hfill (hmoved.rests (.inr (hfaulted _))).2,
        if_pos (show (s.robot r).notPicked s.robots.settings s.now = true from hpick)]
      exact hmoved
    · rw [pickupTimeoutEvent, if_neg hpick,
        if_neg (show ¬(s.robot r).notPicked s.robots.settings s.now = true from hpick)]
      by_cases hover : fillDue s r = true
      · rw [fillTimeoutEvent, if_pos hover,
          if_pos (show (s.robot r).overfilled s.robots.settings s.now = true from hover)]
        exact enter_judged nofun
      · rw [fillTimeoutEvent, if_neg hover,
          if_neg (show ¬(s.robot r).overfilled s.robots.settings s.now = true from hover)]
        refine ⟨?_, .of_eq rfl rfl⟩
        rw [State.robot, PerRobot.set_get]

/-- From `s` to `t` the robots of `l` were judged, one after the other. -/
structure RobotsJudged (l : List Robot) (s t : State) : Prop where
  frame : t = { s with
    robots := { s.robots with table := t.robots.table }, staging := t.staging, writer := t.writer }
  judged : ∀ r, t.robot r =
    if r ∈ l then (s.robot r).judged s.robots.settings s.now else s.robot r
  joined : RecordsJoined s t

theorem foldl_judgeRobot {l : List Robot} (hl : l.Nodup) (s : State) :
    RobotsJudged l s (l.foldl (fun u r => judgeRobot r u) s) := by
  induction l generalizing s with
  | nil => exact ⟨rfl, fun r => by simp, .of_eq rfl rfl⟩
  | cons r l ih =>
    obtain ⟨hr, hl⟩ := List.nodup_cons.1 hl
    have hfirst := judgeRobot_judged r s
    rw [List.foldl_cons]
    generalize judgeRobot r s = u at *
    have hrest := ih hl u
    generalize l.foldl (fun u r => judgeRobot r u) u = t at *
    have hsame : u.robots.settings = s.robots.settings ∧ u.now = s.now := by
      rw [hfirst.frame]
      exact ⟨rfl, rfl⟩
    have hget (q : Robot) : u.robot q =
        if q = r then (s.robot q).judged s.robots.settings s.now else s.robot q := by
      rw [hfirst.frame]
      split_ifs with hq
      · subst hq
        exact PerRobot.get_set_self ..
      · exact PerRobot.get_set_of_ne _ _ _ _ hq
    refine ⟨?_, fun q => ?_, hfirst.joined.trans hrest.joined⟩
    · rw [hrest.frame, hfirst.frame]
    · rw [hrest.judged q, hget q, hsame.1, hsame.2]
      by_cases hq : q = r
      · subst hq
        simp [hr]
      · simp [hq]

theorem forRobots_judgeRobot (s : State) : RobotsJudged allRobots s (forRobots judgeRobot s) :=
  foldl_judgeRobot (by decide) s

/-- No timer of a robot has expired. -/
theorem judged_eq_self {e : RobotEntry} {g : RobotSettings} {now : Micros}
    (h : e.unheard g now = false ∧ e.notPicked g now = false ∧ e.overfilled g now = false) :
    e.judged g now = e := by
  obtain ⟨h1, h2, h3⟩ := h
  simp [RobotEntry.judged, h1, h2, h3]

theorem judgeRobot_nothing {r : Robot} {s : State} (h : (s.robot r).unheard s.robots.settings s.now =
      false ∧ (s.robot r).notPicked s.robots.settings s.now = false ∧
      (s.robot r).overfilled s.robots.settings s.now = false) : judgeRobot r s = s := by
  obtain ⟨h1, h2, h3⟩ := h
  have hheard : heartbeatTimeoutEvent r s = s := if_neg (Bool.eq_false_iff.1 h1)
  have hpicked : pickupTimeoutEvent r s = s := if_neg (Bool.eq_false_iff.1 h2)
  have hfilled : fillTimeoutEvent r s = s := if_neg (Bool.eq_false_iff.1 h3)
  rw [judgeRobot, hheard, hpicked, hfilled]

theorem forRobots_judgeRobot_nothing {s : State} (h : ∀ r,
      (s.robot r).unheard s.robots.settings s.now = false ∧
      (s.robot r).notPicked s.robots.settings s.now = false ∧
      (s.robot r).overfilled s.robots.settings s.now = false) : forRobots judgeRobot s = s := by
  have hnothing := fun r => judgeRobot_nothing (h r)
  simp only [forRobots, allRobots, List.foldl_cons, List.foldl_nil, hnothing]

/-! ### The clock's and the switch's timers at a load's end (R60, R67) -/

theorem holdoverLimitEvent_frame (s : State) : holdoverLimitEvent s = { s with
      clock := { s.clock with state := if s.clock.limitDue = true then .drifting else s.clock.state }
      staging := (holdoverLimitEvent s).staging, writer := (holdoverLimitEvent s).writer } ∧
    RecordsJoined s (holdoverLimitEvent s) := by
  unfold holdoverLimitEvent
  by_cases h : s.clock.limitDue = true
  · simp only [if_pos h]
    refine ⟨?_, RecordsJoined.trans
      (t := s.setClock { s.clock with state := .drifting }) (.of_eq rfl rfl) (raise_joined ..)⟩
    rw [raise_frame]
    rfl
  · simp only [if_neg h]
    exact ⟨trivial, .of_eq rfl rfl⟩

theorem switchTimeoutEvent_frame (s : State) : switchTimeoutEvent s = { s with
      switch := { s.switch with
        state := if switchTimeoutDue s = true then .silent else s.switch.state
        timer := if switchTimeoutDue s = true then none else s.switch.timer }
      mail := (switchTimeoutEvent s).mail
      staging := (switchTimeoutEvent s).staging, writer := (switchTimeoutEvent s).writer } ∧
    RecordsJoined s (switchTimeoutEvent s) ∧
    (switchTimeoutDue s = false → switchTimeoutEvent s = s) := by
  have hnot : switchTimeoutDue s = false → switchTimeoutEvent s = s := fun h =>
    if_neg (Bool.eq_false_iff.1 h)
  by_cases h : switchTimeoutDue s = true
  · have hsilent : switchTimeoutEvent s = becomeSilent s := if_pos h
    obtain ⟨hframe, hrep⟩ := becomeSilent_eq s
    simp only [if_pos h]
    refine ⟨?_, ?_, hnot⟩
    · rw [hsilent, hframe]
    · rw [hsilent]
      obtain ⟨hjoined, hwritten, htake⟩ := raise_joined
        (.switchState .alive .silent false s.switch.lastSequence s.switch.restarts) s
      obtain ⟨hstaging, hwriter⟩ := hrep
      change (becomeSilent s).staging = (raise _ s).staging at hstaging
      change (becomeSilent s).writer = (raise _ s).writer at hwriter
      exact ⟨by rw [hstaging]; exact hjoined, by rw [hwriter]; exact hwritten,
        by rw [hwriter]; exact htake⟩
  · have hf := hnot (eq_false_of_ne_true h)
    simp only [if_neg h]
    rw [hf]
    exact ⟨rfl, .of_eq rfl rfl, fun _ => rfl⟩

/-- The timers judged: the clock's state, the switch's, the robots'. -/
structure TimersJudged (s t : State) : Prop where
  frame : t = { s with
    clock := { s.clock with state := if s.clock.limitDue = true then .drifting else s.clock.state }
    switch := { s.switch with
      state := if switchTimeoutDue s = true then .silent else s.switch.state
      timer := if switchTimeoutDue s = true then none else s.switch.timer }
    robots := { s.robots with table := t.robots.table }
    mail := t.mail, staging := t.staging, writer := t.writer }
  judged : ∀ r, t.robots.table.get r = (s.robot r).judged s.robots.settings s.now
  joined : RecordsJoined s t
  mail : switchTimeoutDue s = false → t.mail = s.mail
  quiet : s.clock.limitDue = false → switchTimeoutDue s = false →
    (∀ r, (s.robot r).unheard s.robots.settings s.now = false ∧
      (s.robot r).notPicked s.robots.settings s.now = false ∧
      (s.robot r).overfilled s.robots.settings s.now = false) → t = s

theorem judgeTimers_judged (s : State) : TimersJudged s (judgeTimers s) := by
  obtain ⟨hclock, hjoined⟩ := holdoverLimitEvent_frame s
  have hstay : s.clock.limitDue = false → holdoverLimitEvent s = s := fun h =>
    if_neg (Bool.eq_false_iff.1 h)
  unfold judgeTimers
  generalize holdoverLimitEvent s = u at *
  have hdue : switchTimeoutDue u = switchTimeoutDue s := by rw [hclock]; rfl
  obtain ⟨hswitch, hjoined', hnot⟩ := switchTimeoutEvent_frame u
  rw [hdue] at hswitch hnot
  generalize switchTimeoutEvent u = v at *
  have hrobots := forRobots_judgeRobot v
  have hnothing := forRobots_judgeRobot_nothing (s := v)
  generalize forRobots judgeRobot v = t at *
  have hv : v.robots = s.robots ∧ v.now = s.now := by
    rw [hswitch, hclock]
    exact ⟨rfl, rfl⟩
  have hrobot (r : Robot) : v.robot r = s.robot r := by rw [State.robot, hv.1]; rfl
  refine ⟨?_, fun r => ?_, (hjoined.trans hjoined').trans hrobots.joined, fun h => ?_,
    fun h1 h2 h3 => ?_⟩
  · rw [hrobots.frame, hswitch, hclock]
  · have hmem : r ∈ allRobots := mem_allRobots r
    have hr := hrobots.judged r
    rw [if_pos hmem, hrobot, hv.1, hv.2] at hr
    exact hr
  · rw [hrobots.frame, hnot h, hclock]
  · have hvs : v = s := by rw [hnot h2, hstay h1]
    rw [hnothing (by rw [hvs]; exact h3), hvs]

end Sys2Proof.Machine

namespace Sys2Proof.Machine

theorem exec_loadEnd {pass : Bool} {store : Option Store} (hwf : storeWf store = true) (s : State) :
    exec (.loadEnd pass store) s = finishLanes (loadEndEvent pass store s) := if_pos hwf

theorem loaded_loader (kind : LoadKind) (pass : Bool) (store : Option Store) (s : State) :
    (s.loaded kind pass store).loader = s.loader.ended kind pass (judgeLoad pass store) := by
  rw [State.loaded, (judgeTimers_judged _).frame, restarted_frame, delivered_eq]

/-- The end of a load with no request HELD. -/
theorem loadEnd_ends {kind : LoadKind} {pass : Bool} {store : Option Store} {s : State}
    (hwf : storeWf store = true) (hload : s.loader.load = some kind) (hheld : s.noneHeld)
    (hl : s.lanesTaken) :
    exec (.loadEnd pass store) s = .next (arbitrate (s.loaded kind pass store)) := by
  have htransit := loaded_transit kind pass store s
  rw [exec_loadEnd hwf, loadEndEvent_eq hload,
    reexamineAll_noneHeld ((noneHeld_congr htransit).2 hheld),
    finishLanes_of_taken ((lanesTaken_congr htransit).2 hl)]
  rfl

theorem judgeLoad_condition_eq (pass : Bool) (store : Option Store) :
    (judgeLoad pass store).condition =
      if storeGood store = true ∧ pass = true then .running else .safe := by
  unfold judgeLoad
  cases pass <;> cases storeGood store <;> rfl

/-- Settles O51: a barred and an accepted RELOAD, and the ends of a load. -/
theorem reloadIsBarredOrResetsTheBlocks : Obligations.ReloadIsBarredOrResetsTheBlocks := by
  refine ⟨fun n rest s htakes hl => ?_, fun pass store s hwf => ?_⟩
  · intro barred
    have hexec (u : State) : exec (.reload n rest) u =
        finishLanes (issueReload (reexamineAll issueWithin) n rest u) := rfl
    refine ⟨fun hbarred => ?_, fun hfree hheld => ?_⟩
    · have hreload := issueReload_barred (reexamineAll issueWithin) n rest
        ((reloadBarred_iff s).2 hbarred)
      have htransit : (issueCommand n (opcodeWord 0x60 rest) (fun u => refuse u .refusedState)
          s).transit = s.transit :=
        (issueCommand_keeps n _ (run := fun u => refuse u .refusedState) (fun u => .refl u) s).transit
      rw [hexec, hreload, finishLanes_of_taken ((lanesTaken_congr htransit).2 hl)]
      exact refused_ends htakes rfl
    · have hbarred : reloadBarred s = false :=
        eq_false_of_ne_true fun h => hfree ((reloadBarred_iff s).1 h)
      have hv := reloaded_eq s n rest
      have htransit : (s.reloaded n rest).transit = s.transit := by rw [hv]
      have hnone : (s.reloaded n rest).noneHeld := (noneHeld_congr htransit).2 hheld
      have htaken : (s.reloaded n rest).lanesTaken := (lanesTaken_congr htransit).2 hl
      have hload : (s.reloaded n rest).loader.load.isSome = true := by rw [hv]; rfl
      have hend : exec (.reload n rest) s = .next (arbitrate (s.reloaded n rest)) := by
        rw [hexec, issueReload_accepted _ htakes hbarred, reexamineAll_noneHeld hnone,
          finishLanes_of_taken htaken]
        rfl
      refine ⟨_, hend, ?_, ?_, ?_, reexaminesHeld_of issueWithin_quiet hnone htaken htransit rfl hend
        (fun m r => ?_) fun m r => examine_busy m r hload⟩
      · rw [Arbitrated, arbitrate, State.setTransit_transit, htransit]
        rfl
      · refine ⟨?_, ?_, ?_⟩
        all_goals
          unfold State.reloaded
          rw [reloadResets_eq]
          rfl
      · rw [arbitrate_frame, hv]
        rfl
      · rw [hexec, issueReload_accepted _ (s := setMasterPort m (.held r) s) htakes hbarred,
          reloaded_setMasterPort]
  · refine ⟨_, exec_loadEnd hwf s, fun hload hl => ?_, fun hload hl hheld => ?_⟩
    · have hsame : loadEndEvent pass store s = s := by rw [loadEndEvent, hload]
      rw [hsame, serveLanes_of_taken s hl]
      exact ⟨rfl, rfl⟩
    · obtain ⟨kind, hkind⟩ := Option.ne_none_iff_exists'.1 hload
      have htransit := loaded_transit kind pass store s
      have hloader := loaded_loader kind pass store s
      rw [loadEndEvent_eq hkind, reexamineAll_noneHeld ((noneHeld_congr htransit).2 hheld),
        serveLanes_of_taken _ ((lanesTaken_congr htransit).2 hl), arbitrate_frame, hloader]
      exact ⟨rfl, rfl, judgeLoad_condition_eq pass store⟩

end Sys2Proof.Machine

namespace Sys2Proof.Machine

/-! ### The region group as loaded (R28) -/

/-- The code of a kind (spec/11 section 11.9). -/
def RegionKind.code : RegionKind → BitVec 4
  | .plain => 1
  | .stamped => 2
  | .orders => 3
  | .status => 4
  | .verdicts => 5
  | .ports => 6
  | .control => 7
  | .reports => 8

theorem RegionKind.ofCode?_eq_some_iff {c : BitVec 4} {k : RegionKind} :
    RegionKind.ofCode? c = some k ↔ c = k.code := by
  revert c
  cases k <;> decide

theorem RegionKind.ofCode?_eq_none_iff {c : BitVec 4} :
    RegionKind.ofCode? c = none ↔ c.toNat = 0 ∨ 8 < c.toNat := by
  revert c
  decide

theorem RegionKind.single_iff_code (k : RegionKind) : k.single = true ↔ 3 ≤ k.code.toNat := by
  cases k <;> decide

theorem RegionKind.sizeOk_iff (k : RegionKind) (size : Nat) : k.sizeOk size = true ↔
    ¬ ((k.code.toNat ∈ [3, 4, 6, 8] ∧ size < 256) ∨ (k.code.toNat = 7 ∧ size ≠ 256)) := by
  cases k <;> simp [RegionKind.sizeOk, RegionKind.code]

/-- An entry breaks R28 against the entries of lower index loaded enabled. -/
def RegionEntry.breaks (e : RegionEntry) (lower : RegionEntry → Prop) : Prop :=
  16777216 < e.base + e.size ∨ e.size = 0 ∨ e.kindCode.toNat = 0 ∨ 8 < e.kindCode.toNat ∨
    e.weight = 0 ∨ 4 < e.weight ∨
    (∃ y a, lower y ∧ (e.base ≤ a ∧ a < e.base + e.size) ∧ (y.base ≤ a ∧ a < y.base + y.size)) ∨
    (3 ≤ e.kindCode.toNat ∧ ∃ y, lower y ∧ y.kindCode = e.kindCode) ∨
    (e.kindCode.toNat ∈ [3, 4, 6, 8] ∧ e.size < 256) ∨ (e.kindCode.toNat = 7 ∧ e.size ≠ 256)

/-- Two entries that are not empty overlap where they share a word. -/
theorem overlaps_iff_shares {a b : RegionEntry} (ha : 0 < a.size) (hb : 0 < b.size) :
    a.overlaps b = true ↔
      ∃ x, (b.base ≤ x ∧ x < b.base + b.size) ∧ (a.base ≤ x ∧ x < a.base + a.size) := by
  rw [RegionEntry.overlaps, decide_eq_true_eq]
  refine ⟨fun h => ⟨max a.base b.base, by omega⟩, ?_⟩
  rintro ⟨x, hx⟩
  omega

theorem valid_iff {e : RegionEntry} {lower : List RegionEntry} (hlower : ∀ o ∈ lower, o.sound) :
    e.valid lower = true ↔ ¬ e.breaks fun y => y ∈ lower ∧ y.enabled = true := by
  unfold RegionEntry.valid
  cases hkind : RegionKind.ofCode? e.kindCode with
  | none =>
    refine iff_of_false (by simp) (not_not_intro ?_)
    rcases RegionKind.ofCode?_eq_none_iff.1 hkind with h | h
    · exact .inr (.inr (.inl h))
    · exact .inr (.inr (.inr (.inl h)))
  | some k =>
    have hcode := RegionKind.ofCode?_eq_some_iff.1 hkind
    have hknown : ¬ (e.kindCode.toNat = 0 ∨ 8 < e.kindCode.toNat) := fun h => by
      rw [RegionKind.ofCode?_eq_none_iff.2 h] at hkind
      cases hkind
    have hother {o : RegionEntry} : (o ∈ lower ∧ o.enabled = true) → 0 < e.size →
        (o.overlaps e = true ↔ ∃ a, (e.base ≤ a ∧ a < e.base + e.size) ∧
          (o.base ≤ a ∧ a < o.base + o.size)) := fun ho he => by
      obtain ⟨-, -, -, hsize, -⟩ := hlower o ho.1 ho.2
      exact overlaps_iff_shares hsize he
    have hapart : 0 < e.size → ((lower.all fun o => !o.enabled ||
          (!o.overlaps e && !(k.single && decide (RegionKind.ofCode? o.kindCode = some k)))) = true ↔
        ¬ ((∃ y a, (y ∈ lower ∧ y.enabled = true) ∧ (e.base ≤ a ∧ a < e.base + e.size) ∧
            (y.base ≤ a ∧ a < y.base + y.size)) ∨
          (3 ≤ e.kindCode.toNat ∧ ∃ y, (y ∈ lower ∧ y.enabled = true) ∧ y.kindCode = e.kindCode))) := by
      intro he
      rw [List.all_eq_true]
      constructor
      · rintro hall (⟨y, a, hy, ha⟩ | ⟨hsingle, y, hy, hsame⟩)
        · have hover := (hother hy he).2 ⟨a, ha⟩
          simpa [hy.2, hover] using hall y hy.1
        · have hk : k.single = true := k.single_iff_code.2 (hcode ▸ hsingle)
          have hyk : RegionKind.ofCode? y.kindCode = some k := by rw [hsame, hkind]
          simpa [hy.2, hk, hyk] using hall y hy.1
      · intro hno o ho
        by_cases hon : o.enabled = true
        · have hfree : o.overlaps e = false := eq_false_of_ne_true fun h => by
            obtain ⟨a, ha⟩ := (hother ⟨ho, hon⟩ he).1 h
            exact hno (.inl ⟨o, a, ⟨ho, hon⟩, ha⟩)
          have hdiffers : ¬ (k.single = true ∧ RegionKind.ofCode? o.kindCode = some k) := fun h =>
            hno (.inr ⟨hcode ▸ k.single_iff_code.1 h.1, o, ⟨ho, hon⟩, by
              rw [RegionKind.ofCode?_eq_some_iff.1 h.2, hcode]⟩)
          have hdistinct :
              (k.single && decide (RegionKind.ofCode? o.kindCode = some k)) = false := by
            rw [Bool.and_eq_false_iff, decide_eq_false_iff_not]
            exact (not_and_or.1 hdiffers).imp_left eq_false_of_ne_true
          rw [hfree, hdistinct]
          simp
        · simp [hon]
    have hsizes := k.sizeOk_iff e.size
    rw [← hcode] at hsizes
    rw [Bool.and_eq_true, Bool.and_eq_true, decide_eq_true_eq, hsizes, RegionEntry.breaks]
    by_cases he : 0 < e.size
    · rw [hapart he]
      generalize (∃ y a, (y ∈ lower ∧ y.enabled = true) ∧ (e.base ≤ a ∧ a < e.base + e.size) ∧
        (y.base ≤ a ∧ a < y.base + y.size)) = shared
      generalize (∃ y, (y ∈ lower ∧ y.enabled = true) ∧ y.kindCode = e.kindCode) = twin
      generalize (e.kindCode.toNat ∈ [3, 4, 6, 8]) = bounded
      rw [not_or] at hknown
      obtain ⟨hnonzero, hbelow⟩ := hknown
      simp only [not_or]
      constructor
      · rintro ⟨⟨⟨hsize, hinside, hlow, hhigh⟩, hbound, hcontrol⟩, hshared, htwin⟩
        exact ⟨by omega, hsize, hnonzero, hbelow, by omega, by omega, hshared, htwin, hbound, hcontrol⟩
      · rintro ⟨hinside, hsize, -, -, hlow, hhigh, hshared, htwin, hbound, hcontrol⟩
        exact ⟨⟨⟨hsize, by omega, by omega, by omega⟩, hbound, hcontrol⟩, hshared, htwin⟩
    · have hzero : e.size = 0 := by omega
      exact iff_of_false (fun h => h.1.1.1 hzero) (not_not_intro (.inr (.inl hzero)))

theorem loadEntries_append (stored : List RegionEntry) (e : RegionEntry) :
    loadEntries (stored ++ [e]) = loadEntries stored ++ [loadEntry (loadEntries stored) e] := by
  rw [loadEntries, List.foldl_append]
  rfl

/-- Entry i as loaded: the stored one judged against the entries loaded before it. -/
theorem loadEntries_getElem? {stored : List RegionEntry} {i : Nat} {e : RegionEntry}
    (h : stored[i]? = some e) :
    (loadEntries stored)[i]? = some (loadEntry ((loadEntries stored).take i) e) := by
  induction stored using List.reverseRecOn with
  | nil => cases h
  | append_singleton stored last ih =>
    have hlen := (loadEntries_ok stored).2
    obtain ⟨hi, -⟩ := List.getElem?_eq_some_iff.1 h
    rw [List.length_append, List.length_singleton] at hi
    rw [loadEntries_append, List.take_append_of_le_length (by omega)]
    by_cases hlast : i = stored.length
    · subst hlast
      rw [List.getElem?_append_right (Nat.le_refl _), Nat.sub_self] at h
      cases h
      rw [← hlen, List.getElem?_append_right (Nat.le_refl _), Nat.sub_self, List.take_length]
      rfl
    · rw [List.getElem?_append_left (by omega)] at h
      rw [List.getElem?_append_left (by omega)]
      exact ih h

theorem loadEntry_eq (lower : List RegionEntry) (e : RegionEntry) :
    loadEntry lower e = { e with enabled := e.enabled && e.valid lower } := by
  unfold loadEntry
  by_cases hv : e.valid lower = true
  · simp [hv]
  · by_cases he : e.enabled = true
    · simp [hv, he]
    · rw [eq_false_of_ne_true he]
      simp [← eq_false_of_ne_true he]

/-- The region entries as a load's end leaves them, before LINE's rights are settled. -/
def loadedEntries (ws : Store) : List RegionEntry := loadEntries ((List.range 16).map (storedEntry ws))

theorem storedEntries_getElem? (ws : Store) {i : Nat} (hi : i < 16) :
    ((List.range 16).map (storedEntry ws))[i]? = some (storedEntry ws i) := by
  rw [List.getElem?_map, List.getElem?_range hi]
  rfl

theorem loadedEntries_getElem? (ws : Store) {i : Nat} (hi : i < 16) :
    (loadedEntries ws)[i]? = some { storedEntry ws i with
      enabled := (storedEntry ws i).enabled &&
        (storedEntry ws i).valid ((loadedEntries ws).take i) } := by
  rw [loadedEntries, loadEntries_getElem? (storedEntries_getElem? ws hi), loadEntry_eq]

theorem loadedEntries_length (ws : Store) : (loadedEntries ws).length = 16 := by
  rw [loadedEntries, (loadEntries_ok _).2, List.length_map, List.length_range]

theorem mem_take_iff {α : Type} {l : List α} {i : Nat} {x : α} :
    x ∈ l.take i ↔ ∃ j, j < i ∧ l[j]? = some x := by
  rw [List.mem_iff_getElem?]
  simp only [List.getElem?_take, Option.ite_none_right_eq_some]

/-- R28 of the store's region group. -/
theorem regionsLoaded (ws : Store) : RegionsLoaded ws (loadedEntries ws) := by
  refine ⟨loadedEntries_length ws, fun i hi => ⟨_, loadedEntries_getElem? ws hi, ?_⟩⟩
  intro w code lower
  have hlower : lower = fun y => y ∈ (loadedEntries ws).take i ∧ y.enabled = true := by
    funext y
    rw [mem_take_iff]
  have hvalid := valid_iff (e := storedEntry ws i) (lower := (loadedEntries ws).take i)
    fun o ho => (loadEntries_ok _).1.1 o (List.mem_of_mem_take ho)
  refine ⟨?_, ?_⟩
  · simp only [storedEntry, Nat.mul_comm _ 256]
    rfl
  · rw [Bool.and_eq_true, hvalid, ← hlower]
    exact .rfl

end Sys2Proof.Machine

namespace Sys2Proof.Machine

/-! ### The region group as settled (R29) -/

theorem settleControl_of_controls {e : RegionEntry} (h : e.enabled = true ∧ e.kindCode = 7) :
    settleControl e = { e with readRights := e.readRights ||| 0b00001, writeRights := 0b00001 } :=
  if_pos (by rw [h.1, h.2]; rfl)

theorem settleControl_of_not {e : RegionEntry} (h : ¬ (e.enabled = true ∧ e.kindCode = 7)) :
    settleControl e = e :=
  if_neg fun hc => by
    rw [Bool.and_eq_true, decide_eq_true_eq, RegionKind.ofCode?_eq_some_iff] at hc
    exact h hc

theorem settleControl_ite (e : RegionEntry) : settleControl e =
    if e.enabled = true ∧ e.kindCode = 7 then
      { e with readRights := e.readRights ||| 0b00001, writeRights := 0b00001 }
    else e := by
  split_ifs with h
  · exact settleControl_of_controls h
  · exact settleControl_of_not h

theorem or_one_eq_self_iff (x : BitVec 5) : x ||| 0b00001 = x ↔ x.getLsbD 0 = true := by
  revert x
  decide

/-- LINE's rights change a CONTROL entry that lacks them. -/
theorem settleControl_ne_self_iff (e : RegionEntry) : settleControl e ≠ e ↔
    e.enabled = true ∧ e.kindCode = 7 ∧
      (e.readRights.getLsbD 0 = false ∨ e.writeRights ≠ 0b00001) := by
  rw [← and_assoc]
  by_cases h : e.enabled = true ∧ e.kindCode = 7
  · rw [settleControl_of_controls h, Bool.eq_false_iff, Ne, Ne, ← or_one_eq_self_iff, ← not_and_or,
      and_iff_right h, not_iff_not]
    obtain ⟨enabled, base, size, code, read, write, weight⟩ := e
    simp only [RegionEntry.mk.injEq, true_and, and_true, eq_comm (a := (1 : BitVec 5))]
  · rw [settleControl_of_not h]
    exact iff_of_false (fun hne => hne rfl) fun hc => h hc.1

/-- A loaded entry as settled differs from the stored one. -/
theorem settleControl_ne_stored_iff {e stored : RegionEntry} {ok : Bool}
    (he : e = { stored with enabled := stored.enabled && ok }) : settleControl e ≠ stored ↔
      (e.enabled = false ∧ stored.enabled = true) ∨
      (e.enabled = true ∧ e.kindCode = 7 ∧
        (e.readRights.getLsbD 0 = false ∨ e.writeRights ≠ 0b00001)) := by
  by_cases hon : e.enabled = true
  · have hsame : e = stored := by
      have hand : (stored.enabled && ok) = true := by rw [← hon, he]
      rw [he, hand, ← (Bool.and_eq_true_iff.1 hand).1]
    rw [← hsame, settleControl_ne_self_iff]
    simp [hon]
  · have hoff : e.enabled = false := eq_false_of_ne_true hon
    rw [settleControl_of_not fun hc => hon hc.1]
    simp only [hoff, true_and, Bool.false_eq_true, false_and, or_false]
    constructor
    · intro hne
      refine (Bool.eq_false_or_eq_true _).resolve_right fun hs => hne ?_
      rw [he, hs, Bool.false_and, ← hs]
    · intro hs heq
      rw [heq, hs] at hoff
      cases hoff

/-- The loaded entries hold an enabled CONTROL and an enabled REPORTS entry. -/
def RegionsWhole (es : List RegionEntry) : Prop :=
  ∀ code ∈ ([7, 8] : List (BitVec 4)), ∃ e ∈ es, e.enabled = true ∧ e.kindCode = code

theorem entryOf_isSome_iff (mp : RegionMap) (k : RegionKind) : (mp.entryOf k).isSome = true ↔
    ∃ e ∈ mp.entries, e.enabled = true ∧ e.kindCode = k.code := by
  rw [RegionMap.entryOf, List.find?_isSome]
  simp only [Bool.and_eq_true, decide_eq_true_eq, RegionKind.ofCode?_eq_some_iff]

theorem regionsWhole_iff (es : List RegionEntry) (open' : RightsPair) : RegionsWhole es ↔
    ((RegionMap.entryOf { entries := es, openSpace := open' } .control).isSome &&
      (RegionMap.entryOf { entries := es, openSpace := open' } .reports).isSome) = true := by
  rw [Bool.and_eq_true, entryOf_isSome_iff, entryOf_isSome_iff]
  simp only [RegionsWhole, List.forall_mem_cons, List.not_mem_nil, false_imp_iff, forall_const, and_true]
  exact .rfl

theorem loadRegions_whole {ws : Store} (h : RegionsWhole (loadedEntries ws)) : loadRegions ws =
    ((loadedEntries ws).map settleControl,
      decide ((loadedEntries ws).map settleControl ≠ (List.range 16).map (storedEntry ws))) := by
  rw [loadRegions, validateEntries]
  exact if_pos ((regionsWhole_iff _ _).1 h)

theorem loadRegions_broken {ws : Store} (h : ¬ RegionsWhole (loadedEntries ws)) :
    loadRegions ws = (RegionMap.anchor.entries, true) := by
  rw [loadRegions, validateEntries]
  exact if_neg fun hc => h ((regionsWhole_iff _ _).2 hc)

/-- Region entry i was stored enabled and loaded disabled, or had LINE's rights settled. -/
def EntrySettled (ws : Store) (i : Nat) (e : RegionEntry) : Prop :=
  (e.enabled = false ∧ (storeWord ws (64 + 4 * i)).getLsbD 15 = true) ∨
    (e.enabled = true ∧ e.kindCode = 7 ∧
      (e.readRights.getLsbD 0 = false ∨ e.writeRights ≠ 0b00001))

theorem loadedEntries_settled_iff (ws : Store) :
    (loadedEntries ws).map settleControl ≠ (List.range 16).map (storedEntry ws) ↔
      ∃ i e, (loadedEntries ws)[i]? = some e ∧ EntrySettled ws i e := by
  have hentry {i : Nat} {e : RegionEntry} (hi : i < 16) (he : (loadedEntries ws)[i]? = some e) :
      settleControl e ≠ storedEntry ws i ↔ EntrySettled ws i e := by
    have hstored := he.symm.trans (loadedEntries_getElem? ws hi)
    exact settleControl_ne_stored_iff (Option.some.inj hstored)
  constructor
  · intro hne
    by_contra hnone
    refine hne (List.ext_getElem? fun i => ?_)
    by_cases hi : i < 16
    · have he := loadedEntries_getElem? ws hi
      rw [List.getElem?_map, he, storedEntries_getElem? ws hi, Option.map_some, Option.some.injEq]
      exact not_not.1 fun hdiffers => hnone ⟨i, _, he, (hentry hi he).1 hdiffers⟩
    · rw [List.getElem?_eq_none (by rw [List.length_map, loadedEntries_length]; omega),
        List.getElem?_eq_none (by rw [List.length_map, List.length_range]; omega)]
  · rintro ⟨i, e, he, hsettled⟩ heq
    have hi : i < 16 := by
      obtain ⟨hi, -⟩ := List.getElem?_eq_some_iff.1 he
      rwa [loadedEntries_length] at hi
    have hsame := congrArg (·[i]?) heq
    simp only [List.getElem?_map, he, List.getElem?_range hi, Option.map_some,
      Option.some.injEq] at hsame
    exact (hentry hi he).2 hsettled hsame

/-- A value of the region group was settled. -/
theorem loadRegions_settled_iff (ws : Store) : (loadRegions ws).2 = true ↔
    ¬ RegionsWhole (loadedEntries ws) ∨
      ∃ i e, (loadedEntries ws)[i]? = some e ∧ EntrySettled ws i e := by
  by_cases hwhole : RegionsWhole (loadedEntries ws)
  · rw [loadRegions_whole hwhole, decide_eq_true_eq, loadedEntries_settled_iff,
      or_iff_right (not_not_intro hwhole)]
  · rw [loadRegions_broken hwhole]
    exact iff_of_true rfl (.inl hwhole)

end Sys2Proof.Machine

namespace Sys2Proof.Machine

/-! ### The groups that a load's end applies (R166, R167) -/

/-- The store is good and the self-check passed. -/
def StoreTaken (pass : Bool) (store : Option Store) : Prop := storeGood store = true ∧ pass = true

/-- Group g is coded 01. -/
def GroupCoded (ws : Store) (g : Nat) : Prop := storeBits ws 3 (2 * g) 2 = 1

/-- The last word of group g of the store (spec/11 section 11.9). -/
def lastWord (g : Nat) : Nat := [127, 4, 14, 22, 24, 35, 36, 37].getD g 0

/-- A load's end applies group g. -/
def GroupTaken (pass : Bool) (store : Option Store) (g : Nat) : Prop :=
  StoreTaken pass store ∧ GroupCoded (store.getD []) g ∧
    lastWord g < storeLength (store.getD []) - 1

theorem lastWord_eq {g : Nat} (hg : g < 8) : lastWord g = groupEnd g := by
  interval_cases g <;> rfl

theorem acceptCode_eq_one_iff (ws : Store) (g : Nat) : acceptCode ws g = 1 ↔ GroupCoded ws g :=
  BitVec.toNat_inj.symm

theorem groupApplied_iff {g : Nat} (hg : g < 8) (ws : Store) : groupApplied ws g = true ↔
    GroupCoded ws g ∧ lastWord g < storeLength ws - 1 := by
  rw [groupApplied, groupFits, Bool.and_eq_true, decide_eq_true_eq, decide_eq_true_eq,
    acceptCode_eq_one_iff, lastWord_eq hg]
  exact and_congr_right fun _ => by omega

theorem groupOverlong_iff {g : Nat} (hg : g < 8) (ws : Store) : groupOverlong ws g = true ↔
    GroupCoded ws g ∧ storeLength ws - 1 ≤ lastWord g := by
  rw [groupOverlong, groupFits, Bool.and_eq_true, Bool.not_eq_true', decide_eq_true_eq,
    decide_eq_false_iff_not, acceptCode_eq_one_iff, lastWord_eq hg]
  exact and_congr_right fun _ => by omega

theorem groupTaken_iff {g : Nat} (hg : g < 8) (pass : Bool) (store : Option Store) :
    GroupTaken pass store g ↔ StoreTaken pass store ∧ groupApplied (store.getD []) g = true := by
  rw [groupApplied_iff hg]
  exact .rfl

theorem storeTaken_iff (pass : Bool) (store : Option Store) :
    (pass && storeGood store) = true ↔ StoreTaken pass store := by
  rw [Bool.and_eq_true]
  exact and_comm

theorem judgeLoad_delivery_taken {pass : Bool} {store : Option Store} (h : StoreTaken pass store) :
    (judgeLoad pass store).delivery = .ofStore (store.getD []) :=
  if_pos ((storeTaken_iff _ _).2 h)

theorem judgeLoad_delivery_anchor {pass : Bool} {store : Option Store} (h : ¬ StoreTaken pass store) :
    (judgeLoad pass store).delivery = .anchor :=
  if_neg fun hc => h ((storeTaken_iff _ _).1 hc)

/-- What a load delivers of group g: its values where it is applied. -/
theorem delivered_of_taken {α : Type} {π : Delivery → α} {g : Nat} {v : α} {pass : Bool}
    {store : Option Store} (hπ : π (.ofStore (store.getD [])) = groupOr (store.getD []) g v (π .anchor))
    (hg : g < 8) (h : GroupTaken pass store g) : π (judgeLoad pass store).delivery = v := by
  obtain ⟨htaken, happlied⟩ := (groupTaken_iff hg _ _).1 h
  rw [judgeLoad_delivery_taken htaken, hπ, groupOr, if_pos happlied]

/-- What a load delivers of group g: the default where the group is not applied. -/
theorem delivered_of_not_taken {α : Type} {π : Delivery → α} {g : Nat} {v : α} {pass : Bool}
    {store : Option Store} (hπ : π (.ofStore (store.getD [])) = groupOr (store.getD []) g v (π .anchor))
    (hg : g < 8) (h : ¬ GroupTaken pass store g) : π (judgeLoad pass store).delivery = π .anchor := by
  by_cases htaken : StoreTaken pass store
  · rw [judgeLoad_delivery_taken htaken, hπ, groupOr,
      if_neg fun happlied => h ((groupTaken_iff hg _ _).2 ⟨htaken, happlied⟩)]
  · rw [judgeLoad_delivery_anchor htaken]

/-! ### The codes shown (R167) -/

theorem hiddenCode_ne_one (g : Nat) : hiddenCode g ≠ 1 := by
  unfold hiddenCode
  split_ifs with h
  · decide
  · exact h

theorem shownCode_eq_one_iff (running : Bool) (store : Option Store) (g : Nat) :
    shownCode running store g = 1 ↔
      storeGood store = true ∧ running = true ∧ groupApplied (store.getD []) g = true := by
  cases store with
  | none => exact iff_of_false (hiddenCode_ne_one g) nofun
  | some ws =>
    unfold shownCode
    dsimp only
    split_ifs with hbad hshown hcoded
    · exact iff_of_false (hiddenCode_ne_one g) fun h => by simp [hbad] at h
    · exact iff_of_true rfl ⟨by simpa using hbad, Bool.and_eq_true_iff.1 hshown⟩
    · exact iff_of_false (hiddenCode_ne_one g) fun h => hshown (Bool.and_eq_true_iff.2 h.2)
    · exact iff_of_false hcoded fun h => hshown (Bool.and_eq_true_iff.2 h.2)

theorem judgeLoad_codes {g : Nat} (hg : g < 8) (pass : Bool) (store : Option Store) :
    (judgeLoad pass store).codes[g]? = some 1 ↔ GroupTaken pass store g := by
  have hget : (judgeLoad pass store).codes[g]? =
      some (shownCode (pass && storeGood store) store g) := by
    unfold judgeLoad
    rw [List.getElem?_map, List.getElem?_range hg]
    rfl
  rw [hget, Option.some.injEq, shownCode_eq_one_iff, storeTaken_iff, groupTaken_iff hg]
  exact ⟨fun h => h.2, fun h => ⟨h.1.1, h⟩⟩

/-! ### ADJUSTED (R167) -/

theorem groupOr_false_iff (ws : Store) (g : Nat) (b : Bool) :
    groupOr ws g b false = true ↔ groupApplied ws g = true ∧ b = true := by
  rw [groupOr, Bool.ite_eq_true_distrib]
  simp

theorem overlongGroup_iff (ws : Store) : overlongGroup ws = true ↔
    ∃ g, g < 8 ∧ GroupCoded ws g ∧ storeLength ws - 1 ≤ lastWord g := by
  rw [overlongGroup, List.any_eq_true]
  refine exists_congr fun g => ?_
  rw [List.mem_range]
  exact and_congr_right fun hg => groupOverlong_iff hg ws

theorem judgeLoad_adjusted (pass : Bool) (store : Option Store) :
    (judgeLoad pass store).adjusted = true ↔ storeGood store = true ∧
      ((∃ g, g < 8 ∧ GroupCoded (store.getD []) g ∧
          storeLength (store.getD []) - 1 ≤ lastWord g) ∨
        (GroupTaken pass store 0 ∧ (loadRegions (store.getD [])).2 = true) ∨
        (GroupTaken pass store 2 ∧ (loadPaces (store.getD [])).2 = true) ∨
        (GroupTaken pass store 3 ∧ (loadRobots (store.getD [])).2 = true) ∨
        (GroupTaken pass store 4 ∧ (loadCams (store.getD [])).2 = true) ∨
        (GroupTaken pass store 5 ∧ (loadSwitch (store.getD [])).2 = true) ∨
        (GroupTaken pass store 6 ∧ (loadHoldover (store.getD [])).2 = true) ∨
        (GroupTaken pass store 7 ∧ (loadDuration (store.getD [])).2 = true)) := by
  have hadjusted : (judgeLoad pass store).adjusted =
      (storeGood store && (overlongGroup (store.getD []) || (pass && settledGroup (store.getD [])))) :=
    rfl
  rw [hadjusted, Bool.and_eq_true, Bool.or_eq_true, overlongGroup_iff, Bool.and_eq_true]
  refine and_congr_right fun hgood => or_congr .rfl ?_
  have htaken {g : Nat} (hg : g < 8) (b : Bool) : (GroupTaken pass store g ∧ b = true) ↔
      (pass = true ∧ groupOr (store.getD []) g b false = true) := by
    rw [groupTaken_iff hg, groupOr_false_iff, ← and_assoc]
    exact and_congr (and_congr ⟨fun h => h.2, fun h => ⟨hgood, h⟩⟩ .rfl) .rfl
  simp only [settledGroup, Bool.or_eq_true, htaken (show 0 < 8 by decide),
    htaken (show 2 < 8 by decide), htaken (show 3 < 8 by decide), htaken (show 4 < 8 by decide),
    htaken (show 5 < 8 by decide), htaken (show 6 < 8 by decide), htaken (show 7 < 8 by decide),
    ← and_or_left, or_assoc]

end Sys2Proof.Machine

namespace Sys2Proof.Machine

/-! ### The groups' values, and which of them a load settles (R45, R60, R67, R81, R117, R156) -/

/-- A number lies outside its range. -/
def Outside (x lo hi : Nat) : Prop := x < lo ∨ hi < x

theorem clampNat_ne_iff {x lo hi : Nat} (h : lo ≤ hi) : clampNat x lo hi ≠ x ↔ Outside x lo hi := by
  rw [clampNat, Outside]
  omega

/-- A whole word as a number. -/
theorem storeBits_whole (ws : Store) (i : Nat) : storeBits ws i 0 16 = (storeWord ws i).toNat := by
  rw [storeBits, BitVec.extractLsb'_eq_self]

theorem storedPaces_get (ws : Store) (m : Master) : (storedPaces ws).get m = storedPace ws m.num := by
  cases m <;> rfl

theorem PerMaster.ext_get {α : Type} {t u : PerMaster α} (h : ∀ m, t.get m = u.get m) : t = u := by
  obtain ⟨a, b, c, d, e⟩ := t
  obtain ⟨a', b', c', d', e'⟩ := u
  have h0 : a = a' := h .line
  have h1 : b = b' := h .switch
  have h2 : c = c' := h .camera
  have h3 : d = d' := h .robotlink
  have h4 : e = e' := h .service
  rw [h0, h1, h2, h3, h4]

/-- The setting that a load gives master `m`. -/
theorem loadPaces_get (ws : Store) (m : Master) : (loadPaces ws).1.get m =
    { paced := (storeWord ws (5 + 2 * m.num)).getLsbD 15
      a := storeBits ws (5 + 2 * m.num) 8 3, b := storeBits ws (5 + 2 * m.num) 11 3
      q := max 1 (min (storeBits ws (5 + 2 * m.num) 0 7) 64)
      k := max 1 (min (storeBits ws (6 + 2 * m.num) 0 16) 1024) } := by
  rw [loadPaces, PerMaster.get_map, storedPaces_get, storeBits_whole]
  rfl

theorem clamp_ne_iff (p : PaceSetting) : p.clamp ≠ p ↔ Outside p.q 1 64 ∨ Outside p.k 1 1024 := by
  rw [← clampNat_ne_iff (by decide), ← clampNat_ne_iff (by decide), ← not_and_or, Ne, not_iff_not]
  obtain ⟨paced, a, b, q, k⟩ := p
  simp [PaceSetting.clamp]

theorem loadPaces_settled_iff (ws : Store) : (loadPaces ws).2 = true ↔ ∃ m : Master,
    Outside (storeBits ws (5 + 2 * m.num) 0 7) 1 64 ∨
      Outside (storeBits ws (6 + 2 * m.num) 0 16) 1 1024 := by
  have hclamp (m : Master) : (Outside (storeBits ws (5 + 2 * m.num) 0 7) 1 64 ∨
      Outside (storeBits ws (6 + 2 * m.num) 0 16) 1 1024) ↔
        ((storedPaces ws).map PaceSetting.clamp).get m ≠ (storedPaces ws).get m := by
    rw [PerMaster.get_map, clamp_ne_iff, storedPaces_get, storeBits_whole]
    exact .rfl
  simp only [loadPaces, decide_eq_true_eq, hclamp, ← not_forall, Ne]
  exact not_congr ⟨fun h m => by rw [h], PerMaster.ext_get⟩

/-- The link port stored for robot `r`. -/
def storedRobotPort (ws : Store) (r : Robot) : Nat :=
  storeBits ws (15 + (r.num - 1) / 4) (4 * ((r.num - 1) % 4)) 4

theorem loadRobots_linkPort (ws : Store) (r : Robot) :
    (loadRobots ws).1.linkPort.get r = SwPort.ofNum? (storedRobotPort ws r) := by
  cases r <;> rfl

theorem loadRobots_values (ws : Store) : (loadRobots ws).1 = { (loadRobots ws).1 with
    heartbeatTimeout := max 20 (min (storeBits ws 17 0 16) 2000)
    pickupTimeout := max 50 (min (storeBits ws 18 0 16) 5000)
    fillTimeout := max 1 (min (storeBits ws 19 0 16) 60), limit := min (storeBits ws 20 0 16) 15
    tolerance := max 1 (min (storeBits ws 21 0 16) 100)
    serviceFlow := min (storeBits ws 22 0 16) 1000 } := by
  simp only [storeBits_whole]
  rfl

theorem badPort_iff (n : Nat) : badPort n = true ↔ 8 < n := decide_eq_true_iff

theorem Robot.exists_iff {p : Robot → Prop} :
    (∃ r, p r) ↔ p .r1 ∨ p .r2 ∨ p .r3 ∨ p .r4 ∨ p .r5 ∨ p .r6 := by
  constructor
  · rintro ⟨r, h⟩
    cases r <;> tauto
  · rintro (h | h | h | h | h | h) <;> exact ⟨_, h⟩

theorem loadRobots_settled_iff (ws : Store) : (loadRobots ws).2 = true ↔
    (∃ r, 8 < storedRobotPort ws r) ∨ Outside (storeBits ws 17 0 16) 20 2000 ∨
      Outside (storeBits ws 18 0 16) 50 5000 ∨ Outside (storeBits ws 19 0 16) 1 60 ∨
      15 < storeBits ws 20 0 16 ∨ Outside (storeBits ws 21 0 16) 1 100 ∨
      1000 < storeBits ws 22 0 16 := by
  simp only [loadRobots, Bool.or_eq_true, badPort_iff, decide_eq_true_eq, storeBits_whole,
    clampNat_ne_iff (show 20 ≤ 2000 by decide), clampNat_ne_iff (show 50 ≤ 5000 by decide),
    clampNat_ne_iff (show 1 ≤ 60 by decide), clampNat_ne_iff (show 1 ≤ 100 by decide),
    Robot.exists_iff, or_assoc]
  exact .rfl

theorem loadCams_get (ws : Store) (c : Cam) : (loadCams ws).1.get c =
    { fitted := (storeWord ws 23).getLsbD (c.num - 1)
      port := SwPort.ofNum? (storeBits ws 24 (4 * (c.num - 1)) 4) } := by
  cases c <;> rfl

theorem loadCams_settled_iff (ws : Store) : (loadCams ws).2 = true ↔
    ∃ c : Cam, 8 < storeBits ws 24 (4 * (c.num - 1)) 4 := by
  simp only [loadCams, List.any_eq_true, List.mem_range, badPort_iff]
  constructor
  · rintro ⟨i, hi, h⟩
    interval_cases i
    · exact ⟨.c1, h⟩
    · exact ⟨.c2, h⟩
    · exact ⟨.c3, h⟩
    · exact ⟨.c4, h⟩
  · rintro ⟨c, h⟩
    exact ⟨c.num - 1, by cases c <;> decide, h⟩

theorem loadSwitch_get (ws : Store) (p : SwPort) : (loadSwitch ws).1.ports.get p =
    { role := (Role.ofCode? (storedRole ws (p.num - 1))).getD .unused
      threshold := max (storeWord ws (26 + p.num)).toNat 1 } := by
  cases p <;> rfl

theorem Role.ofCode?_eq_none_iff (c : Nat) : (Role.ofCode? c).isNone = true ↔ 5 < c := by
  match c with
  | 0 | 1 | 2 | 3 | 4 | 5 => exact iff_of_false nofun (by decide)
  | _ + 6 => exact iff_of_true rfl (by omega)

theorem loadSwitch_settled_iff (ws : Store) : (loadSwitch ws).2 = true ↔
    (∃ p : SwPort, 5 < storedRole ws (p.num - 1) ∨ storeBits ws (26 + p.num) 0 16 = 0) ∨
      Outside (storeBits ws 35 0 16) 50 5000 := by
  simp only [loadSwitch, Bool.or_eq_true, List.any_eq_true, List.mem_range, decide_eq_true_eq,
    Role.ofCode?_eq_none_iff, storeBits_whole, clampNat_ne_iff (show 50 ≤ 5000 by decide)]
  refine or_congr_left ?_
  constructor
  · rintro ⟨i, hi, h⟩
    obtain ⟨p, hp⟩ : ∃ p : SwPort, p.num = i + 1 := by
      interval_cases i
      exacts [⟨.p1, rfl⟩, ⟨.p2, rfl⟩, ⟨.p3, rfl⟩, ⟨.p4, rfl⟩, ⟨.p5, rfl⟩, ⟨.p6, rfl⟩, ⟨.p7, rfl⟩,
        ⟨.p8, rfl⟩]
    refine ⟨p, ?_⟩
    rw [hp, Nat.add_sub_cancel, show 26 + (i + 1) = 27 + i by omega]
    exact h
  · rintro ⟨p, h⟩
    have hnum : 1 ≤ p.num ∧ p.num ≤ 8 := by cases p <;> decide
    refine ⟨p.num - 1, by omega, ?_⟩
    rw [show 27 + (p.num - 1) = 26 + p.num by omega]
    exact h

theorem loadHoldover_value (ws : Store) :
    (loadHoldover ws).1 = max 10 (min (storeBits ws 36 0 16) 3600) := by
  rw [storeBits_whole]
  rfl

theorem loadHoldover_settled_iff (ws : Store) :
    (loadHoldover ws).2 = true ↔ Outside (storeBits ws 36 0 16) 10 3600 := by
  rw [storeBits_whole, ← clampNat_ne_iff (by decide)]
  exact decide_eq_true_iff

theorem loadDuration_value (ws : Store) :
    (loadDuration ws).1 = max 1 (min (storeBits ws 37 0 16) 3600) := by
  rw [storeBits_whole]
  rfl

theorem loadDuration_settled_iff (ws : Store) :
    (loadDuration ws).2 = true ↔ Outside (storeBits ws 37 0 16) 1 3600 := by
  rw [storeBits_whole, ← clampNat_ne_iff (by decide)]
  exact decide_eq_true_iff

end Sys2Proof.Machine

namespace Sys2Proof.Machine

/-! ### What a load's end leaves (R167) -/

/-- A report depends on the clock through its stamp alone. -/
theorem raise_stamp (x : Report) (s t : State) (hc : t.clock.stamp = s.clock.stamp)
    (hm : t.map = s.map) (hs : t.staging = s.staging) (hw : t.writer = s.writer) :
    (raise x t).staging = (raise x s).staging ∧ (raise x t).writer = (raise x s).writer := by
  have hclock : raise x { s with clock := t.clock } = { raise x s with clock := t.clock } := by
    have hplace (y : Report) (u : State) (hu : u.clock = s.clock) :
        placeRecord y { u with clock := t.clock } = { placeRecord y u with clock := t.clock } := by
      have hentry : recordEntry y { u with clock := t.clock } = recordEntry y u := by
        rw [recordEntry, recordEntry, hc, hu]
      unfold placeRecord
      rw [hentry]
      rfl
    have hnormal (u : State) (hu : u.clock = s.clock) :
        takeNormal x { u with clock := t.clock } = { takeNormal x u with clock := t.clock } := by
      unfold takeNormal
      dsimp only
      split_ifs
      · rfl
      · exact hplace x u hu
      · rw [hplace .overrun u hu]
        rfl
      · rfl
    unfold raise
    dsimp only
    split_ifs
    · have hresume : resumeWriter { s with clock := t.clock } =
          { resumeWriter s with clock := t.clock } := by
        unfold resumeWriter
        rw [hplace _ s rfl]
        rfl
      rw [hresume]
      exact hnormal _ rfl
    · rfl
    · exact hnormal s rfl
  have hsame := raise_congr x { s with clock := t.clock } t rfl hm hs hw
  rw [hclock] at hsame
  exact hsame

/-- A running timer has reached its limit. -/
def Past (now : Micros) (timer : Option Micros) (us : Nat) : Prop :=
  ∃ h, timer = some h ∧ us ≤ (now - h).toNat

theorem timerDue_iff (now : Micros) (timer : Option Micros) (us : Nat) :
    timerDue now timer us = true ↔ Past now timer us := by
  cases timer with
  | none => exact iff_of_false nofun nofun
  | some h =>
    refine decide_eq_true_iff.trans ⟨fun hus => ⟨h, rfl, hus⟩, ?_⟩
    rintro ⟨_, ⟨⟩, hus⟩
    exact hus

/-- The ring and the staging queue as START finds them. -/
def State.newRing (s : State) (mp : RegionMap) : State :=
  { s with
    map := mp
    writer := { put := 0, written := 0, take := 0, lost := 0, losing := false }
    staging := (resetRing s).staging }

/-- START of a load that has ended. -/
def LoadResult.start (res : LoadResult) (kind : LoadKind) (pass : Bool) (lost : Nat) : Report :=
  .start (match kind with | .powerOn => .powerOn | .reload => .reload) pass res.codes res.adjusted
    (decide (res.condition = .safe)) lost

theorem restarted_reported (s : State) (kind : LoadKind) (res : LoadResult) (pass : Bool) :
    Reported [res.start kind pass s.writer.lost]
      (s.newRing { entries := res.delivery.entries, openSpace := res.delivery.openSpace })
      (s.delivered kind res pass).restarted := by
  have hsame := raise_stamp (res.start kind pass s.writer.lost)
    (s.newRing { entries := res.delivery.entries, openSpace := res.delivery.openSpace })
    ((resetRing (s.delivered kind res pass)).setWriter
      { (resetRing (s.delivered kind res pass)).writer with lost := 0 })
  have hreport : startReport (resetRing (s.delivered kind res pass)) =
      res.start kind pass s.writer.lost := by
    rw [delivered_eq]
    rfl
  unfold State.restarted raiseStart
  rw [hreport]
  refine hsame ?_ ?_ ?_ ?_
  all_goals
    rw [delivered_eq]
    rfl

/-- The clock with the new limit has passed it in HOLDOVER. -/
def Clock.driftsAt (k : Clock) (limit : Nat) : Bool := { k with holdoverLimit := limit }.limitDue

/-- The switch's heartbeat is overdue by the new timeout. -/
def State.switchPast (s : State) (timeout : Nat) : Prop :=
  s.switch.state = .alive ∧ Past s.clock.m s.switch.timer (timeout * 1000)

/-- What the end of a load leaves, by what it was judged to be. -/
structure LoadedTo (s : State) (kind : LoadKind) (pass : Bool) (res : LoadResult) (v : State) :
    Prop where
  frame : v = { s with
    map := { entries := res.delivery.entries, openSpace := res.delivery.openSpace }
    pacing := (deliverPaces res.delivery.paces s).pacing
    switch := { s.switch.configure res.delivery.switch with
      state := v.switch.state, timer := v.switch.timer }
    robots := { s.robots with
      table := v.robots.table, settings := res.delivery.robots, limit := res.delivery.robots.limit }
    tracker := { s.tracker with
      cameras := res.delivery.cams.map
        (CamConfig.entry (s.setSwitch (s.switch.configure res.delivery.switch))) }
    clock := { s.clock with holdoverLimit := res.delivery.holdover, state := v.clock.state }
    window := { s.window with maxDuration := res.delivery.maxDuration }
    loader := s.loader.ended kind pass res
    slots := s.slots.map fun c => { c with params := List.replicate 14 0 }
    mail := v.mail, staging := v.staging, writer := v.writer }
  clock : v.clock.state =
    if s.clock.driftsAt res.delivery.holdover = true then .drifting else s.clock.state
  silent : s.switchPast res.delivery.switch.timeout → v.switch.state = .silent ∧ v.switch.timer = none
  heard : ¬ s.switchPast res.delivery.switch.timeout →
    v.switch.state = s.switch.state ∧ v.switch.timer = s.switch.timer ∧ v.mail = s.mail
  judged : ∀ r, v.robots.table.get r =
    (s.robots.table.get r).judged res.delivery.robots s.clock.m
  joined : RecordsJoined (s.delivered kind res pass).restarted v
  quiet : s.clock.driftsAt res.delivery.holdover = false →
    ¬ s.switchPast res.delivery.switch.timeout →
    (∀ r, (s.robots.table.get r).unheard res.delivery.robots s.clock.m = false ∧
      (s.robots.table.get r).notPicked res.delivery.robots s.clock.m = false ∧
      (s.robots.table.get r).overfilled res.delivery.robots s.clock.m = false) →
    v = (s.delivered kind res pass).restarted

theorem loaded_loadedTo (s : State) (kind : LoadKind) (pass : Bool) (store : Option Store) :
    LoadedTo s kind pass (judgeLoad pass store) (s.loaded kind pass store) := by
  unfold State.loaded
  generalize judgeLoad pass store = res
  have hjudged := judgeTimers_judged (s.delivered kind res pass).restarted
  have hrestarted := restarted_frame (s.delivered kind res pass)
  generalize hw : (s.delivered kind res pass).restarted = w at *
  rw [delivered_eq] at hrestarted
  generalize judgeTimers w = v at *
  obtain ⟨hframe, hrobots, hjoined, hmail, hquiet⟩ := hjudged
  have hdrifts : w.clock.limitDue = s.clock.driftsAt res.delivery.holdover := by
    rw [hrestarted]
    rfl
  have hpast : switchTimeoutDue w = true ↔ s.switchPast res.delivery.switch.timeout := by
    rw [hrestarted, switchTimeoutDue, Bool.and_eq_true, decide_eq_true_eq, timerDue_iff]
    exact .rfl
  have hnotPast : ¬ s.switchPast res.delivery.switch.timeout → switchTimeoutDue w = false :=
    fun h => eq_false_of_ne_true fun hc => h (hpast.1 hc)
  refine ⟨?_, ?_, fun h => ?_, fun h => ?_, fun r => ?_, by rw [hw]; exact hjoined, fun h1 h2 h3 => ?_⟩
  · have hclock : v.clock.state = if w.clock.limitDue = true then .drifting else w.clock.state := by
      rw [hframe]
    have hswitch : v.switch.state =
          (if switchTimeoutDue w = true then .silent else w.switch.state) ∧
        v.switch.timer = if switchTimeoutDue w = true then none else w.switch.timer := by
      rw [hframe]
      exact ⟨rfl, rfl⟩
    rw [hframe, ← hclock, ← hswitch.1, ← hswitch.2]
    generalize v.clock.state = a, v.switch.state = b, v.switch.timer = c, v.robots.table = d,
      v.mail = e, v.staging = f, v.writer = g
    rw [hrestarted]
  · rw [hframe, ← hdrifts, hrestarted]
  · rw [hframe]
    exact ⟨if_pos (hpast.2 h), if_pos (hpast.2 h)⟩
  · have hsame : v.mail = w.mail := hmail (hnotPast h)
    rw [hsame, hframe, hrestarted]
    refine ⟨if_neg ?_, if_neg ?_, rfl⟩
    all_goals
      rw [← hrestarted, hpast]
      exact h
  · rw [hrobots, hrestarted]
    rfl
  · rw [hw]
    refine hquiet (by rw [hdrifts, h1]) (hnotPast h2) fun r => ?_
    rw [hrestarted]
    exact h3 r

end Sys2Proof.Machine

namespace Sys2Proof.Machine

theorem storeGood_iff (store : Option Store) : storeGood store = true ↔
    store = some (store.getD []) ∧ storeWord (store.getD []) 0 = 0x4636 ∧
      storeWord (store.getD []) 1 = 1 ∧ 64 ≤ storeLength (store.getD []) ∧
      storeLength (store.getD []) ≤ 2048 ∧
      ((store.getD []).take (storeLength (store.getD []))).foldl (· + ·) 0 = 0 := by
  cases store with
  | none => exact iff_of_false nofun nofun
  | some ws => exact decide_eq_true_iff.trans (and_iff_right rfl).symm

variable {s v : State} {kind : LoadKind} {pass : Bool} {res : LoadResult}

theorem LoadedTo.map (h : LoadedTo s kind pass res v) :
    v.map = { entries := res.delivery.entries, openSpace := res.delivery.openSpace } := by
  rw [h.frame]

theorem LoadedTo.robots (h : LoadedTo s kind pass res v) : v.robots = { s.robots with
    table := v.robots.table, settings := res.delivery.robots, limit := res.delivery.robots.limit } := by
  rw [h.frame]

theorem LoadedTo.loader (h : LoadedTo s kind pass res v) : v.loader = s.loader.ended kind pass res := by
  rw [h.frame]

theorem LoadedTo.window (h : LoadedTo s kind pass res v) :
    v.window = { s.window with maxDuration := res.delivery.maxDuration } := by
  rw [h.frame]

theorem LoadedTo.clockFrame (h : LoadedTo s kind pass res v) : v.clock =
    { s.clock with holdoverLimit := res.delivery.holdover, state := v.clock.state } := by
  rw [h.frame]

theorem LoadedTo.switch (h : LoadedTo s kind pass res v) : v.switch =
    { s.switch.configure res.delivery.switch with
      state := v.switch.state, timer := v.switch.timer } := by
  rw [h.frame]

theorem LoadedTo.slots (h : LoadedTo s kind pass res v) (n : Slot) :
    v.slots.get n = { s.slots.get n with params := List.replicate 14 0 } := by
  rw [h.frame, PerSlot.get_map]

theorem LoadedTo.pace (h : LoadedTo s kind pass res v) (m : Master) :
    v.pacing.get m = (s.pacing.get m).deliver (res.delivery.paces.get m) s.clock.m := by
  rw [h.frame, deliverPaces_get]
  rfl

theorem configure_get (w : SwitchWatch) (c : SwitchConfig) (p : SwPort) :
    (w.configure c).table.get p =
      { w.table.get p with role := (c.ports.get p).role, threshold := (c.ports.get p).threshold } := by
  cases p <;> rfl

theorem LoadedTo.port (h : LoadedTo s kind pass res v) (p : SwPort) : v.switch.table.get p =
    { s.switch.table.get p with
      role := (res.delivery.switch.ports.get p).role
      threshold := (res.delivery.switch.ports.get p).threshold } := by
  rw [h.switch, ← configure_get]

theorem LoadedTo.camera (h : LoadedTo s kind pass res v) (c : Cam) : v.tracker.cameras.get c =
    (res.delivery.cams.get c).entry (s.setSwitch (s.switch.configure res.delivery.switch)) := by
  rw [h.frame, PerCam.get_map]

/-- The ring's own indices begin at 0. -/
theorem LoadedTo.indices (h : LoadedTo s kind pass res v) : v.writer.written = 0 ∧ v.writer.take = 0 := by
  have hstart := raise_joined (res.start kind pass s.writer.lost)
    (s.newRing { entries := res.delivery.entries, openSpace := res.delivery.openSpace })
  have hwriter := (restarted_reported s kind res pass).2
  have hjoined := h.joined
  refine ⟨hjoined.written.trans ?_, hjoined.take.trans ?_⟩ <;> rw [hwriter]
  · exact hstart.written
  · exact hstart.take

/-- START stands behind what the staging queue held. -/
theorem LoadedTo.first (h : LoadedTo s kind pass res v) (hroom : s.staging.length < 8)
    (hring : 3 ≤ v.map.ringCapacity) : ∃ e, v.staging[s.staging.length]? = some e ∧
      e.addr = v.map.baseOf .reports ∧
      e.body = .record (res.start kind pass s.writer.lost) s.clock.stamp := by
  have hlen : (resetRing s).staging.length = s.staging.length := List.length_map _
  have hmap := h.map
  rw [hmap] at hring ⊢
  have hfirst := raise_first (x := res.start kind pass s.writer.lost)
    (s := s.newRing { entries := res.delivery.entries, openSpace := res.delivery.openSpace })
    rfl rfl rfl (hlen ▸ hroom) hring
  obtain ⟨es, hes⟩ := h.joined.joined
  have hstaging := (restarted_reported s kind res pass).1.trans hfirst.1
  refine ⟨{ body := .record (res.start kind pass s.writer.lost) s.clock.stamp
            addr := RegionMap.baseOf
              { entries := res.delivery.entries, openSpace := res.delivery.openSpace } .reports
            current := true, firstDone := false, failed := false, cut := false }, ?_, rfl, rfl⟩
  rw [hes, hstaging, List.append_assoc]
  have hbase : (s.newRing { entries := res.delivery.entries
                            openSpace := res.delivery.openSpace }).staging.length =
      s.staging.length := hlen
  rw [List.getElem?_append_right (Nat.le_of_eq hbase), hbase, Nat.sub_self]
  rfl

/-! ### The robots' timers at a load's end (R81) -/

theorem unheard_iff (e : RobotEntry) (g : RobotSettings) (now : Micros) :
    e.unheard g now = true ↔ e.state ∉ [.offline, .silent, .faulted] ∧
      Past now e.heartbeatTimer (g.heartbeatTimeout * 1000) := by
  rw [RobotEntry.unheard, Bool.and_eq_true, timerDue_iff]
  refine and_congr_left fun _ => ?_
  cases e.state <;> decide

/-- The pickup or the fill timer has expired. -/
def RobotEntry.overdue (e : RobotEntry) (g : RobotSettings) (now : Micros) : Prop :=
  (e.state = .ordered ∧ Past now e.pickupTimer (g.pickupTimeout * 1000)) ∨
    (e.state = .filling ∧ Past now e.fillTimer (g.fillTimeout * 1000000))

theorem overdue_iff (e : RobotEntry) (g : RobotSettings) (now : Micros) :
    e.overdue g now ↔ e.notPicked g now = true ∨ e.overfilled g now = true := by
  rw [RobotEntry.notPicked, RobotEntry.overfilled, Bool.and_eq_true, Bool.and_eq_true,
    decide_eq_true_eq, decide_eq_true_eq, timerDue_iff, timerDue_iff]
  exact .rfl

theorem judged_unheard {e : RobotEntry} {g : RobotSettings} {now : Micros}
    (h : e.unheard g now = true) : (e.judged g now).state = .silent := by
  rw [RobotEntry.judged, if_pos h]
  rfl

theorem judged_overdue {e : RobotEntry} {g : RobotSettings} {now : Micros}
    (h : ¬ e.unheard g now = true) (ho : e.overdue g now) : (e.judged g now).state = .faulted := by
  rw [RobotEntry.judged, if_neg h]
  rcases (overdue_iff e g now).1 ho with hp | hf
  · rw [if_pos hp]
    rfl
  · split_ifs
    · rfl
    · rfl

theorem quiet_iff {e : RobotEntry} {g : RobotSettings} {now : Micros} :
    (¬ e.unheard g now = true ∧ ¬ e.overdue g now) ↔
      e.unheard g now = false ∧ e.notPicked g now = false ∧ e.overfilled g now = false := by
  rw [overdue_iff, not_or, Bool.not_eq_true, Bool.not_eq_true, Bool.not_eq_true]

/-! ### The clock's state at a load's end (R60) -/

theorem driftsAt_of_holdover {k : Clock} {limit : Nat} {h : Moment} (hst : k.state = .holdover)
    (hs : k.holdoverStart = some h) (hlimit : limit ≤ 3600) : k.driftsAt limit = true ↔
      h.past = true ∨ limit * 1000000 ≤ (k.m - h.start).toNat := by
  have hdue : k.driftsAt limit = decide (limit * 1000000 ≤ h.age k.m) := by
    unfold Clock.driftsAt Clock.limitDue
    dsimp only
    rw [hst, hs, decide_eq_true rfl, Bool.true_and]
  rw [hdue, decide_eq_true_eq, Moment.age]
  split_ifs with hpast
  · exact iff_of_true (Nat.le_trans (Nat.mul_le_mul_right _ hlimit) (by norm_num)) (.inl hpast)
  · exact (or_iff_right hpast).symm

theorem driftsAt_elsewhere {k : Clock} (limit : Nat)
    (h : k.state ≠ .holdover ∨ k.holdoverStart = none) : k.driftsAt limit = false := by
  unfold Clock.driftsAt Clock.limitDue
  dsimp only
  rcases h with h | h
  · rw [decide_eq_false h, Bool.false_and]
  · rw [h, Bool.and_false]

theorem holdover_of_driftsAt {k : Clock} {limit : Nat} (h : k.driftsAt limit = true) :
    k.state = .holdover :=
  not_not.1 fun hne => by simp [driftsAt_elsewhere limit (.inl hne)] at h

end Sys2Proof.Machine

namespace Sys2Proof.Machine

/-! ### The end of a load, group by group (R166, R167) -/

section
variable {s v : State} {kind : LoadKind} {pass : Bool} {store : Option Store}

/-- The region entries in force are the loaded ones with LINE's rights, or the anchor map's. -/
theorem LoadedTo.entries (h : LoadedTo s kind pass (judgeLoad pass store) v) :
    (GroupTaken pass store 0 → RegionsWhole (loadedEntries (store.getD [])) →
      v.map.entries = (loadedEntries (store.getD [])).map fun e =>
        if e.enabled = true ∧ e.kindCode = 7 then
          { e with readRights := e.readRights ||| 0b00001, writeRights := 0b00001 }
        else e) ∧
    (¬ (GroupTaken pass store 0 ∧ RegionsWhole (loadedEntries (store.getD []))) →
      v.map.entries = RegionMap.anchor.entries) := by
  rw [h.map]
  refine ⟨fun htaken hwhole => ?_, fun hnot => ?_⟩
  · rw [delivered_of_taken (π := Delivery.entries) rfl (by decide) htaken, loadRegions_whole hwhole]
    rw [funext settleControl_ite]
  · by_cases htaken : GroupTaken pass store 0
    · rw [delivered_of_taken (π := Delivery.entries) rfl (by decide) htaken,
        loadRegions_broken fun hwhole => hnot ⟨htaken, hwhole⟩]
    · exact delivered_of_not_taken (π := Delivery.entries) rfl (by decide) htaken

theorem LoadedTo.adjusted (h : LoadedTo s kind pass (judgeLoad pass store) v) :
    v.loader.adjusted = true ↔ storeGood store = true ∧
      ((∃ g, g < 8 ∧ GroupCoded (store.getD []) g ∧
          storeLength (store.getD []) - 1 ≤ lastWord g) ∨
        (GroupTaken pass store 0 ∧ ¬ RegionsWhole (loadedEntries (store.getD []))) ∨
        (GroupTaken pass store 0 ∧ ∃ i e, (loadedEntries (store.getD []))[i]? = some e ∧
          EntrySettled (store.getD []) i e) ∨
        (GroupTaken pass store 2 ∧ ∃ m : Master,
          Outside (storeBits (store.getD []) (5 + 2 * m.num) 0 7) 1 64 ∨
            Outside (storeBits (store.getD []) (6 + 2 * m.num) 0 16) 1 1024) ∨
        (GroupTaken pass store 3 ∧ ((∃ r, 8 < storedRobotPort (store.getD []) r) ∨
          Outside (storeBits (store.getD []) 17 0 16) 20 2000 ∨
          Outside (storeBits (store.getD []) 18 0 16) 50 5000 ∨
          Outside (storeBits (store.getD []) 19 0 16) 1 60 ∨
          15 < storeBits (store.getD []) 20 0 16 ∨
          Outside (storeBits (store.getD []) 21 0 16) 1 100 ∨
          1000 < storeBits (store.getD []) 22 0 16)) ∨
        (GroupTaken pass store 4 ∧
          ∃ c : Cam, 8 < storeBits (store.getD []) 24 (4 * (c.num - 1)) 4) ∨
        (GroupTaken pass store 5 ∧
          ((∃ p : SwPort, 5 < storedRole (store.getD []) (p.num - 1) ∨
            storeBits (store.getD []) (26 + p.num) 0 16 = 0) ∨
          Outside (storeBits (store.getD []) 35 0 16) 50 5000)) ∨
        (GroupTaken pass store 6 ∧ Outside (storeBits (store.getD []) 36 0 16) 10 3600) ∨
        (GroupTaken pass store 7 ∧ Outside (storeBits (store.getD []) 37 0 16) 1 3600)) := by
  have hadjusted : v.loader.adjusted = (judgeLoad pass store).adjusted := by rw [h.loader]; rfl
  rw [hadjusted, judgeLoad_adjusted, loadRegions_settled_iff, loadPaces_settled_iff,
    loadRobots_settled_iff, loadCams_settled_iff, loadSwitch_settled_iff, loadHoldover_settled_iff,
    loadDuration_settled_iff, and_or_left (a := GroupTaken pass store 0),
    or_assoc (a := GroupTaken pass store 0 ∧ _)]

theorem LoadedTo.openSpace (h : LoadedTo s kind pass (judgeLoad pass store) v) :
    (GroupTaken pass store 1 → v.map.openSpace = loadOpenSpace (store.getD [])) ∧
    (¬ GroupTaken pass store 1 → v.map.openSpace = RegionMap.anchor.openSpace) := by
  rw [h.map]
  exact ⟨delivered_of_taken (π := Delivery.openSpace) rfl (by decide),
    delivered_of_not_taken (π := Delivery.openSpace) rfl (by decide)⟩

theorem LoadedTo.delivered (h : LoadedTo s kind pass (judgeLoad pass store) v) (m : Master) :
    (GroupTaken pass store 2 → (v.pacing.get m).delivered = (loadPaces (store.getD [])).1.get m) ∧
    (¬ GroupTaken pass store 2 → (v.pacing.get m).delivered = .reset) := by
  rw [h.pace]
  exact ⟨delivered_of_taken (π := fun d => d.paces.get m)
      (apply_ite (fun t : PerMaster PaceSetting => t.get m) _ _ _) (by decide),
    fun hnot => (delivered_of_not_taken (π := Delivery.paces) rfl (by decide) hnot) ▸
      PerMaster.get_all _ m⟩

theorem LoadedTo.settings (h : LoadedTo s kind pass (judgeLoad pass store) v) :
    (GroupTaken pass store 3 → v.robots.settings = (loadRobots (store.getD [])).1) ∧
    (¬ GroupTaken pass store 3 → v.robots.settings = .reset) := by
  rw [h.robots]
  exact ⟨delivered_of_taken (π := Delivery.robots) rfl (by decide),
    delivered_of_not_taken (π := Delivery.robots) rfl (by decide)⟩

theorem LoadedTo.cameras (h : LoadedTo s kind pass (judgeLoad pass store) v) (c : Cam) :
    (GroupTaken pass store 4 → v.tracker.cameras.get c = ((loadCams (store.getD [])).1.get c).entry
      (s.setSwitch (s.switch.configure (judgeLoad pass store).delivery.switch))) ∧
    (¬ GroupTaken pass store 4 →
      v.tracker.cameras.get c = { fitted := true, port := none, online := true }) := by
  rw [h.camera]
  refine ⟨fun htaken => ?_, fun hnot => ?_⟩
  · rw [delivered_of_taken (π := Delivery.cams) rfl (by decide) htaken]
  · rw [delivered_of_not_taken (π := Delivery.cams) rfl (by decide) hnot]
    cases c <;> rfl

theorem LoadedTo.ports (h : LoadedTo s kind pass (judgeLoad pass store) v) :
    (GroupTaken pass store 5 → v.switch.timeout = (loadSwitch (store.getD [])).1.timeout ∧
      ∀ p, (v.switch.table.get p).role = ((loadSwitch (store.getD [])).1.ports.get p).role ∧
        (v.switch.table.get p).threshold = ((loadSwitch (store.getD [])).1.ports.get p).threshold) ∧
    (¬ GroupTaken pass store 5 → v.switch.timeout = 500 ∧
      ∀ p, (v.switch.table.get p).role = .unused ∧ (v.switch.table.get p).threshold = 500) := by
  have htimeout : v.switch.timeout = (judgeLoad pass store).delivery.switch.timeout := by rw [h.switch]; rfl
  rw [htimeout]
  refine ⟨fun htaken => ?_, fun hnot => ?_⟩
  · have hswitch := delivered_of_taken (π := Delivery.switch) rfl (by decide) htaken
    exact ⟨by rw [hswitch], fun p => by rw [h.port, hswitch]; exact ⟨rfl, rfl⟩⟩
  · have hswitch := delivered_of_not_taken (π := Delivery.switch) rfl (by decide) hnot
    refine ⟨by rw [hswitch]; rfl, fun p => ?_⟩
    rw [h.port, hswitch]
    cases p <;> exact ⟨rfl, rfl⟩

theorem LoadedTo.holdoverLimit (h : LoadedTo s kind pass (judgeLoad pass store) v) :
    (GroupTaken pass store 6 → v.clock.holdoverLimit = (loadHoldover (store.getD [])).1) ∧
    (¬ GroupTaken pass store 6 → v.clock.holdoverLimit = 600) := by
  rw [h.clockFrame]
  exact ⟨delivered_of_taken (π := Delivery.holdover) rfl (by decide),
    delivered_of_not_taken (π := Delivery.holdover) rfl (by decide)⟩

theorem LoadedTo.maxDuration (h : LoadedTo s kind pass (judgeLoad pass store) v) :
    (GroupTaken pass store 7 → v.window.maxDuration = (loadDuration (store.getD [])).1) ∧
    (¬ GroupTaken pass store 7 → v.window.maxDuration = 3600) := by
  rw [h.window]
  exact ⟨delivered_of_taken (π := Delivery.maxDuration) rfl (by decide),
    delivered_of_not_taken (π := Delivery.maxDuration) rfl (by decide)⟩

/-- A camera is online where it has no port, its port is none of role CAMERA, or the port is in
service. -/
theorem entry_online_iff (s : State) (c : SwitchConfig) (cam : CamConfig) (p : SwPort)
    (hp : cam.port = some p) : (cam.entry (s.setSwitch (s.switch.configure c))).online = true ↔
      (c.ports.get p).role ≠ .camera ∨
        ((s.switch.table.get p).linkUp = true ∧ s.switch.state ≠ .silent) := by
  have hget := configure_get s.switch c p
  have honline : (cam.entry (s.setSwitch (s.switch.configure c))).online =
      (decide (((s.switch.configure c).table.get p).role ≠ .camera) ||
        (((s.switch.configure c).table.get p).linkUp && decide (s.switch.state ≠ .silent))) := by
    rw [CamConfig.entry, hp]
    rfl
  rw [honline, hget, Bool.or_eq_true, Bool.and_eq_true, decide_eq_true_eq, decide_eq_true_eq]

end

end Sys2Proof.Machine

namespace Sys2Proof.Machine

theorem storedRole_role (c : Nat) : (Role.ofCode? c).getD .unused =
    (match c with
      | 1 => .uplink
      | 2 => .timeSource
      | 3 => .robotLink
      | 4 => .camera
      | 5 => .service
      | _ => .unused) := by
  match c with
  | 0 | 1 | 2 | 3 | 4 | 5 | _ + 6 => rfl

/-- A request HELD through a load's end is examined anew against what the load leaves. -/
theorem loadEnd_reexamines {kind : LoadKind} {pass : Bool} {store : Option Store} {s : State}
    (hwf : storeWf store = true) (hload : s.loader.load = some kind) (hheld : s.noneHeld)
    (hl : s.lanesTaken) : ReexaminesHeld (.loadEnd pass store) s.transit s := by
  have htransit := loaded_transit kind pass store s
  refine reexaminesHeld_of issueFull_quiet ((noneHeld_congr htransit).2 hheld)
    ((lanesTaken_congr htransit).2 hl) htransit rfl (loadEnd_ends hwf hload hheld hl)
    (fun m r => ?_) fun _ _ => rfl
  have hsame : (setMasterPort m (.held r) s).loader.load = some kind := hload
  rw [exec_loadEnd hwf, loadEndEvent_eq hsame, loaded_setMasterPort]

/-- Settles O52: what a load's end delivers, by the groups of the store. -/
theorem loadEndDeliversTheStoreOrTheAnchor : Obligations.LoadEndDeliversTheStoreOrTheAnchor := by
  intro pass store kind s hwf hload hheld hl ws good bits coded last applied robotPort outside
  have hend := loadEnd_ends (pass := pass) (store := store) hwf hload hheld hl
  have hv := loaded_loadedTo s kind pass store
  have hholdover := (judgeLoad_ok pass store).holdover
  have htransit := loaded_transit kind pass store s
  have hcond := judgeLoad_condition_eq pass store
  have hcodes : ∀ g, g < 8 → _ := fun g hg => judgeLoad_codes hg pass store
  generalize s.loaded kind pass store = v at *
  have hloader := hv.loader
  have htimeout : v.switch.timeout = (judgeLoad pass store).delivery.switch.timeout := by
    rw [hv.switch]
    rfl
  have hsettings : v.robots.settings = (judgeLoad pass store).delivery.robots := by rw [hv.robots]
  have hstart : Report.start (arbitrate v).loader.cause pass (arbitrate v).loader.codes
      (arbitrate v).loader.adjusted (decide ((arbitrate v).loader.condition = .safe))
      s.writer.lost = (judgeLoad pass store).start kind pass s.writer.lost := by
    change Report.start v.loader.cause pass v.loader.codes v.loader.adjusted
      (decide (v.loader.condition = .safe)) s.writer.lost = _
    rw [hv.loader]
    rfl
  refine ⟨storeGood_iff store, arbitrate v, loadedEntries ws, hend, regionsLoaded ws, ?_, ?_, ?_, ?_,
    ?_, ?_, ?_, ⟨hv.entries.1, hv.entries.2, hv.adjusted⟩, hv.openSpace.1, hv.openSpace.2, ?_, ?_,
    hv.settings.2, ?_, ?_, ?_, fun h c => (hv.cameras c).2 h, ?_, hv.ports.2, ?_, ?_,
    hv.holdoverLimit.2, ?_, ?_, ?_, ?_, hv.maxDuration.2, hv.slots, hv.indices.1,
    hv.indices.2, ?_, ?_, ?_, ?_, loadEnd_reexamines hwf hload hheld hl, ?_⟩
  · have hrest : v = { s with
        map := v.map, pacing := v.pacing, robots := v.robots, clock := v.clock, switch := v.switch
        tracker := { s.tracker with cameras := v.tracker.cameras }, window := v.window
        loader := v.loader, slots := v.slots, mail := v.mail, staging := v.staging
        writer := v.writer } := by
      rw [hv.frame]
    have harbitrated := arbitrate_frame v
    generalize (arbitrate v).transit = x at harbitrated
    rw [harbitrated]
    exact congrArg (fun u : State => { u with transit := x }) hrest
  · intro hgood
    exact (congrArg Loader.condition hloader).trans (hcond.trans (if_pos hgood))
  · intro hbad
    exact (congrArg Loader.condition hloader).trans (hcond.trans (if_neg hbad))
  · exact congrArg Loader.load hloader
  · exact congrArg Loader.selfCheck hloader
  · exact congrArg Loader.cause hloader
  · intro g hg
    have hshown : v.loader.codes = (judgeLoad pass store).codes := congrArg Loader.codes hloader
    exact (congrArg (fun l : List (BitVec 2) => l[g]? = some 1) hshown) ▸ hcodes g hg
  · intro m
    have hpace := hv.pace m
    have hforce : (v.pacing.get m).inForce = (v.pacing.get m).delivered := by rw [hpace]; rfl
    refine ⟨by change (v.pacing.get m).buffered = none; rw [hpace]; rfl, hforce,
      fun h => ((hv.delivered m).1 h).trans (loadPaces_get ws m), (hv.delivered m).2, ?_⟩
    change (v.pacing.get m).account = if (v.pacing.get m).inForce.paced = true then
      some { credit := (v.pacing.get m).inForce.k, timer := s.clock.m } else none
    rw [hpace]
    rfl
  · intro happlied
    have hsettings : (arbitrate v).robots.settings = (loadRobots ws).1 := hv.settings.1 happlied
    rw [hsettings]
    refine ⟨fun r p => ?_, loadRobots_values ws⟩
    rw [loadRobots_linkPort, SwPort.ofNum?_eq_some_iff]
    exact .rfl
  · change v.robots.limit = v.robots.settings.limit
    rw [hv.robots]
  · change v.robots.lapsed = s.robots.lapsed
    rw [hv.robots]
  · intro happlied c
    have hcam := (hv.cameras c).1 happlied
    have hcfg := loadCams_get ws c
    have hnow : (arbitrate v).tracker.cameras.get c = _ := hcam
    rw [hnow, show (loadCams (store.getD [])).1.get c = _ from hcfg]
    refine ⟨rfl, fun p => SwPort.ofNum?_eq_some_iff, fun hnone => ?_, fun p hp => ?_⟩
    · have hfree : SwPort.ofNum? (storeBits ws 24 (4 * (c.num - 1)) 4) = none := hnone
      rw [CamConfig.entry, hfree]
      rfl
    · have hrole : ((arbitrate v).switch.table.get p).role =
          ((judgeLoad pass store).delivery.switch.ports.get p).role := by
        change (v.switch.table.get p).role = _
        rw [hv.port]
      rw [hrole]
      exact entry_online_iff s _ _ p hp
  · intro happlied
    obtain ⟨htimeout, hports⟩ := hv.ports.1 happlied
    refine ⟨?_, fun p => ?_⟩
    · refine htimeout.trans ?_
      rw [show bits 35 0 16 = _ from storeBits_whole ws 35]
      rfl
    · obtain ⟨hrole, hthreshold⟩ := hports p
      refine ⟨hrole.trans ?_, hthreshold.trans ?_⟩
      · rw [loadSwitch_get]
        exact storedRole_role _
      · rw [loadSwitch_get, show bits (26 + p.num) 0 16 = _ from storeBits_whole ws _, Nat.max_comm]
  · change v.clock = { s.clock with holdoverLimit := v.clock.holdoverLimit, state := v.clock.state }
    rw [hv.clockFrame]
  · exact fun h => (hv.holdoverLimit.1 h).trans (loadHoldover_value ws)
  · intro h hst hs
    have hlimit : v.clock.holdoverLimit = (judgeLoad pass store).delivery.holdover := by
      rw [hv.clockFrame]
    have hdrifts := driftsAt_of_holdover hst hs hholdover.2
    change v.clock.state = if h.past = true ∨ v.clock.holdoverLimit * 1000000 ≤ _ then _ else _
    rw [hv.clock, hlimit, hst]
    exact if_congr hdrifts rfl rfl
  · intro h
    exact hv.clock.trans (if_neg (by rw [driftsAt_elsewhere _ h]; exact Bool.false_ne_true))
  · change v.window = { s.window with maxDuration := v.window.maxDuration }
    rw [hv.window]
  · exact fun h => (hv.maxDuration.1 h).trans (loadDuration_value ws)
  · rw [Arbitrated, arbitrate, State.setTransit_transit, htransit]
    rfl
  · intro p
    change v.switch.table.get p = { s.switch.table.get p with
      role := (v.switch.table.get p).role, threshold := (v.switch.table.get p).threshold }
    rw [hv.port]
  · change v.switch = { s.switch with
      table := v.switch.table, timeout := v.switch.timeout
      state := v.switch.state, timer := v.switch.timer }
    rw [hv.switch]
    rfl
  · intro past g switchPast unheard overdue
    have hpast : switchPast ↔ s.switchPast (judgeLoad pass store).delivery.switch.timeout := by
      rw [← htimeout]
      exact .rfl
    have hg : g = (judgeLoad pass store).delivery.robots := hsettings
    have hunheard (r : Robot) : unheard r ↔ (s.robots.table.get r).unheard
        (judgeLoad pass store).delivery.robots s.clock.m = true := by
      rw [unheard_iff, ← hg]
      exact .rfl
    have hoverdue (r : Robot) : overdue r ↔ (s.robots.table.get r).overdue
        (judgeLoad pass store).delivery.robots s.clock.m := by
      rw [← hg]
      exact .rfl
    simp only [hpast, hunheard, hoverdue]
    refine ⟨hv.silent, hv.heard, fun r h => ?_, fun r h ho => ?_, fun r h ho => ?_,
      fun hstays hheard hquiet => ?_⟩
    · exact (congrArg RobotEntry.state (hv.judged r)).trans (judged_unheard h)
    · exact (congrArg RobotEntry.state (hv.judged r)).trans (judged_overdue h ho)
    · exact (hv.judged r).trans (judged_eq_self (quiet_iff.1 ⟨h, ho⟩))
    · have hstill : s.clock.driftsAt (judgeLoad pass store).delivery.holdover = false := by
        refine eq_false_of_ne_true fun hdrifts => ?_
        have hstate := (hv.clock.trans (if_pos hdrifts)).symm.trans hstays
        rw [holdover_of_driftsAt hdrifts] at hstate
        cases hstate
      have hsame := hv.quiet hstill hheard fun r => quiet_iff.1 (hquiet r)
      have hreported := restarted_reported s kind (judgeLoad pass store) pass
      rw [← hsame, ← hv.map, ← hstart] at hreported
      exact hreported
  · intro hroom hring
    rw [hstart]
    exact hv.first hroom hring

end Sys2Proof.Machine

namespace Sys2Proof.Machine

/-! ### What does not read the lanes -/

/-- `s` with the requests `l` on the lanes. -/
def State.withLanes (s : State) (l : PerMaster (List Request)) : State :=
  { s with transit := s.transit.withLanes l }

/-- The step `f` neither reads nor changes the lanes. -/
structure LaneFree (f : State → State) : Prop where
  commutes (l : PerMaster (List Request)) (s : State) : f (s.withLanes l) = (f s).withLanes l

theorem LaneFree.lanes {f : State → State} (h : LaneFree f) (s : State) :
    (f s).transit.lanes = s.transit.lanes :=
  congrArg (·.transit.lanes) (h.commutes s.transit.lanes s)

theorem LaneFree.setLane {f : State → State} (h : LaneFree f) (m : Master) (l : List Request)
    (s : State) : f (setLane m l s) = setLane m l (f s) := by
  have hcommutes := h.commutes (s.transit.lanes.set m l) s
  rw [← h.lanes s] at hcommutes
  have hlanes := h.lanes s
  unfold Machine.setLane
  rw [hlanes] at hcommutes ⊢
  exact hcommutes

theorem TrafficFree.laneFree {f : State → State} (h : TrafficFree f) : LaneFree f := ⟨fun l s => by
  have hcommutes := h.commutes (s.transit.withLanes l) s.pacing s
  have htransit := h.transit s
  have hpacing := h.pacing s
  rw [← hpacing, ← htransit] at hcommutes
  rw [htransit, hpacing] at hcommutes
  refine hcommutes.trans ?_
  rw [State.withTraffic, State.withLanes, ← htransit, ← hpacing]⟩

theorem laneFree_id : LaneFree fun s => s := ⟨fun _ _ => rfl⟩

theorem LaneFree.congr {f g : State → State} (hg : LaneFree g) (h : ∀ s, f s = g s) : LaneFree f :=
  ⟨fun l s => by rw [h, h, hg.commutes]⟩

theorem LaneFree.comp {f g : State → State} (hg : LaneFree g) (hf : LaneFree f) :
    LaneFree fun s => g (f s) := ⟨fun l s =>
  (congrArg g (hf.commutes l s)).trans (hg.commutes l (f s))⟩

theorem LaneFree.ite {f g : State → State} {p : State → Prop} [∀ s, Decidable (p s)]
    (hp : ∀ l s, p (s.withLanes l) ↔ p s) (hf : LaneFree f) (hg : LaneFree g) :
    LaneFree fun s => if p s then f s else g s := by
  refine ⟨fun l s => ?_⟩
  by_cases h : p s
  · simp only [hp, h, if_true, hf.commutes l s]
  · simp only [hp, h, if_false, hg.commutes l s]

/-- A step that reads a value first, which the lanes do not decide. -/
theorem LaneFree.reads {α : Type} {a : State → α} {g : α → State → State}
    (ha : ∀ l s, a (s.withLanes l) = a s) (hg : ∀ v, LaneFree (g v)) : LaneFree fun s => g (a s) s :=
  ⟨fun l s => (congrArg (g · _) (ha l s)).trans ((hg _).commutes l s)⟩

theorem LaneFree.foldl {α : Type} {f : State → α → State} (h : ∀ a, LaneFree (f · a)) (l : List α) :
    LaneFree fun s => l.foldl f s := by
  induction l with
  | nil => exact laneFree_id
  | cons a l ih => exact .comp (f := (f · a)) ih (h a)

/-! ### Replies -/

/-- The reply with the requests `l` on the lanes of its state. -/
def Reply.withLanes (r : Reply) (l : PerMaster (List Request)) : Reply :=
  { r with state := r.state.withLanes l }

/-- The execution `run` of a command neither reads nor changes the lanes. -/
structure LaneFreeRun (run : State → Reply) : Prop where
  commutes (l : PerMaster (List Request)) (s : State) : run (s.withLanes l) = (run s).withLanes l

theorem laneFreeRun_refuse (c : ResultCode) : LaneFreeRun (refuse · c) := ⟨fun _ _ => rfl⟩

theorem LaneFreeRun.comp {run : State → Reply} {f : State → State} (hr : LaneFreeRun run)
    (hf : LaneFree f) : LaneFreeRun fun s => run (f s) := ⟨fun l s =>
  (congrArg run (hf.commutes l s)).trans (hr.commutes l (f s))⟩

theorem LaneFreeRun.ite {f g : State → Reply} {p : State → Prop} [∀ s, Decidable (p s)]
    (hp : ∀ l s, p (s.withLanes l) ↔ p s) (hf : LaneFreeRun f) (hg : LaneFreeRun g) :
    LaneFreeRun fun s => if p s then f s else g s := by
  refine ⟨fun l s => ?_⟩
  by_cases h : p s
  · simp only [hp, h, if_true, hf.commutes l s]
  · simp only [hp, h, if_false, hg.commutes l s]

theorem LaneFreeRun.reads {α : Type} {a : State → α} {g : α → State → Reply}
    (ha : ∀ l s, a (s.withLanes l) = a s) (hg : ∀ v, LaneFreeRun (g v)) :
    LaneFreeRun fun s => g (a s) s :=
  ⟨fun l s => (congrArg (g · _) (ha l s)).trans ((hg _).commutes l s)⟩

/-- A command in its slot, whose execution does not read the lanes. -/
theorem laneFree_issueCommand (n : Slot) (w : Word) {run : State → Reply} (h : LaneFreeRun run) :
    LaneFree (issueCommand n w run) := by
  refine .ite (p := fun s => s.isLoading = true) (fun _ _ => .rfl) laneFree_id
    (.ite (p := fun s => (s.slots.get n).awaiting = true) (fun _ _ => .rfl) ?_ ⟨fun l s => ?_⟩)
  · exact .reads (a := fun s => Report.commandOverrun n w (s.slots.get n).issued) (g := raise)
      (fun _ _ => rfl) fun x => (trafficFree_raise x).laneFree
  · have hrun := h.commutes l (beginIssue n w s)
    change giveResult n (run ((beginIssue n w s).withLanes l)).code
      (run ((beginIssue n w s).withLanes l)).data (run ((beginIssue n w s).withLanes l)).state = _
    rw [hrun]
    exact (trafficFree_giveResult n _ _).laneFree.commutes l _

/-! ### The commands -/

/-- A query of fields that the lanes do not decide. -/
theorem laneFreeRun_query (n : Slot) {fields : State → List Field}
    (h : ∀ l s, fields (s.withLanes l) = fields s) :
    LaneFreeRun fun s => queryReply s n (fields s) := by
  refine ⟨fun l s => ?_⟩
  have hpage : pageOf (fields (s.withLanes l)) ((s.withLanes l).page n) =
      pageOf (fields s) (s.page n) := by
    rw [h]
    rfl
  unfold queryReply
  rw [hpage]
  cases pageOf (fields s) (s.page n) <;> rfl

theorem laneFreeRun_refuseRobot (n : Slot) (c : ResultCode) : LaneFreeRun (refuseRobot n c) :=
  ⟨fun _ _ => rfl⟩

theorem laneFreeRun_robotDone (r : Robot) : LaneFreeRun (robotDone r) := ⟨fun _ _ => rfl⟩

theorem laneFreeRun_robotCommand (n : Slot) {act : Robot → State → Reply}
    (h : ∀ r, LaneFreeRun (act r)) : LaneFreeRun (robotCommand n act) := by
  refine .ite (p := fun s => s.isSafe = true) (fun _ _ => .rfl) (laneFreeRun_refuseRobot n _)
    ⟨fun l s => ?_⟩
  have hnamed : namedRobot n (s.withLanes l) = namedRobot n s := rfl
  rw [hnamed]
  cases namedRobot n s with
  | none => rfl
  | some r => exact (h r).commutes l s

theorem laneFree_enter (r : Robot) (new : RobotState) (hold : Option HoldCause)
    (fault : Option FaultCause) (cause : RobotCause) : LaneFree (enter r new hold fault cause) :=
  (trafficFree_enter r new hold fault cause).laneFree

/-- A change of a robot that is read from the state first. -/
theorem laneFree_changeRobot (r : Robot) {change : State → RobotChange → RobotChange}
    (h : ∀ l s, change (s.withLanes l) = change s) : LaneFree fun s => changeRobot r (change s) s :=
  .reads (a := change) (g := changeRobot r) h fun f => (trafficFree_changeRobot r f).laneFree

theorem laneFreeRun_armRobot (n : Slot) (r : Robot) : LaneFreeRun (armRobot n r) :=
  .ite (p := fun s => (s.robot r).state = .offline) (fun _ _ => .rfl)
    (.comp (laneFreeRun_robotDone r) (laneFree_enter ..)) (laneFreeRun_refuseRobot n _)

theorem laneFreeRun_clearRobot (n : Slot) (r : Robot) : LaneFreeRun (clearRobot n r) :=
  .ite (p := fun s => (s.robot r).state = .faulted) (fun _ _ => .rfl)
    (.comp (laneFreeRun_robotDone r) (laneFree_enter ..)) (laneFreeRun_refuseRobot n _)

theorem laneFreeRun_holdRobot (n : Slot) (r : Robot) : LaneFreeRun (holdRobot n r) :=
  .ite (p := fun s => (s.robot r).state.active = true) (fun _ _ => .rfl)
    (.comp (laneFreeRun_robotDone r) (laneFree_enter ..))
    (.ite (p := fun s => (s.robot r).state = .held) (fun _ _ => .rfl) (laneFreeRun_robotDone r)
      (laneFreeRun_refuseRobot n _))

theorem laneFreeRun_releaseRobot (n : Slot) (r : Robot) : LaneFreeRun (releaseRobot n r) :=
  .ite (p := fun s => (s.robot r).state = .held ∧ ¬((s.robot r).owner = .line ∧ s.robots.lapsed = true))
    (fun _ _ => .rfl)
    (.comp (laneFreeRun_robotDone r) (laneFree_changeRobot r (change := fun s c =>
      (c.put { s.robot r with run := 0 }).enter r s.now .ready none none .release) fun _ _ => rfl))
    (laneFreeRun_refuseRobot n _)

theorem laneFreeRun_robotEnvelope (n : Slot) : LaneFreeRun (runRobotEnvelope n) := by
  have hrefuse (c : ResultCode) : LaneFreeRun (refuseEnvelope n c) := ⟨fun _ _ => rfl⟩
  refine .ite (p := fun s => s.isSafe = true) (fun _ _ => .rfl) (hrefuse _) ⟨fun l s => ?_⟩
  have hnamed : namedRobot n (s.withLanes l) = namedRobot n s := rfl
  dsimp only
  rw [hnamed]
  cases namedRobot n s with
  | none => rfl
  | some r =>
    have hact := LaneFreeRun.ite (p := fun s => (s.robot r).state.working = true) (fun _ _ => .rfl)
      (hrefuse .refusedState)
      (.ite (p := fun s => (givenEnvelope n s).settle.ordered = true) (fun _ _ => .rfl)
        (f := fun s =>
          { state := writeEnvelope r (givenEnvelope n s).settle s
            code := if (givenEnvelope n s).settle = givenEnvelope n s then .done else .doneAdjusted
            data := envelopeData r (writeEnvelope r (givenEnvelope n s).settle s) })
        ⟨fun _ _ => rfl⟩ (hrefuse .refusedParam))
    exact hact.commutes l s

theorem laneFreeRun_robotQuery (n : Slot) : LaneFreeRun (runRobotQuery n) := by
  refine ⟨fun l s => ?_⟩
  have hnamed : namedRobot n (s.withLanes l) = namedRobot n s := rfl
  unfold runRobotQuery
  rw [hnamed]
  cases namedRobot n s with
  | none => rfl
  | some r =>
    have hpage : pageOf (robotFields (s.withLanes l) r) ((s.withLanes l).page n) =
        pageOf (robotFields s r) (s.page n) := rfl
    dsimp only
    rw [hpage]
    cases pageOf (robotFields s r) (s.page n) <;> rfl

theorem laneFreeRun_quarantineSet (n : Slot) : LaneFreeRun (runQuarantineSet n) :=
  .ite (p := fun s => s.isSafe = true) (fun _ _ => .rfl) (laneFreeRun_refuse _)
    (.ite (p := fun s => 15 < s.paramBits n 0 0 8) (fun _ _ => .rfl) (laneFreeRun_refuse _)
      ⟨fun _ _ => rfl⟩)

theorem laneFreeRun_trackStart (n : Slot) : LaneFreeRun (runTrackStart n) := by
  refine .ite (p := fun s => trackStartBarred s = true) (fun _ _ => .rfl) (laneFreeRun_refuse _)
    ⟨fun l s => ?_⟩
  have hbits : (s.withLanes l).paramBits n 7 0 2 = s.paramBits n 7 0 2 := rfl
  dsimp only
  rw [hbits]
  cases NoVerdictAction.ofCode? (s.paramBits n 7 0 2) with
  | none => rfl
  | some a =>
    have hact := LaneFreeRun.ite
      (p := fun s => ((givenTrack n s a).inRange &&
        (givenTrack n s a).settle.reaches s.tracker.cameras) = true) (fun _ _ => .rfl)
      (f := fun s =>
        { state := s.setTracker (s.tracker.start (givenTrack n s a).settle)
          code := if (givenTrack n s a).settle = givenTrack n s a then .done else .doneAdjusted
          data := pageOne (trackFields (some (givenTrack n s a).settle)) })
      ⟨fun _ _ => rfl⟩ (laneFreeRun_refuse .refusedParam)
    exact hact.commutes l s

/-- A step whose reply has a code and data read before it. -/
theorem LaneFreeRun.of {f : State → State} {code : State → ResultCode}
    {data : State → Option (List Word)} (hf : LaneFree f)
    (hc : ∀ l s, code (s.withLanes l) = code s) (hd : ∀ l s, data (s.withLanes l) = data s) :
    LaneFreeRun fun s => { state := f s, code := code s, data := data s } := ⟨fun l s => by
  rw [hf.commutes, hc, hd]
  rfl⟩

theorem laneFreeRun_trackStop : LaneFreeRun runTrackStop :=
  .ite (p := fun s => s.isSafe = true ∨ s.tracker.running = false) (fun _ _ => .rfl)
    (laneFreeRun_refuse _)
    (.of (f := fun s => raise (droppedReport s.tracker) (s.setTracker s.tracker.stop))
      (code := fun _ => .done)
      (data := fun s =>
        pageOne (byteOf s.tracker.queue.length :: counterFields s.tracker.stop.counters))
      (.reads (a := fun s => droppedReport s.tracker) (g := fun x s => raise x (s.setTracker s.tracker.stop))
        (fun _ _ => rfl) fun x =>
          .comp (f := fun s => s.setTracker s.tracker.stop) (trafficFree_raise x).laneFree
            ⟨fun _ _ => rfl⟩)
      (fun _ _ => rfl) fun _ _ => rfl)

theorem laneFreeRun_trackQuery (n : Slot) : LaneFreeRun (runTrackQuery n) := by
  refine ⟨fun l s => ?_⟩
  have hview : (s.withLanes l).paramBits n 0 0 2 = s.paramBits n 0 0 2 := rfl
  unfold runTrackQuery
  rw [hview]
  match s.paramBits n 0 0 2 with
  | 1 => exact (laneFreeRun_query n (fields := fun s => summaryFields s.tracker) fun _ _ => rfl).commutes l s
  | 2 => exact (laneFreeRun_query n (fields := fun s => settingsFields s.tracker) fun _ _ => rfl).commutes l s
  | 3 =>
    exact (LaneFreeRun.ite (p := fun s => 63 < s.paramBits n 0 8 8) (fun _ _ => .rfl)
      (laneFreeRun_refuse .refusedParam) (laneFreeRun_query n
        (fields := fun s => entryFields s.tracker.queue[s.paramBits n 0 8 8]?)
        fun _ _ => rfl)).commutes l s
  | 0 => rfl
  | _ + 4 => rfl

theorem laneFreeRun_timeSet (n : Slot) : LaneFreeRun (runTimeSet n) :=
  .ite (p := fun s => s.isSafe = true) (fun _ _ => .rfl) (laneFreeRun_refuse _)
    (.ite (p := fun s => maxSetSeconds < s.paramWord n 0) (fun _ _ => .rfl) (laneFreeRun_refuse _)
      ⟨fun _ _ => rfl⟩)

theorem laneFreeRun_timeQuery (n : Slot) : LaneFreeRun (runTimeQuery n) :=
  laneFreeRun_query n fun _ _ => rfl

theorem laneFreeRun_keepaliveSet (n : Slot) : LaneFreeRun (runKeepaliveSet n) :=
  .ite (p := fun s => s.isSafe = true) (fun _ _ => .rfl) (laneFreeRun_refuse _)
    (.ite (p := fun s => s.keepalive.state ≠ .unarmed) (fun _ _ => .rfl) (laneFreeRun_refuse _)
      (.ite (p := fun s => s.paramWord n 0 < 10 ∨ 10000 < s.paramWord n 0) (fun _ _ => .rfl)
        (laneFreeRun_refuse _) ⟨fun _ _ => rfl⟩))

theorem laneFreeRun_paceSet (n : Slot) : LaneFreeRun (runPaceSet n) := by
  refine .ite (p := fun s => s.isSafe = true) (fun _ _ => .rfl) (laneFreeRun_refuse _)
    ⟨fun l s => ?_⟩
  have hmaster : (s.withLanes l).paramBits n 0 0 8 = s.paramBits n 0 0 8 := rfl
  have hmode : (s.withLanes l).paramBits n 0 8 2 = s.paramBits n 0 8 2 := rfl
  dsimp only
  rw [hmaster, hmode]
  cases Master.ofNum? (s.paramBits n 0 0 8) with
  | none => rfl
  | some m =>
    match s.paramBits n 0 8 2 with
    | 1 =>
      exact (LaneFreeRun.ite (p := fun s => 7 < (givenPace n s).a ∨ 7 < (givenPace n s).b)
        (fun _ _ => .rfl) (laneFreeRun_refuse .refusedParam)
        (g := fun s => doPaceSet m (givenPace n s).clamp
          (if (givenPace n s).clamp = givenPace n s then .done else .doneAdjusted) s)
        ⟨fun _ _ => rfl⟩).commutes l s
    | 2 => rfl
    | 0 => rfl
    | _ + 3 => rfl

theorem laneFree_sendTransfers (ms : List TransferMsg) : LaneFree (sendTransfers ms) :=
  ⟨fun _ _ => rfl⟩

/-- A change of the window that is read from the state first. -/
theorem laneFree_changeWindow (cause : WindowCause) {change : State → ServiceWindow}
    (h : ∀ l s, change (s.withLanes l) = change s) :
    LaneFree fun s => changeWindow cause (change s) s :=
  .reads (a := fun s => (change s, s.window.state))
    (g := fun v s => raise (windowReport v.2 cause v.1) (setWin v.1 s))
    (fun l s => by rw [h]; rfl)
    fun v => .comp (f := setWin v.1) (trafficFree_raise _).laneFree ⟨fun _ _ => rfl⟩

theorem laneFree_drain (cause : WindowCause) : LaneFree (drain cause) :=
  .reads (a := fun s => forRobotSet s.window.robotSet .giveBack)
    (g := fun ms s => sendTransfers ms (changeWindow cause s.window.drained s)) (fun _ _ => rfl)
    fun ms => .comp (laneFree_sendTransfers ms)
      (laneFree_changeWindow cause (change := fun s => s.window.drained) fun _ _ => rfl)

theorem laneFree_openWindow (n : Slot) (gs : List Grant) : LaneFree fun s =>
    openWindow (min (s.paramWord n 0) s.window.maxDuration) gs (givenRobots n s) s :=
  .reads (a := fun s => forRobotSet (givenRobots n s) .request)
    (g := fun ms s => sendTransfers ms (changeWindow .grant
      (s.window.granted s.now (min (s.paramWord n 0) s.window.maxDuration) gs (givenRobots n s)) s))
    (fun _ _ => rfl)
    fun ms => .comp (laneFree_sendTransfers ms) (laneFree_changeWindow .grant (fun _ _ => rfl))

theorem laneFreeRun_serviceGrant (n : Slot) : LaneFreeRun (runServiceGrant n) := by
  refine .ite (p := fun s => (s.isSafe || s.loader.load.isSome || decide (s.window.state ≠ .keyed)) = true)
    (fun _ _ => .rfl) (laneFreeRun_refuse _)
    (.ite (p := fun s => s.paramWord n 0 = 0 ∨ 4 < s.paramBits n 1 0 8 ∨ namesOtherRobot n s = true)
      (fun _ _ => .rfl) (laneFreeRun_refuse _) ⟨fun l s => ?_⟩)
  have hgrants : givenGrants n (s.withLanes l) ((s.withLanes l).paramBits n 1 0 8) =
      givenGrants n s (s.paramBits n 1 0 8) := rfl
  dsimp only
  rw [hgrants]
  cases givenGrants n s (s.paramBits n 1 0 8) with
  | none => rfl
  | some gs =>
    have hopen := laneFree_openWindow n gs
    exact (LaneFreeRun.of hopen
      (code := fun s =>
        if min (s.paramWord n 0) s.window.maxDuration = s.paramWord n 0 then .done else .doneAdjusted)
      (data := fun s => grantData (min (s.paramWord n 0) s.window.maxDuration)
        (openWindow (min (s.paramWord n 0) s.window.maxDuration) gs (givenRobots n s) s).window)
      (fun _ _ => rfl) fun l s => (congrArg
        (fun u : State => grantData (min (s.paramWord n 0) s.window.maxDuration) u.window)
        (hopen.commutes l s)).trans rfl).commutes l s

theorem laneFreeRun_serviceExtend (n : Slot) : LaneFreeRun (runServiceExtend n) :=
  .ite (p := fun s => (s.isSafe || decide (s.window.state ≠ .opened)) = true) (fun _ _ => .rfl)
    (laneFreeRun_refuse _) ⟨fun _ _ => rfl⟩

theorem laneFreeRun_serviceRevoke : LaneFreeRun runServiceRevoke :=
  .ite (p := fun s => (s.isSafe || decide (s.window.state ≠ .opened)) = true) (fun _ _ => .rfl)
    (laneFreeRun_refuse _)
    (.of (code := fun _ => .done) (data := fun s => pageOne [.half s.window.session])
      (laneFree_drain .revoke) (fun _ _ => rfl) fun _ _ => rfl)

theorem laneFreeRun_switchQuery (n : Slot) : LaneFreeRun (runSwitchQuery n) := by
  refine ⟨fun l s => ?_⟩
  have hbits : (s.withLanes l).paramBits n 0 0 8 = s.paramBits n 0 0 8 := rfl
  unfold runSwitchQuery
  rw [hbits]
  cases SwPort.ofNum? (s.paramBits n 0 0 8) with
  | none => rfl
  | some p => exact (laneFreeRun_query n (fields := (switchFields · p)) fun _ _ => rfl).commutes l s

end Sys2Proof.Machine

namespace Sys2Proof.Machine

/-! ### Opcode words and the lanes -/

/-- What every opcode word does neither reads nor changes the lanes. -/
def IssueLaneFree (issue : Slot → Word → State → State) : Prop := ∀ n w, LaneFree (issue n w)

theorem laneFree_issueReload {reexam : State → State} (h : LaneFree reexam) (n : Slot)
    (rest : BitVec 24) : LaneFree (issueReload reexam n rest) := by
  have hgive (c : ResultCode) : LaneFree (giveResult n c none) :=
    (trafficFree_giveResult n c none).laneFree
  have hbegin : LaneFree (beginIssue n (opcodeWord 0x60 rest)) := ⟨fun _ _ => rfl⟩
  have hresets : LaneFree reloadResets := ⟨fun _ _ => rfl⟩
  refine .ite (p := fun s => s.isLoading = true) (fun _ _ => .rfl) laneFree_id
    (.ite (p := fun s => (s.slots.get n).awaiting = true) (fun _ _ => .rfl)
      (.reads (a := fun s => Report.commandOverrun n (opcodeWord 0x60 rest) (s.slots.get n).issued)
        (g := raise) (fun _ _ => rfl) fun x => (trafficFree_raise x).laneFree)
      (.comp (f := beginIssue n (opcodeWord 0x60 rest))
        (g := fun u => if reloadBarred u = true then giveResult n .refusedState none u
          else reexam (reloadResets (giveResult n .done none u)))
        (.ite (p := fun s => reloadBarred s = true) (fun _ _ => .rfl) (hgive _)
          (.comp (f := fun s => reloadResets (giveResult n .done none s)) h
            (.comp (f := giveResult n .done none) hresets (hgive _)))) hbegin))

theorem laneFree_issueInstr {reload : Slot → BitVec 24 → State → State}
    (h : ∀ n rest, LaneFree (reload n rest)) (i : Instr) : LaneFree (issueInstr reload i) := by
  cases i with
  | robotArm n rest =>
    exact laneFree_issueCommand n _ (laneFreeRun_robotCommand n (laneFreeRun_armRobot n))
  | robotClear n rest =>
    exact laneFree_issueCommand n _ (laneFreeRun_robotCommand n (laneFreeRun_clearRobot n))
  | robotHold n rest =>
    exact laneFree_issueCommand n _ (laneFreeRun_robotCommand n (laneFreeRun_holdRobot n))
  | robotRelease n rest =>
    exact laneFree_issueCommand n _ (laneFreeRun_robotCommand n (laneFreeRun_releaseRobot n))
  | robotEnvelope n rest => exact laneFree_issueCommand n _ (laneFreeRun_robotEnvelope n)
  | robotQuery n rest => exact laneFree_issueCommand n _ (laneFreeRun_robotQuery n)
  | quarantineSet n rest => exact laneFree_issueCommand n _ (laneFreeRun_quarantineSet n)
  | trackStart n rest => exact laneFree_issueCommand n _ (laneFreeRun_trackStart n)
  | trackStop n rest => exact laneFree_issueCommand n _ laneFreeRun_trackStop
  | trackQuery n rest => exact laneFree_issueCommand n _ (laneFreeRun_trackQuery n)
  | timeSet n rest => exact laneFree_issueCommand n _ (laneFreeRun_timeSet n)
  | timeQuery n rest => exact laneFree_issueCommand n _ (laneFreeRun_timeQuery n)
  | keepaliveSet n rest => exact laneFree_issueCommand n _ (laneFreeRun_keepaliveSet n)
  | paceSet n rest => exact laneFree_issueCommand n _ (laneFreeRun_paceSet n)
  | serviceGrant n rest => exact laneFree_issueCommand n _ (laneFreeRun_serviceGrant n)
  | serviceExtend n rest => exact laneFree_issueCommand n _ (laneFreeRun_serviceExtend n)
  | serviceRevoke n rest => exact laneFree_issueCommand n _ laneFreeRun_serviceRevoke
  | switchQuery n rest => exact laneFree_issueCommand n _ (laneFreeRun_switchQuery n)
  | reload n rest => exact h n rest
  | unknownOpcode n word => exact laneFree_issueCommand n _ (laneFreeRun_refuse _)
  | _ => exact laneFree_id

theorem issueOpcode_laneFree {reload : Slot → BitVec 24 → State → State}
    (h : ∀ n rest, LaneFree (reload n rest)) : IssueLaneFree (issueOpcode reload) := by
  intro n w
  unfold issueOpcode
  cases commandOf n w with
  | none => exact laneFree_id
  | some i => exact laneFree_issueInstr h i

theorem issueWithin_laneFree : IssueLaneFree issueWithin :=
  issueOpcode_laneFree (laneFree_issueReload ⟨fun _ _ => rfl⟩)

/-! ### The command page, and what the owners do, and the lanes -/

theorem laneFree_pageWord {issue : Slot → Word → State → State} (h : IssueLaneFree issue)
    (alone : Bool) (o : Nat) (w : WriteWord) : LaneFree (pageWord issue alone o w) := by
  have hif {p : Prop} [Decidable p] {f : State → State} (hf : LaneFree f) :
      LaneFree fun s => if p then f s else s :=
    .ite (p := fun _ => p) (fun _ _ => .rfl) hf laneFree_id
  rcases page_places o with rfl | rfl | hbeyond | ⟨n, i, hlt, rfl⟩
  · exact .congr (hif (trafficFree_keepaliveValue _).laneFree) (pageWord_keepalive issue alone w)
  · exact .congr (hif (trafficFree_takeIndexValue _).laneFree) (pageWord_takeIndex issue alone w)
  · exact .congr laneFree_id fun _ => pageWord_beyond hbeyond
  · obtain hparam | rfl | rfl : i < 14 ∨ i = 14 ∨ i = 15 := by omega
    · exact .congr (g := writeParam n i w) ⟨fun _ _ => rfl⟩ fun _ => pageWord_param hparam
    · exact .congr laneFree_id fun _ => pageWord_gap
    · exact .congr (hif (h n _)) (pageWord_opcode issue alone n w)

theorem laneFree_pageWords {issue : Slot → Word → State → State} (h : IssueLaneFree issue)
    (alone : Bool) (o : Nat) (ws : List WriteWord) : LaneFree (pageWords issue alone o ws) := by
  induction ws generalizing o with
  | nil => exact laneFree_id
  | cons w ws ih => exact .comp (f := pageWord issue alone o w) (ih (o + 1)) (laneFree_pageWord h ..)

theorem laneFree_pageWrite {issue : Slot → Word → State → State} (h : IssueLaneFree issue)
    (m : Master) (o : Nat) (len : BurstLen) (ws : List WriteWord) :
    LaneFree (pageWrite issue m o len ws) :=
  .ite (p := fun s => m = .line ∧ s.isLoading = false) (fun _ _ => .rfl) (laneFree_pageWords h ..)
    laneFree_id

theorem laneFree_statusWrite (m : Master) (o : Nat) (len : BurstLen) (ws : List WriteWord) :
    LaneFree (statusWrite m o len ws) := by
  unfold statusWrite
  cases robotOfOffset o with
  | none => exact laneFree_id
  | some r =>
    exact .ite (p := fun s => m = .robotlink ∧ len = .eight ∧ allEnabled ws = true ∧
        (s.robot r).lastHeartbeat ≠ some (StatusRecord.ofWords ws).heartbeat) (fun _ _ => .rfl)
      (laneFree_changeRobot r (change := fun s =>
        RobotChange.validHeartbeat r s (StatusRecord.ofWords ws)) fun _ _ => rfl) laneFree_id

theorem laneFree_takeVerdict (v : VerdictRecord) : LaneFree (takeVerdict v) := by
  have hraise {x : State → Report} (hx : ∀ l s, x (s.withLanes l) = x s) :
      LaneFree fun s => raise (x s) s :=
    .reads (g := raise) hx fun x => (trafficFree_raise x).laneFree
  refine ⟨fun l s => ?_⟩
  have hfind : (s.withLanes l).tracker.queue.find? v.matches = s.tracker.queue.find? v.matches := rfl
  unfold takeVerdict
  rw [hfind]
  cases s.tracker.queue.find? v.matches with
  | none =>
    exact (hraise (x := fun s => unmatchedReport s.tracker v) fun _ _ => rfl).commutes l s
  | some b =>
    dsimp only
    cases b.cams.get v.cam with
    | shot n => rfl
    | pass n d f => exact (trafficFree_raise _).laneFree.commutes l s
    | reject n d f => exact (trafficFree_raise _).laneFree.commutes l s
    | noVerdict n => exact (hraise (x := fun s => closedReport s.tracker v b) fun _ _ => rfl).commutes l s
    | awaited => rfl
    | missed => rfl
    | notFitted => rfl

theorem laneFree_verdictWrite (m : Master) (addr : Addr) (o : Nat) (len : BurstLen)
    (ws : List WriteWord) : LaneFree (verdictWrite m addr o len ws) := by
  refine .ite (p := fun s => m = .camera ∧ s.tracker.running = true) (fun _ _ => .rfl)
    ⟨fun l s => ?_⟩ laneFree_id
  have hread : readVerdict (s.withLanes l).tracker len ws = readVerdict s.tracker len ws := rfl
  rw [hread]
  cases readVerdict s.tracker len ws with
  | verdict v => exact (laneFree_takeVerdict v).commutes l s
  | malformed reason => exact (trafficFree_raise _).laneFree.commutes l s

theorem laneFree_passOrder (r : Robot) (mode : OrderMode) (ws : List WriteWord) :
    LaneFree (passOrder r mode ws) := by
  unfold passOrder
  cases mode with
  | fill =>
    exact laneFree_changeRobot r (change := fun s => RobotChange.passFill r s.now
      (orderTag (wordAt ws 0)) (wordAt ws 1).toNat (wordAt ws 2).toNat (wordAt ws 3).toNat
      (guardOf r ws s)) fun _ _ => rfl
  | hold =>
    exact laneFree_changeRobot r (change := fun s =>
      RobotChange.passStop r s.now (orderTag (wordAt ws 0)) .hold) fun _ _ => rfl
  | park =>
    exact laneFree_changeRobot r (change := fun s =>
      RobotChange.passStop r s.now (orderTag (wordAt ws 0)) .park) fun _ _ => rfl

theorem laneFree_decodeMailbox (o : Nat) (ws : List WriteWord) : LaneFree (decodeMailbox o ws) := by
  induction ws generalizing o with
  | nil => exact laneFree_id
  | cons w ws ih =>
    exact .comp (f := decodeMailboxWord o w) (ih (o + 1)) (trafficFree_decodeMailboxWord o w).laneFree

theorem handleOrder_laneFree {m : Master} {r : Request} {o : Nat} {s : State} {ws : List WriteWord}
    {effect : State → State} (ha : handleOrder m r o s = .accept ws effect) : LaneFree effect := by
  unfold handleOrder at ha
  split_ifs at ha
  · split at ha
    · cases ha
      exact laneFree_id
    · split at ha
      · cases ha
      · cases ha
        exact laneFree_passOrder ..
  · cases ha
    exact laneFree_id

/-- What the owner of an accepted request does neither reads nor changes the lanes. -/
theorem handle_laneFree {issue : Slot → Word → State → State} (h : IssueLaneFree issue) {m : Master}
    {r : Request} {p : Place} {s : State} {ws : List WriteWord} {effect : State → State}
    (ha : handle issue m r p s = .accept ws effect) : LaneFree effect := by
  unfold handle at ha
  split at ha
  · cases ha
    exact laneFree_id
  · unfold handleWrite at ha
    split at ha
    case h_1 | h_2 =>
      cases ha
      exact laneFree_id
    · exact handleOrder_laneFree ha
    · split_ifs at ha <;> cases ha
      · exact laneFree_statusWrite ..
      · exact laneFree_id
    · cases ha
      exact laneFree_verdictWrite ..
    · cases ha
      split_ifs
      · exact laneFree_decodeMailbox ..
      · exact laneFree_id
    · cases ha
      exact laneFree_pageWrite h ..
    · cases ha

/-! ### The examination of a request and the lanes -/

theorem laneFree_setMasterPort (m : Master) (p : PortState) : LaneFree (setMasterPort m p) :=
  ⟨fun _ _ => rfl⟩

theorem laneFree_setLimiter (m : Master) (x : Limiter) : LaneFree (setLimiter m x) :=
  ⟨fun _ _ => rfl⟩

theorem laneFree_countDenial (m : Master) (p : Particulars) : LaneFree (countDenial m p) := by
  refine ⟨fun l s => ?_⟩
  have hlimiter : (s.withLanes l).limiters.get m = s.limiters.get m := rfl
  unfold countDenial
  rw [hlimiter]
  dsimp only
  cases (s.limiters.get m).mode with
  | quiet => exact (trafficFree_raise _).laneFree.commutes l (setLimiter m _ s)
  | muted e n last => rfl

theorem laneFree_deny (m : Master) (r : Request) (cause : DenialCause) (region : Option RegionRef)
    (report : Option Report) : LaneFree (deny m r cause region report) := by
  have hdeliver (c : Completion) : LaneFree (deliver m c) := ⟨fun _ _ => rfl⟩
  cases report with
  | none => exact .comp (g := countDenial m _) (laneFree_countDenial m _) (hdeliver _)
  | some x =>
    exact .comp (g := countDenial m _) (laneFree_countDenial m _)
      (.comp (g := raise x) (trafficFree_raise x).laneFree (hdeliver _))

theorem laneFree_enterWaiting (m : Master) (x : Txn) (cost : Nat) :
    LaneFree (enterWaiting m x cost) := by
  have hnote : LaneFree (noteAdmission m) :=
    .ite (p := fun _ => m = .service) (fun _ _ => .rfl) ⟨fun _ _ => rfl⟩ laneFree_id
  exact .comp (f := fun s => setMasterPort m (.waiting x) (setPace m ((s.pacing.get m).charge cost) s))
    hnote ⟨fun _ _ => rfl⟩

theorem laneFree_examine {issue : Slot → Word → State → State} (h : IssueLaneFree issue) (m : Master)
    (r : Request) : LaneFree (examine issue m r) := by
  refine ⟨fun l s => ?_⟩
  have hplace : (s.withLanes l).map.place r.addr.toNat = s.map.place r.addr.toNat := rfl
  have hright : (s.withLanes l).window = s.window := rfl
  have hhandle : handle issue m r (s.map.place r.addr.toNat) (s.withLanes l) =
      handle issue m r (s.map.place r.addr.toNat) s := handle_setTransit ..
  unfold examine
  dsimp only
  rw [hplace, hright]
  cases deniedRight s.window m r.dir (s.map.place r.addr.toNat) with
  | some cause => exact (laneFree_deny ..).commutes l s
  | none =>
    dsimp only
    rw [hhandle]
    cases ha : handle issue m r (s.map.place r.addr.toNat) s with
    | refuse report => exact (laneFree_deny ..).commutes l s
    | accept ws effect =>
      have heffect := handle_laneFree h ha
      exact (LaneFree.ite (p := fun s => (s.pacing.get m).holds = true) (fun _ _ => .rfl)
        (laneFree_setMasterPort m (.held r))
        (.comp heffect (laneFree_enterWaiting ..))).commutes l s

theorem laneFree_reexamine {issue : Slot → Word → State → State} (h : IssueLaneFree issue)
    (m : Master) : LaneFree (reexamine issue m) := by
  refine ⟨fun l s => ?_⟩
  have hport : (s.withLanes l).transit.ports.get m = s.transit.ports.get m := rfl
  unfold reexamine
  rw [hport]
  cases s.transit.ports.get m with
  | held r => exact (laneFree_examine h m r).commutes l s
  | empty => rfl
  | waiting x => rfl
  | inMemory x => rfl

theorem laneFree_reexamineAll {issue : Slot → Word → State → State} (h : IssueLaneFree issue) :
    LaneFree (reexamineAll issue) :=
  .foldl (fun m => laneFree_reexamine h m) masters

theorem laneFree_issueReloadFull (n : Slot) (rest : BitVec 24) : LaneFree (issueReloadFull n rest) :=
  laneFree_issueReload (laneFree_reexamineAll issueWithin_laneFree) n rest

theorem issueFull_laneFree : IssueLaneFree issueFull := issueOpcode_laneFree laneFree_issueReloadFull

end Sys2Proof.Machine

namespace Sys2Proof.Machine

/-! ### The events that deliver completions, and the lanes -/

theorem laneFree_settleTest : LaneFree settleTest := by
  refine .ite (p := fun s => s.window.settles = true) (fun _ _ => .rfl) ?_ laneFree_id
  exact .reads (a := fun s => s.window)
    (g := fun w s => setWin { w with state := idleState w.key, grants := [], robotSet := .all none }
      (changeWindow .settled { w with state := idleState w.key } s))
    (fun _ _ => rfl)
    fun w => .comp (f := changeWindow .settled { w with state := idleState w.key })
      (g := setWin { w with state := idleState w.key, grants := [], robotSet := .all none })
      ⟨fun _ _ => rfl⟩ (laneFree_changeWindow .settled fun _ _ => rfl)

theorem laneFree_noteDelivery (m : Master) : LaneFree (noteDelivery m) :=
  .ite (p := fun _ => m = .service) (fun _ _ => .rfl)
    (.comp (f := fun s => setWin { s.window with inFlight := false } s) laneFree_settleTest
      ⟨fun _ _ => rfl⟩)
    laneFree_id

theorem laneFree_clearLatchesFrom (o n : Nat) : LaneFree (clearLatchesFrom o n) := by
  refine .foldl (fun i => ?_) (List.range n)
  cases SwPort.ofNum? (o + i) with
  | none => exact laneFree_id
  | some p => exact ⟨fun _ _ => rfl⟩

theorem shownMailbox_withLanes (l : PerMaster (List Request)) (s : State) (o : Nat)
    (data : List Word) : shownMailbox (s.withLanes l) o data = shownMailbox s o data := by
  induction data generalizing o with
  | nil => rfl
  | cons w ws ih => exact congrArg (_ :: ·) (ih (o + 1))

theorem deliveredData_withLanes (m : Master) (x : Txn) (data : List Word)
    (l : PerMaster (List Request)) (s : State) :
    deliveredData m x data (s.withLanes l) = deliveredData m x data s := by
  have horders : shownOrders (s.withLanes l) x.offset data = shownOrders s x.offset data := rfl
  unfold deliveredData
  rw [horders, shownMailbox_withLanes]

theorem laneFree_deliver (m : Master) (c : Completion) : LaneFree (deliver m c) := ⟨fun _ _ => rfl⟩

theorem laneFree_deliverOkay (m : Master) (x : Txn) (data : List Word) :
    LaneFree (deliverOkay m x data) := by
  have hnote : LaneFree (noteRead m x) :=
    .ite (p := fun _ => m = .line ∧ x.kind = .ports) (fun _ _ => .rfl)
      (laneFree_clearLatchesFrom ..) laneFree_id
  unfold deliverOkay
  cases x.dir with
  | write => exact laneFree_deliver ..
  | read =>
    exact .comp (g := noteRead m x) hnote (.reads (a := deliveredData m x data)
      (g := fun d => deliver m { status := .okay, data := d }) (deliveredData_withLanes m x data)
      fun d => laneFree_deliver ..)

theorem laneFree_completeTxn (m : Master) (x : Txn) (ok : Bool) (data : List Word) :
    LaneFree (completeTxn m x ok data) := by
  have hfree : LaneFree freePort := ⟨fun _ _ => rfl⟩
  have hfault : LaneFree (deliverFault m x) :=
    .comp (g := raise (.memoryFault m x.dir x.addr x.len x.region)) (trafficFree_raise _).laneFree
      (laneFree_deliver ..)
  exact .comp (g := noteDelivery m) (laneFree_noteDelivery m)
    (.ite (p := fun _ => ok = true) (fun _ _ => .rfl)
      (.comp (g := deliverOkay m x data) (laneFree_deliverOkay ..) hfree) (.comp hfault hfree))

theorem laneFree_refillEvent (m : Master) : LaneFree (refillEvent m) := by
  refine ⟨fun l s => ?_⟩
  have hpace : (s.withLanes l).pacing.get m = s.pacing.get m := rfl
  unfold refillEvent
  rw [hpace]
  dsimp only
  cases (s.pacing.get m).account with
  | none => rfl
  | some a =>
    exact (LaneFree.ite (p := fun s => refillDue s m = true) (fun _ _ => .rfl)
      (.comp (f := fun s => setPace m ((s.pacing.get m).expire a s.now) s)
        (laneFree_reexamine issueFull_laneFree m) ⟨fun _ _ => rfl⟩) laneFree_id).commutes l s

theorem laneFree_refuseHeld : LaneFree refuseHeld := by
  refine ⟨fun l s => ?_⟩
  have hport : (s.withLanes l).transit.ports.get .service = s.transit.ports.get .service := rfl
  unfold refuseHeld
  rw [hport]
  cases s.transit.ports.get .service with
  | held r => exact (laneFree_deny ..).commutes l s
  | empty => rfl
  | waiting x => rfl
  | inMemory x => rfl

theorem laneFree_refusalEvent : LaneFree refusalEvent :=
  .ite (p := fun s => s.window.refusal = true) (fun _ _ => .rfl)
    (.comp (f := refuseHeld)
      (g := fun u => settleTest (setWin { u.window with refusal := false } u))
      (.comp (f := fun u => setWin { u.window with refusal := false } u) laneFree_settleTest
        ⟨fun _ _ => rfl⟩) laneFree_refuseHeld)
    laneFree_id

theorem laneFree_loadEndEvent (pass : Bool) (store : Option Store) :
    LaneFree (loadEndEvent pass store) := by
  have hdelivered (kind : LoadKind) :
      LaneFree fun s => s.delivered kind (judgeLoad pass store) pass :=
    ⟨fun l s => by rw [delivered_eq, delivered_eq]; rfl⟩
  refine ⟨fun l s => ?_⟩
  have hload : (s.withLanes l).loader.load = s.loader.load := rfl
  unfold loadEndEvent
  rw [hload]
  cases s.loader.load with
  | none => rfl
  | some kind =>
    exact (LaneFree.comp (laneFree_reexamineAll issueFull_laneFree)
      (.comp trafficFree_judgeTimers.laneFree
        (.comp trafficFree_restarted.laneFree (hdelivered kind)))).commutes l s

theorem laneFree_cabinetResetEvent : LaneFree cabinetResetEvent := by
  have hreset : LaneFree fun s => resetTraffic (resetBlocks s) :=
    ⟨fun _ _ => rfl⟩
  exact .comp (g := reexamineAll issueFull) (laneFree_reexamineAll issueFull_laneFree)
    (.comp (g := startAfterReset) trafficFree_startAfterReset.laneFree hreset)

/-- An event whose own part neither reads nor changes the lanes, with the requests `l` on the lane of
`m` alone (R1, log 1). -/
theorem presented_of_laneFree {f : State → State} (hf : LaneFree f) {m : Master} {l : List Request}
    {s u : State} (hs : ∀ k, s.transit.lanes.get k = []) (hl : ∀ r ∈ l, r.wf = true)
    (hu : finishLanes (f s) = .next u) :
    ∃ t, finishLanes (f (setLane m l s)) = .next t ∧ Presented m l u t := by
  have hlanes (k : Master) : (f s).transit.lanes.get k = [] := by
    rw [hf.lanes]
    exact hs k
  rw [finishLanes_of_taken fun k _ => hlanes k] at hu
  cases hu
  rw [hf.setLane]
  exact finishLanes_setLane hlanes hl

/-- The events that can deliver a completion take the requests that wait as arrivals behind them. -/
theorem completing_presents {c : Instr} {m : Master} {l : List Request} {s u : State}
    (hs : ∀ k, s.transit.lanes.get k = []) (hl : ∀ r ∈ l, r.wf = true)
    (hc : (∃ m' x ok data, c = .memoryCompletion .current ok data ∧ s.transit.memPort = .master m' ∧
        s.transit.ports.get m' = .inMemory x) ∨
      (∃ m', c = .refillExpiry m') ∨ c = .serviceRefusal ∨ (∃ n rest, c = .reload n rest) ∨
      (∃ pass store, c = .loadEnd pass store) ∨ c = .cabinetReset ∨ ∃ key, c = .powerOn key)
    (hu : exec c s = .next u) : ∃ t, exec c (setLane m l s) = .next t ∧ Presented m l u t := by
  rcases hc with ⟨k, x, ok, data, rfl, hmem, hport⟩ | ⟨k, rfl⟩ | rfl | ⟨n, rest, rfl⟩ |
    ⟨pass, store, rfl⟩ | rfl | ⟨key, rfl⟩
  · have hexec (v : State) (hv : v.transit.current = some (k, x)) :
        exec (.memoryCompletion .current ok data) v =
          if answerFits x ok data = true then finishLanes (completeTxn k x ok data v)
          else .refused .malformed := by
      change execMemoryCompletion .current ok data v = _
      unfold execMemoryCompletion
      rw [hv]
    have hcurrent : s.transit.current = some (k, x) := by
      rw [Transit.current, hmem]
      dsimp only
      rw [hport]
    rw [hexec s hcurrent] at hu
    rw [hexec (setLane m l s) hcurrent]
    split_ifs at hu ⊢
    exact presented_of_laneFree (laneFree_completeTxn k x ok data) hs hl hu
  · exact presented_of_laneFree (laneFree_refillEvent k) hs hl hu
  · exact presented_of_laneFree laneFree_refusalEvent hs hl hu
  · exact presented_of_laneFree (laneFree_issueReloadFull n rest) hs hl hu
  · by_cases hwf : storeWf store = true
    · rw [exec_loadEnd hwf] at hu ⊢
      exact presented_of_laneFree (laneFree_loadEndEvent pass store) hs hl hu
    · rw [show exec (.loadEnd pass store) s = _ from if_neg hwf] at hu
      cases hu
  · exact presented_of_laneFree laneFree_cabinetResetEvent hs hl hu
  · exact presented_of_laneFree (f := powerOnEvent key) ⟨fun _ _ => rfl⟩ hs hl hu

/-- Settles O7: OKAY and error answers, and the requests that wait on a lane behind them. -/
theorem memoryAnswerIsDelivered : Obligations.MemoryAnswerIsDelivered :=
  ⟨fun _ _ _ _ => memoryAnswer_okay, fun _ _ _ _ => memoryAnswer_error, fun _ _ _ _ _ hs hl hc hu => completing_presents hs hl hc hu⟩

end Sys2Proof.Machine
